-- ==== Sys2Proof/Word.lean ====
section
/-!
DEFINITION. The word types of the register space (R69: every access is a whole 32-bit word) and of packets.
-/

namespace Sys2Proof

/-- A register word. -/
abbrev Word := BitVec 32

/-- A byte of a packet, a record or a buffer. -/
abbrev Byte := BitVec 8

end Sys2Proof
end

