-- ==== Sys2Proof/Syntax.lean ====
section
/-!
DEFINITION. The commands of the block: what a host sends, what the module's own clocks and timers do, and what
its pins, links and sensors report. Their meanings are in Sys2Proof/Machine/.
-/

namespace Sys2Proof

/-- The clock islands, in the order of SYS_CLK_STATUS (R42). -/
inductive Island where
  | ref | core | dsp | ctl | pwm | cva | cvb | eth | time | safe | logic | aon
  deriving DecidableEq, Repr

/-- The two supply feeds (R618). -/
inductive Feed where
  | a | b
  deriving DecidableEq, Repr

/-- The two Ethernet ports. -/
inductive EthPort where
  | eth1 | eth2
  deriving DecidableEq, Repr

/-- The contactors, with the indices of R409: main positive 0, main negative 1, precharge 2. -/
inductive Contactor where
  | mp | mn | pc
  deriving DecidableEq, Repr

/-- The CAN channels. -/
inductive CanCh where
  | cana | canb
  deriving DecidableEq, Repr

/-- The channels of the two safety inputs, by their bit numbers in SAFE_SI_STATUS (R427). -/
inductive SiCh where
  | si0a | si0b | si1a | si1b
  deriving DecidableEq, Repr

/-- The slow domains of posted writes (R82). -/
inductive Domain where
  | mram | cvr | phy | zsl | aon
  deriving DecidableEq, Repr

/-- The blocks with shadowed configuration (R77). -/
inductive Block where
  | ctl | cvl | est | thm | safe | cana | canb
  deriving DecidableEq, Repr

/-- A source of RCP packets (R474): a UDP address and port, CANA, the TWS mailbox, or the
neighbour at an Ethernet port that relays images (R595). -/
inductive Src where
  | udp (addr : BitVec 32) (port : BitVec 16)
  | cana
  | tws
  | relay (p : EthPort)
  deriving DecidableEq, Repr

/-- The context of an RCP request: its source, the Ethernet port it entered by (R569; of no meaning for CANA and
TWS), whether it is in the legacy form RCP-1 (R466), its session and its sequence number. -/
structure Ctx where
  src : Src
  port : EthPort
  v1 : Bool
  session : BitVec 32
  seq : BitVec 16
  deriving DecidableEq, Repr

/-- The path of a register access: a register opcode of an RCP request, or the TWS register window. -/
inductive Path where
  | rcp (c : Ctx)
  | win
  deriving DecidableEq, Repr

/-- The end of a start-up (R52): when it ends, in ms from the zero instant, and which auxiliary contacts show their
contactor closed at step 8, contactor 0 first. -/
structure BootResult where
  milliseconds : Nat
  auxClosed : List Bool
  deriving DecidableEq, Repr

/-- What the boot ROM finds at step 2 and 4 (R52, R54, R588): SERVICE_REQ asserted, and the flash banks SUP A, SUP B,
PLN A, PLN B (bits 0 to 3) that do not read without error. -/
structure BootPins where
  svcReq : Bool
  bad : BitVec 4
  deriving DecidableEq, Repr

/-- A board slot of a frame, or a block of a scan, as it reaches the module (R105, R117): the board number the slot
stands for, whether a board has written it, whether its CRC holds, its status word and its 16 readings. A board without
an entry is an EMPTY slot. -/
structure BoardSlot where
  k : Nat
  written : Bool
  crcOk : Bool
  status : BitVec 32
  readings : List (BitVec 24)
  deriving DecidableEq, Repr

/-- A BYPASS_REPORT (R175): 16 bypass currents of a board, 10 mA each. -/
structure BypassReport where
  k : Nat
  currents : List (BitVec 16)
  deriving DecidableEq, Repr

/-- A board found at enumeration (R119 to R121): serial, class, Caravan-2 capability, whether only port B reaches it,
the round trips of its probes from port A and from port B in 0.25 ns (none where it cannot be reached), its remote words
0 to 12, and whether it holds the comparator thresholds written to it (R402). -/
structure FoundBoard where
  serial : BitVec 64
  cls : BitVec 4
  c2 : Bool
  fromB : Bool
  probesA : List Nat
  probesB : List Nat
  words : List (BitVec 32)
  thresholds : Bool
  deriving DecidableEq, Repr

/-- What an enumeration finds: the boards in the order in which they lie from port A (`fromB` false) and then in the
order from port B, and the board numbers whose heartbeats reached port A and port B at step 1 (R126). -/
structure RingView where
  found : List FoundBoard
  heardA : List Nat
  heardB : List Nat
  deriving DecidableEq, Repr

/-- What restoration finds of a board (R124): the round trips of its probes from port A and from port B in 0.25 ns, and
the serial and class of a board that has come in its place. -/
structure BackBoard where
  k : Nat
  probesA : List Nat
  probesB : List Nat
  swapped : Option (BitVec 64 × BitVec 4)
  deriving DecidableEq, Repr

/-- The commands and events of the block: one constructor per row of spec/opcode_table.json, in its order. An
operand carries what the sender or the outside world supplies. -/
inductive Instr where
  /-- CONTROL_TICK (R298). -/
  | controlTick (iStr vStr vBus : BitVec 16) (iPh : List (BitVec 12)) (iAux : BitVec 14) (gate : BitVec 6)
  /-- OUTER_LOOP_SAMPLE (R302). -/
  | outerLoopSample
  /-- PWM_PERIOD_START (R294). -/
  | pwmPeriodStart
  /-- FRAME_START (R102). -/
  | frameStart (lastA : BitVec 6)
  /-- FRAME_RECEIVED (R112). -/
  | frameReceived (slots : List BoardSlot) (endB : Bool) (errors : Nat) (reports : List BypassReport)
  /-- CARAVAN1_SCAN (R117). -/
  | caravan1Scan (slots : List BoardSlot) (errors : Nat) (reports : List BypassReport) (lastA : Option (BitVec 6))
  /-- PROTECTION_TICK (R401). -/
  | protectionTick (ampl : BitVec 8)
  /-- ESTIMATION_TICK (R224). -/
  | estimationTick
  /-- MANAGEMENT_TICK (R32). -/
  | managementTick
  /-- DIO_CYCLE (R436). -/
  | dioCycle (currents outVolts : List Nat) (limit : BitVec 8) (volt : BitVec 16)
  /-- THERMAL_SCAN (R366). -/
  | thermalScan (pst : List Int) (die : Int)
  /-- SWEEP_BOUNDARY (R192). -/
  | sweepBoundary
  /-- RECORD_WRITE (R570). -/
  | recordWrite
  /-- FEED_PRESENT (R620). -/
  | feedPresent (f : Feed) (both ilHigh : Bool) (mv : BitVec 16) (b : BootPins)
  /-- FEED_ABSENT (R620). -/
  | feedAbsent (f : Feed) (ilHigh : Bool) (mv : BitVec 16)
  /-- BROWN_OUT (R56). -/
  | brownOut
  /-- SERVICE_REQ_WAKE (R46). -/
  | serviceReqWake (b : BootPins)
  /-- WAKE_CONTACT (R46). -/
  | wakeContact (b : BootPins)
  /-- WAKE_TIMER_EXPIRY (R51). -/
  | wakeTimerExpiry (b : BootPins)
  /-- SERVICE_REQ_RECOVERY (R54). -/
  | serviceReqRecovery
  /-- SERVICE_REQ_RELEASE (R54). -/
  | serviceReqRelease (waited : Nat) (b : BootPins)
  /-- BOOT_DONE (R52). -/
  | bootDone (r : BootResult)
  /-- BOOT_TIMEOUT (R53). -/
  | bootTimeout (b : BootPins)
  /-- BOOT_HEARTBEAT_LOSS (R53). -/
  | bootHeartbeatLoss (b : BootPins)
  /-- STATE_REQUEST (R63). -/
  | stateRequest (c : Ctx) (target : BitVec 8) (arg : BitVec 32)
  /-- WARM_RESET (R58). -/
  | warmReset (c : Ctx) (b : BootPins)
  /-- ENTER_RECOVERY (R57). -/
  | enterRecovery (c : Ctx) (b : BootPins)
  /-- ISOLATION_RESET (R418). -/
  | isolationReset (c : Ctx)
  /-- SET_PERSONALITY (R55). -/
  | setPersonality (c : Ctx) (p : BitVec 8)
  /-- COMMISSION_DONE (R59). -/
  | commissionDone (c : Ctx)
  /-- REINIT_CVL (R65). -/
  | reinitCvl (c : Ctx)
  /-- REINIT_CANA (R65). -/
  | reinitCana (c : Ctx)
  /-- REINIT_CANB (R65). -/
  | reinitCanb (c : Ctx)
  /-- REINIT_TWL (R65). -/
  | reinitTwl (c : Ctx) (free : Bool)
  /-- REINIT_ETH (R65). -/
  | reinitEth (c : Ctx) (port : BitVec 8)
  /-- REINIT_EIS (R65). -/
  | reinitEis (c : Ctx)
  /-- REINIT_EST (R65). -/
  | reinitEst (c : Ctx)
  /-- REINIT_DSP (R65). -/
  | reinitDsp (c : Ctx) (lane : BitVec 8)
  /-- STOP_TIMEOUT (R48). -/
  | stopTimeout
  /-- TEST_TIMEOUT (R46). -/
  | testTimeout
  /-- HOLD_TIMEOUT (R58). -/
  | holdTimeout
  /-- HOLD_CURRENT (R58). -/
  | holdCurrent
  /-- OASIS_HANDOFF (R279). -/
  | oasisHandoff
  /-- RST_LOCAL_PULSE (R417). -/
  | rstLocalPulse
  /-- RST_LONG (R417). -/
  | rstLong
  /-- SUPERVISOR_WATCHDOG (R24). -/
  | supervisorWatchdog
  /-- SUPERVISOR_EXCEPTION (R24). -/
  | supervisorException (b : BootPins)
  /-- CLOCK_LOSS (R29). -/
  | clockLoss (isl : Island)
  /-- CLOCK_RESTORE (R31). -/
  | clockRestore (isl : Island)
  /-- HEARTBEAT_LOSS (R20). -/
  | heartbeatLoss (bySp : Bool)
  /-- LOGIC_CLOCK_STOP (R19). -/
  | logicClockStop
  /-- REG_READ (R492). -/
  | regRead (c : Ctx) (addr : BitVec 32) (count : BitVec 16)
  /-- REG_WRITE (R492). -/
  | regWrite (c : Ctx) (addr : BitVec 32) (values : List (BitVec 32))
  /-- REG_MODIFY (R492). -/
  | regModify (c : Ctx) (addr mask value : BitVec 32)
  /-- REGISTER_WRITE (R71). -/
  | registerWrite (p : Path) (addr value : BitVec 32)
  /-- BIT_ALIAS_READ (R76). -/
  | bitAliasRead (p : Path) (addr : BitVec 32)
  /-- BIT_ALIAS_WRITE (R76). -/
  | bitAliasWrite (p : Path) (addr value : BitVec 32)
  /-- SHADOW_WRITE (R78). -/
  | shadowWrite (p : Path) (addr value : BitVec 32)
  /-- BLOCK_COMMIT (R78). -/
  | blockCommit (p : Path) (b : Block) (token : BitVec 16)
  /-- SHADOW_DISCARD (R78). -/
  | shadowDiscard (p : Path) (b : Block) (token : BitVec 16)
  /-- COMMIT_APPLY (R78). -/
  | commitApply (b : Block)
  /-- POSTED_WRITE (R82). -/
  | postedWrite (p : Path) (addr value : BitVec 32)
  /-- POSTED_WRITE_COMPLETE (R82). -/
  | postedWriteComplete (d : Domain)
  /-- POST_FAIL (R84). -/
  | postFail (d : Domain)
  /-- SNAP_TAKE (R86). -/
  | snapTake (p : Path)
  /-- SNAPSHOT (R86). -/
  | snapshot (c : Ctx)
  /-- SNAPSHOT_COPY (R86). -/
  | snapshotCopy
  /-- INT_REARM (R91). -/
  | intRearm (p : Path)
  /-- BOARD_MISSING (R112). -/
  | boardMissing (k : Nat)
  /-- BOARD_MISSING_CLEAR (R112). -/
  | boardMissingClear (k : Nat)
  /-- NO_READING_LIMIT (R113). -/
  | noReadingLimit (pos : Nat)
  /-- BOARD_RESPONSE (R115). -/
  | boardResponse (k : Nat) (code result : BitVec 8) (data : List (BitVec 8))
  /-- BOARD_COMMAND_RESEND (R115). -/
  | boardCommandResend (k : Nat) (code : BitVec 8)
  /-- BOARD_COMMAND_FAIL (R115). -/
  | boardCommandFail (k : Nat) (code : BitVec 8)
  /-- ADDRESS_TOKEN_TIMEOUT (R119). -/
  | addressTokenTimeout
  /-- ENUM_DONE (R118). -/
  | enumDone (v : RingView)
  /-- RING_RESTORE (R124). -/
  | ringRestore (back : List BackBoard)
  /-- KEEPALIVE_TAKEOVER (R125). -/
  | keepaliveTakeover
  /-- WADI_LOSS (R131). -/
  | wadiLoss (at_ : Nat)
  /-- WADI_TONE_RETURN (R130). -/
  | wadiToneReturn
  /-- WADI_LOW (R134). -/
  | wadiLow
  /-- WADI_TEST (R145). -/
  | wadiTest (c : Ctx) (k : BitVec 8)
  /-- BOARD_ACCEPT (R146). -/
  | boardAccept (c : Ctx) (k : BitVec 8)
  /-- REMOTE_WORD_WRITE (R127). -/
  | remoteWordWrite (p : Path) (value : BitVec 32)
  /-- REMOTE_MIRROR_REFRESH (R127). -/
  | remoteMirrorRefresh (words : List (Nat × List (BitVec 32))) (balState cvMask : List (Nat × BitVec 32))
  /-- STILLNESS_WINDOW_END (R152). -/
  | stillnessWindowEnd
  /-- OPEN_WIRE_TEST (R183). -/
  | openWireTest (c : Ctx) (k : BitVec 8)
  /-- WIRE_LEARN (R183). -/
  | wireLearn (c : Ctx)
  /-- WIRE_RES_SET (R183). -/
  | wireResSet (c : Ctx) (wire : BitVec 16) (res : BitVec 32)
  /-- IC_LEARN (R183). -/
  | icLearn (c : Ctx)
  /-- WIRE_LEARN_DONE (R160). -/
  | wireLearnDone
  /-- IC_LEARN_DONE (R161). -/
  | icLearnDone
  /-- SUM_CHECK (R162). -/
  | sumCheck
  /-- SUM_CHECK_CLEAR (R162). -/
  | sumCheckClear
  /-- DIAGNOSIS_OPEN_WIRE (R164). -/
  | diagnosisOpenWire
  /-- OPEN_WIRE_PERIODIC (R164). -/
  | openWirePeriodic (k : Nat)
  /-- OPEN_WIRE_DONE (R166). -/
  | openWireDone (k : Nat)
  /-- WIRE_BREAK_RETEST (R168). -/
  | wireBreakRetest (k : Nat)
  /-- CELL_FAULT_CLEAR (R168). -/
  | cellFaultClear (pos : Nat)
  /-- SOFT_LIMIT_SET (R170). -/
  | softLimitSet (pos : Nat) (high : Bool)
  /-- SOFT_LIMIT_CLEAR (R170). -/
  | softLimitClear (pos : Nat) (high : Bool)
  /-- POD_FAULT (R171). -/
  | podFault (pod : BitVec 2) (stuck : Bool)
  /-- POD_RECOVER (R316). -/
  | podRecover (pod : BitVec 2)
  /-- EIS_START (R216). -/
  | eisStart (c : Ctx) (mode n : BitVec 8)
  /-- EIS_STOP (R216). -/
  | eisStop (c : Ctx)
  /-- STEP_PULSE (R205). -/
  | stepPulse (c : Ctx) (amp : BitVec 32)
  /-- HEADROOM_RESUME (R190). -/
  | headroomResume
  /-- EIS_TIMEOUT (R194). -/
  | eisTimeout
  /-- RESULT_PUBLISH (R207). -/
  | resultPublish
  /-- EIS_HOLD_RELEASE (R207). -/
  | eisHoldRelease (p : Path)
  /-- FIT_DONE (R221). -/
  | fitDone
  /-- STEP_DONE (R204). -/
  | stepDone
  /-- STEP_PULSE_END (R205). -/
  | stepPulseEnd
  /-- REST_POINT (R231). -/
  | restPoint (pos : Nat)
  /-- VIRTUAL_REST (R232). -/
  | virtualRest (pos : Nat)
  /-- EST_INSERT (R262). -/
  | estInsert (c : Ctx) (first count : BitVec 16)
  /-- CAPACITY_SET (R262). -/
  | capacitySet (c : Ctx) (pos : BitVec 16) (cap : BitVec 32) (unc : BitVec 16)
  /-- EST_PERSIST (R262). -/
  | estPersist (c : Ctx)
  /-- PERSIST_DONE (R243). -/
  | persistDone (ok : Bool)
  /-- EST_PACK_WRITE (R258). -/
  | estPackWrite (p : Path) (value : BitVec 32)
  /-- BAL_POLICY (R290). -/
  | balPolicy (c : Ctx) (policy align : BitVec 8)
  /-- BAL_STOP (R290). -/
  | balStop (c : Ctx)
  /-- BAL_MANUAL (R290). -/
  | balManual (c : Ctx) (k : BitVec 8) (mask byp hold : BitVec 16)
  /-- OASIS_REPORT_READ (R290). -/
  | oasisReportRead (c : Ctx) (k : BitVec 8)
  /-- BALANCE_PLAN_READY (R266). -/
  | balancePlanReady
  /-- CV_OVERSHOOT (R278). -/
  | cvOvershoot
  /-- OASIS_REPORT_APPLY (R282). -/
  | oasisReportApply
  /-- LOOP_CLOSE (R308). -/
  | loopClose (c : Ctx)
  /-- LOOP_OPEN (R333). -/
  | loopOpen (c : Ctx)
  /-- FEEDBACK_ACK (R316). -/
  | feedbackAck (c : Ctx)
  /-- RC_RESET (R333). -/
  | rcReset (c : Ctx)
  /-- CTL_CTRL_FB_ACK (R327). -/
  | ctlCtrlFbAck (p : Path)
  /-- CTL_CTRL_RC_RESET (R327). -/
  | ctlCtrlRcReset (p : Path)
  /-- CTL_DEADLINE_MISS (R314). -/
  | ctlDeadlineMiss (outer : Bool)
  /-- GATE_FAULT (R315). -/
  | gateFault (phase : BitVec 3)
  /-- MIRAGE (R315). -/
  | mirage
  /-- AUX_MISMATCH (R315). -/
  | auxMismatch
  /-- PRECHARGE_DONE (R321). -/
  | prechargeDone
  /-- PRECHARGE_NO_CURRENT (R321). -/
  | prechargeNoCurrent
  /-- PRECHARGE_TIMEOUT (R321). -/
  | prechargeTimeout
  /-- SETPOINT (R337). -/
  | setpoint (c : Ctx) (bytes : List (BitVec 8))
  /-- SETPOINT_CAN_FRAME (R337). -/
  | setpointCanFrame (bytes : List (BitVec 8))
  /-- TIMED_SETPOINT_APPLY (R340). -/
  | timedSetpointApply
  /-- LIMIT_ENTRY_END (R345). -/
  | limitEntryEnd
  /-- SETPOINT_LATE (R343). -/
  | setpointLate
  /-- SETPOINT_LOSS (R343). -/
  | setpointLoss
  /-- RECIPE_WRITE (R346). -/
  | recipeWrite (c : Ctx) (recipe step : BitVec 8) (record : List (BitVec 8))
  /-- RECIPE_SEAL (R346). -/
  | recipeSeal (c : Ctx) (recipe count : BitVec 8) (limit : BitVec 32)
  /-- RECIPE_START (R351). -/
  | recipeStart (c : Ctx) (recipe first : BitVec 8)
  /-- RECIPE_STOP (R352). -/
  | recipeStop (c : Ctx)
  /-- GRADE_READ (R361). -/
  | gradeRead (c : Ctx) (first : BitVec 16) (count : BitVec 8)
  /-- RECIPE_TMAX_EXPIRY (R350). -/
  | recipeTmaxExpiry
  /-- RECIPE_STEP_START (R350). -/
  | recipeStepStart
  /-- RECIPE_TIME_LIMIT (R352). -/
  | recipeTimeLimit
  /-- PULSE_STEP_TOGGLE (R348). -/
  | pulseStepToggle
  /-- THROTTLE_STEP (R367). -/
  | throttleStep
  /-- THROTTLE_RECOVER (R367). -/
  | throttleRecover
  /-- RELEASE_READY (R371). -/
  | releaseReady
  /-- CHILLER_REQUEST (R374). -/
  | chillerRequest
  /-- CHILLER_REPLY (R374). -/
  | chillerReply (data : List (BitVec 8))
  /-- COOLANT_FAULT (R374). -/
  | coolantFault
  /-- THERMAL_RELEASE (R383). -/
  | thermalRelease (c : Ctx)
  /-- COOL_TEST (R383). -/
  | coolTest (c : Ctx) (duty6 duty7 : BitVec 8) (hold : BitVec 16)
  /-- COOL_TEST_END (R383). -/
  | coolTestEnd
  /-- SCS_TIMEOUT (R398). -/
  | scsTimeout
  /-- ZSL_SCS_BACKUP (R399). -/
  | zslScsBackup
  /-- AUX_OVERCURRENT (R395). -/
  | auxOvercurrent
  /-- CELL_LIMIT (R400). -/
  | cellLimit (pos : Nat) (high : Bool)
  /-- ENVELOPE_EXCEEDED (R425). -/
  | envelopeExceeded
  /-- SAFETY_INPUT_OPEN (R404). -/
  | safetyInputOpen (ch : SiCh)
  /-- SAFETY_INPUT_RELEASE (R404). -/
  | safetyInputRelease (ch : SiCh)
  /-- TEST_PULSE_FAULT (R405). -/
  | testPulseFault (ch : SiCh)
  /-- TEST_PULSE_FAULT_CLEAR (R405). -/
  | testPulseFaultClear (ch : SiCh)
  /-- DISCREPANCY_FAULT (R406). -/
  | discrepancyFault (si1 : Bool)
  /-- COIL_TEST_PULSE_END (R414). -/
  | coilTestPulseEnd (off : Bool)
  /-- CONTACTOR_CONFIRM (R412). -/
  | contactorConfirm (k : Contactor) (closed : Bool)
  /-- CLOSE_FAIL (R413). -/
  | closeFail (k : Contactor)
  /-- DROP_OUT (R413). -/
  | dropOut (k : Contactor)
  /-- WELD_SUSPECT (R416). -/
  | weldSuspect (k : Contactor)
  /-- CONTACTOR_TEST (R434). -/
  | contactorTest (c : Ctx) (k channel : BitVec 8)
  /-- CONTACTOR_TEST_HOLD_END (R434). -/
  | contactorTestHoldEnd
  /-- CONTACTOR_TEST_DONE (R434). -/
  | contactorTestDone
  /-- SAFE_SUMMARY (R433). -/
  | safeSummary (c : Ctx)
  /-- DI_STATE_CHANGE (R439). -/
  | diStateChange (x : Nat)
  /-- FIELD_SUPPLY_LOW (R435). -/
  | fieldSupplyLow
  /-- FIELD_SUPPLY_RECOVER (R435). -/
  | fieldSupplyRecover
  /-- DIO_DO_SET_WRITE (R443). -/
  | dioDoSetWrite (p : Path) (value : BitVec 32)
  /-- DO_HOST_TIMEOUT (R446). -/
  | doHostTimeout
  /-- DO_SHORT (R447). -/
  | doShort (x : Nat)
  /-- DO_RETRY (R447). -/
  | doRetry (cool : BitVec 8)
  /-- DO_THERMAL (R448). -/
  | doThermal (x : Nat)
  /-- DO_EXT_DRIVE (R449). -/
  | doExtDrive (x : Nat)
  /-- EXT_CLEAR (R449). -/
  | extClear (x : Nat)
  /-- CROSS_TEST_PULSE_END (R450). -/
  | crossTestPulseEnd
  /-- CROSS_ACK (R461). -/
  | crossAck (p : Path) (value : BitVec 32)
  /-- PT1000_SAMPLE (R453). -/
  | pt1000Sample (ohms : List Nat)
  /-- RCP_PACKET_RECEIVE (R469). -/
  | rcpPacketReceive (src : Src) (p : EthPort) (broadcast fragment : Bool) (bytes : List (BitVec 8))
  /-- COMMAND_START (R479). -/
  | commandStart
  /-- PING (R491). -/
  | ping (c : Ctx) (data : List (BitVec 8))
  /-- IDENTIFY (R491). -/
  | identify (c : Ctx)
  /-- SESSION_OPEN (R474). -/
  | sessionOpen (c : Ctx)
  /-- SESSION_CLOSE (R474). -/
  | sessionClose (c : Ctx)
  /-- SESSION_TIMEOUT (R474). -/
  | sessionTimeout (session : BitVec 32)
  /-- SUBSCRIBE (R481). -/
  | subscribe (c : Ctx) (mask : BitVec 128)
  /-- CAUSE_NOTIFY (R481). -/
  | causeNotify (session : BitVec 32)
  /-- AUTH_CHALLENGE (R483). -/
  | authChallenge (c : Ctx)
  /-- AUTH_RESPONSE (R483). -/
  | authResponse (c : Ctx) (mac : BitVec 256)
  /-- AUTH_DROP (R483). -/
  | authDrop (c : Ctx)
  /-- KEY_INIT (R484). -/
  | keyInit (c : Ctx) (key : BitVec 256)
  /-- KEY_ROTATE (R484). -/
  | keyRotate (c : Ctx) (wrapped : BitVec 256) (check : BitVec 64)
  /-- AUTH_EXPIRY (R483). -/
  | authExpiry (session : BitVec 32)
  /-- AUTH_LOCKOUT_END (R483). -/
  | authLockoutEnd
  /-- RCP_CAN_FRAME (R471). -/
  | rcpCanFrame (fd : Bool) (bytes : List (BitVec 8))
  /-- CAN_TRANSFER_TIMEOUT (R472). -/
  | canTransferTimeout
  /-- LINK_CHANGE (R494). -/
  | linkChange (p : EthPort) (up : Bool) (speed : BitVec 2) (duplex : Bool)
  /-- ETH_FRAME_INGRESS (R498). -/
  | ethFrameIngress (p : EthPort) (len : Nat) (dst src : BitVec 48) (tag : Option (BitVec 3 × BitVec 12)) (ptp : Bool) (full : BitVec 3)
  /-- IP_APPLY (R502). -/
  | ipApply (p : Path)
  /-- DHCP_RETRY (R502). -/
  | dhcpRetry (lease : Option (BitVec 32 × BitVec 32 × BitVec 32))
  /-- PTP_OFFSET_SAMPLE (R514). -/
  | ptpOffsetSample (at_ : Nat) (theta : Int) (delay : BitVec 32)
  /-- PTP_ANNOUNCE (R515). -/
  | ptpAnnounce (p : EthPort) (gm : BitVec 64) (port1 port2 : BitVec 4) (utc : BitVec 16) (utcValid ptpScale : Bool)
  /-- PTP_SYNC_TIMEOUT (R515). -/
  | ptpSyncTimeout
  /-- ANNOUNCE_TIMEOUT (R515). -/
  | announceTimeout
  /-- HOLD_MAX_EXPIRY (R517). -/
  | holdMaxExpiry
  /-- PTP_CFG_WRITE (R513). -/
  | ptpCfgWrite (p : Path) (addr value : BitVec 32)
  /-- TIME_SET_GO (R519). -/
  | timeSetGo (p : Path)
  /-- TIME_READ_LATCH (R507). -/
  | timeReadLatch
  /-- CAN_FRAME_RECEIVE (R535). -/
  | canFrameReceive (ch : CanCh) (ide : Bool) (id : BitVec 29) (rtr fdf brs esi : Bool) (data : List (BitVec 8))
  /-- CAN_RX_SELECT (R536). -/
  | canRxSelect (p : Path) (ch : CanCh) (value : BitVec 32)
  /-- CAN_TX_LOAD (R538). -/
  | canTxLoad (p : Path) (ch : CanCh) (value : BitVec 32)
  /-- CAN_TX_ABORT (R539). -/
  | canTxAbort (p : Path) (ch : CanCh) (value : BitVec 32)
  /-- CAN_TX_COMPLETE (R539). -/
  | canTxComplete (ch : CanCh)
  /-- CAN_ERROR (R541). -/
  | canError (ch : CanCh) (tx : Bool) (lec : BitVec 3) (dominant : Bool)
  /-- CAN_BUS_OFF_RECOVER (R542). -/
  | canBusOffRecover (ch : CanCh)
  /-- CAN_BO_RECOVER_WRITE (R542). -/
  | canBoRecoverWrite (p : Path) (ch : CanCh) (value : BitVec 32)
  /-- MBOX_STATUS (R554). -/
  | mboxStatus (addr : BitVec 7)
  /-- MBOX_PTR (R554). -/
  | mboxPtr (addr : BitVec 7) (offset : BitVec 16) (pec : Option (BitVec 8))
  /-- MBOX_WRITE (R554). -/
  | mboxWrite (addr : BitVec 7) (data : List (BitVec 8)) (pec : Option (BitVec 8))
  /-- MBOX_READ (R554). -/
  | mboxRead (addr : BitVec 7)
  /-- MBOX_GO (R473). -/
  | mboxGo (addr : BitVec 7) (len : BitVec 16) (pec : Option (BitVec 8))
  /-- MBOX_ACK (R473). -/
  | mboxAck (addr : BitVec 7) (pec : Option (BitVec 8))
  /-- WIN_ADDR (R554). -/
  | winAddr (addr : BitVec 7) (word : BitVec 32) (pec : Option (BitVec 8))
  /-- WIN_READ (R554). -/
  | winRead (addr : BitVec 7)
  /-- WIN_WRITE (R554). -/
  | winWrite (addr : BitVec 7) (value : BitVec 32) (pec : Option (BitVec 8))
  /-- WIN_READ_BLOCK (R554). -/
  | winReadBlock (addr : BitVec 7)
  /-- WIN_WRITE_BLOCK (R554). -/
  | winWriteBlock (addr : BitVec 7) (data : List (BitVec 8)) (pec : Option (BitVec 8))
  /-- IDENT (R554). -/
  | ident (addr : BitVec 7)
  /-- TWS_TIMEOUT (R555). -/
  | twsTimeout
  /-- TWL_GO (R556). -/
  | twlGo (p : Path) (value : BitVec 32) (clear : Option Bool)
  /-- TWL_TRANSFER_DONE (R556). -/
  | twlTransferDone (nack : Option (BitVec 6)) (data : List (BitVec 8))
  /-- TWL_ARB_LOST (R557). -/
  | twlArbLost (byte : BitVec 6) (bit : BitVec 3)
  /-- TWL_TIMEOUT (R556). -/
  | twlTimeout (free : Bool)
  /-- TWL_CLEAR (R558). -/
  | twlClear (p : Path) (value : BitVec 32) (free : Bool)
  /-- TWL_ABORT (R558). -/
  | twlAbort (p : Path) (value : BitVec 32)
  /-- TWL_PWR_CYCLE_END (R558). -/
  | twlPwrCycleEnd (free : Bool)
  /-- EVR_READ (R577). -/
  | evrRead (c : Ctx) (first : BitVec 32) (count : BitVec 8)
  /-- EVR_STATUS (R491). -/
  | evrStatus (c : Ctx)
  /-- EVR_CLEAR (R579). -/
  | evrClear (c : Ctx) (mask : BitVec 8)
  /-- EVR_CLEAR_DONE (R580). -/
  | evrClearDone
  /-- FW_BEGIN (R590). -/
  | fwBegin (c : Ctx) (typ : BitVec 8) (size : BitVec 32)
  /-- FW_DATA (R591). -/
  | fwData (c : Ctx) (offset : BitVec 32) (data : List (BitVec 8))
  /-- FW_VERIFY (R588). -/
  | fwVerify (c : Ctx)
  /-- FW_VERIFY_DONE (R588). -/
  | fwVerifyDone (readError : Bool)
  /-- FW_ACTIVATE_SUP (R597). -/
  | fwActivateSup (c : Ctx)
  /-- FW_ACTIVATE_PLN (R601). -/
  | fwActivatePln (c : Ctx)
  /-- FW_RELAY (R594). -/
  | fwRelay (c : Ctx) (port hops : BitVec 8)
  /-- FW_STATUS (R491). -/
  | fwStatus (c : Ctx)
  /-- TRANSFER_ABORT (R591). -/
  | transferAbort
  /-- FW_CONFIRM (R593). -/
  | fwConfirm
  /-- RELAY_FRAME (R594). -/
  | relayFrame (p : EthPort) (hop left : BitVec 8) (id : BitVec 32) (bytes : List (BitVec 8))
  /-- RELAY_PROGRESS (R596). -/
  | relayProgress (p : EthPort) (id : BitVec 32) (bytes : List (BitVec 8))
  /-- RELAY_RESEND (R595). -/
  | relayResend (seq : BitVec 16)
  /-- HANDOVER_READY (R598). -/
  | handoverReady (ok : Bool)
  /-- HANDOVER_READY_TIMEOUT (R600). -/
  | handoverReadyTimeout
  /-- HANDOVER_DONE (R598). -/
  | handoverDone (result : BitVec 8)
  /-- PLN_ACTIVATION_DONE (R602). -/
  | plnActivationDone (result : BitVec 8) (v : RingView)
  /-- PLN_HEARTBEAT_TIMEOUT (R603). -/
  | plnHeartbeatTimeout
  /-- RECOVERY_EXIT_TIMEOUT (R607). -/
  | recoveryExitTimeout (b : BootPins)
  /-- CHANGEOVER_CONFIRM (R623). -/
  | changeoverConfirm
  /-- CHANGEOVER_TIMEOUT (R623). -/
  | changeoverTimeout
  /-- FEED_IL_FAULT (R621). -/
  | feedIlFault (gates : Bool)
  /-- FEED_GO_A (R626). -/
  | feedGoA (p : Path) (ilHigh : Bool)
  /-- FEED_GO_B (R626). -/
  | feedGoB (p : Path) (ilHigh : Bool)
  /-- AUTO_RETURN (R626). -/
  | autoReturn (ilHigh : Bool)
  /-- SWAP_TEST (R629). -/
  | swapTest (p : Path) (ilHigh : Bool)
  /-- SWAP_TEST_PERIODIC (R629). -/
  | swapTestPeriodic (ilHigh : Bool)
  /-- SWAP_DWELL_END (R629). -/
  | swapDwellEnd (vmin iin : BitVec 16) (ilHigh : Bool)
  /-- STANDBY_ABSENT (R627). -/
  | standbyAbsent
  /-- STORE_OK (R622). -/
  | storeOk (mv : BitVec 16)
  /-- RAIL_FAULT (R622). -/
  | railFault (rail : Bool)
  /-- CAN_ARBITRATION_LOST (R539). -/
  | canArbitrationLost (ch : CanCh)
  /-- TWS_START_STOP (R555). -/
  | twsStartStop (stop : Bool)
  /-- MAC_ADDRESS_AGE_OUT (R495). -/
  | macAddressAgeOut (addr : BitVec 48)
  deriving DecidableEq, Repr

end Sys2Proof
end

