-- ==== Sys2Proof/Decode.lean ====
section
/-!
DEFINITION. Words of the table. spec/opcode_table.json gives none of its rows any bits (its `fields` are empty): commands are
RCP packets, register accesses, pins and the module's own clocks, and the packets have their own parser in Machine/Cmd.lean.
-/

namespace Sys2Proof

/-- The command that a word spells by the table's bits: none, for every word. -/
def decodeTableWord (_nbits _w : Nat) : Option Instr := none

end Sys2Proof
end

