-- ==== Sys2Proof/Config.lean ====
section
/-!
DEFINITION. What one module or one implementation fixes and the spec does not: constants without a body, so that a
statement about them holds for every value they may have. Each is named by an entry of the assumption log.
-/

namespace Sys2Proof.Config

/-- A free value, numbered by a counter of State (DESIGN CHOICE, log entry 3). -/
opaque freeValue : Nat → Nat

/-- HMAC-SHA-256 of a key and a message (R483, R484): the function is a standard the spec names and does not
state (DESIGN CHOICE, log entry 4). -/
opaque hmac : List Byte → List Byte → BitVec 256

/-- The phase φ_t of a tone of the impedance excitation, in turns (R186): fixed and not stated (DESIGN CHOICE, log
entry 15). -/
opaque phase : Nat → Rat

/-- π, and the sine and cosine of a number of turns, as CE0 and the lanes compute them (R186, R198, R217; DESIGN CHOICE,
log entry 38). -/
opaque pi : Rat
opaque sinTurn : Rat → Rat
opaque cosTurn : Rat → Rat

/-- The decimating filter of R196: the weight of a primary current sample by polyphase branch and by its place before the
sample instant (DESIGN CHOICE, log entry 152). -/
opaque filterTap : Nat → Nat → Rat

/-- Where the lanes' minimisation of R221 ends: which parameter (0 Rs, 1 R_fast, 2 R_slow, 3 W, 4 τ_fast, 5 τ_slow), the
tones used with Re Ẑ, Im Ẑ and UNC², and the parameters it starts from (DESIGN CHOICE, log entry 153). -/
opaque fitParam : Nat → List (Nat × Rat × Rat × Rat) → List Rat → Rat

/-- An impedance value of a tone without current (R199, R204): a quotient by zero. Arguments: the free-value counter,
position, tone and which value (DESIGN CHOICE, log entry 16). -/
opaque noCurrent : Nat → Nat → Nat → Nat → Nat

/-- The current in A that a power in W stands for at a string voltage of zero (R36): a quotient by zero (DESIGN CHOICE, log entry 17). -/
opaque currentAtZeroVolts : Rat → Rat

/-- The resistance in mΩ of a sense wire that has not been learned (R156, R160; DESIGN CHOICE, log entry 35). -/
opaque wireUnlearned : Nat → Rat

/-- The balancing current in A of a position that balances while its own reading, or its board's balance resistor, is
not known (R157; DESIGN CHOICE, log entry 36). Arguments: position and raw TIME. -/
opaque unknownCurrent : Nat → Nat → Rat

/-- Open-circuit voltage table of a chemistry pack, mV (R219): pack, branch (0 charge or only, 1 discharge), temperature
column 0 to 7, SOC point 0 to 100 (DESIGN CHOICE, log entry 14). -/
opaque ocvPoint : Nat → Nat → Nat → Nat → Rat

/-- Default model parameters of a pack (R218): 0 Rs, 1 R_fast, 2 R_slow (mΩ), 3 W, 4 τ_fast, 5 τ_slow (s); its
temperature factors E_X in K (R220), in the same order for 0 to 3; and the temperature of the defaults, 0.1 °C (DESIGN CHOICE, log
entry 14). -/
opaque packParam : Nat → Nat → Rat
opaque packFactor : Nat → Nat → Rat
opaque packTemp : Nat → Int

/-- The revision of the pack tables in a PLN image (R258; DESIGN CHOICE, log entry 14). -/
opaque packRev : List Byte → Nat

/-- The exponential function as the lanes compute it (R217, R220; DESIGN CHOICE, log entry 38). -/
opaque exp : Rat → Rat

/-- The five-section RC ladder of V_w (R217): time constant (s) and gain of a section per unit of W (DESIGN CHOICE, log entry 39). -/
opaque ladderTau : Nat → Rat
opaque ladderGain : Nat → Rat

/-- Process noise of V_fast and V_slow per tick and their variances at insertion, mV² (R224; DESIGN CHOICE, log entry 40). -/
opaque voltageNoise : Nat → Rat
opaque voltageStart : Nat → Rat

/-- A published value for which the spec gives no number: SOH_R before Rs_BOL is fixed, SOH_C without a rated capacity
(R223, R237; DESIGN CHOICE, log entry 41). -/
opaque unstated : Nat → Nat → Nat

/-- The temperature in °C of a PT1000 of a resistance in Ω by IEC 60751 (R453): a standard the spec names and does not
state (DESIGN CHOICE, log entry 48). -/
opaque pt1000 : Rat → Rat

/-- SHA-512, and Ed25519 verification under the key of a slot of the message with its signature (R587, R588): standards
the spec names and does not state (DESIGN CHOICE, log entry 55). -/
opaque sha512 : List Byte → BitVec 512
opaque ed25519 : Nat → List Byte → List Byte → Bool

/-- The bytes of the image of a type that the module was delivered with (R594; DESIGN CHOICE, log entry 56). -/
opaque delivered : Nat → List Byte

end Sys2Proof.Config
end

