-- ==== Sys2Proof/Machine/Bits.lean ====
section
/-!
DEFINITION. Bit fields, little-endian byte strings (R4, R465), the checksums the spec names (R103, R465) and
integer roundings.
-/

namespace Sys2Proof.Machine

/-- The low `n` bits set. -/
def lowMask (n : Nat) : Word := BitVec.ofNat 32 (2 ^ n - 1)

/-- Bits `lo` to `lo + n - 1` of a word, as a number. -/
def fieldOf (w : Word) (lo n : Nat) : Nat := ((w >>> lo) &&& lowMask n).toNat

/-- The word with bits `lo` to `lo + n - 1` replaced by the low `n` bits of `v`; no other bit changes. -/
def withField (w : Word) (lo n v : Nat) : Word :=
  (w &&& ~~~(lowMask n <<< lo)) ||| ((BitVec.ofNat 32 v &&& lowMask n) <<< lo)

/-- Bit `b` of a word. -/
def bitOf (w : Word) (b : Nat) : Bool := w.getLsbD b

/-- A number read as an `n`-bit two's complement value. -/
def signed (n v : Nat) : Int := if v % 2 ^ n < 2 ^ (n - 1) then (v % 2 ^ n : Nat) else (v % 2 ^ n : Nat) - (2 ^ n : Nat)

/-- The `n`-bit two's complement code of an integer (wrapping). -/
def unsigned (n : Nat) (i : Int) : Nat := (i % (2 ^ n : Nat)).toNat

/-- 1 for true, 0 for false. -/
def b2n (b : Bool) : Nat := if b then 1 else 0

/-- The number whose bit `i` is the `i`-th entry. -/
def bitsOf : List Bool → Nat
  | [] => 0
  | b :: t => b2n b + 2 * bitsOf t

/-- Clamp of an integer into `[lo, hi]`. -/
def clampI (lo hi x : Int) : Int := if x < lo then lo else if hi < x then hi else x

/-- Clamp of a rational into `[lo, hi]`. -/
def clampQ (lo hi x : Rat) : Rat := if x < lo then lo else if hi < x then hi else x

/-- Magnitude of a rational. -/
def absQ (x : Rat) : Rat := if x < 0 then -x else x

/-- The larger and the smaller of two rationals. -/
def maxQ (x y : Rat) : Rat := if x < y then y else x
def minQ (x y : Rat) : Rat := if y < x then y else x

/-- The nearest integer, halves away from zero (R4 gives units and no rounding: DEDUCED, log entry 12). -/
def roundQ (x : Rat) : Int := if x < 0 then -((-x + 1 / 2).floor) else (x + 1 / 2).floor

/-- The integer square root (largest `r` with `r * r ≤ n`), by bisection on `fuel` bits. -/
def isqrtAux : Nat → Nat → Nat → Nat
  | 0, _, r => r
  | k + 1, n, r => if (r + 2 ^ k) * (r + 2 ^ k) ≤ n then isqrtAux k n (r + 2 ^ k) else isqrtAux k n r

def isqrt (n : Nat) : Nat := isqrtAux (Nat.log2 n / 2 + 1) n 0

/-- Little-endian bytes of the low `8 * k` bits of a number. -/
def leBytes : Nat → Nat → List Byte
  | 0, _ => []
  | k + 1, n => BitVec.ofNat 8 n :: leBytes k (n / 256)

/-- The number that little-endian bytes spell. -/
def ofLe : List Byte → Nat
  | [] => 0
  | b :: t => b.toNat + 256 * ofLe t

def u8 (n : Nat) : List Byte := leBytes 1 n
def u16 (n : Nat) : List Byte := leBytes 2 n
def u32 (n : Nat) : List Byte := leBytes 4 n
def u64 (n : Nat) : List Byte := leBytes 8 n
def s16 (i : Int) : List Byte := leBytes 2 (unsigned 16 i)
def s32 (i : Int) : List Byte := leBytes 4 (unsigned 32 i)

/-- One step of a reflected CRC on a byte already folded in. -/
def crcBits (poly : Nat) : Nat → Nat → Nat
  | 0, c => c
  | k + 1, c => crcBits poly k (if c % 2 = 1 then (c / 2) ^^^ poly else c / 2)

/-- CRC-32C (R465): Castagnoli polynomial 0x1EDC6F41 reflected, initial value and final XOR 0xFFFFFFFF. -/
def crc32cRaw : Nat → List Byte → Nat
  | c, [] => c
  | c, b :: t => crc32cRaw (crcBits 0x82F63B78 8 (c ^^^ b.toNat)) t

def crc32c (l : List Byte) : Nat := crc32cRaw 0xFFFFFFFF l ^^^ 0xFFFFFFFF

/-- One bit of the CRC-16 of R103 (most significant bit first). -/
def crc16Bits (poly : Nat) : Nat → Nat → Nat
  | 0, c => c
  | k + 1, c => crc16Bits poly k (if c / 0x8000 % 2 = 1 then ((c * 2) % 0x10000) ^^^ poly else (c * 2) % 0x10000)

def crc16Raw : Nat → List Byte → Nat
  | c, [] => c
  | c, b :: t => crc16Raw (crc16Bits 0x1021 8 (c ^^^ (b.toNat * 256))) t

/-- CRC-16 of R103: polynomial 0x1021, initial value 0xFFFF. -/
def crc16 (l : List Byte) : Nat := crc16Raw 0xFFFF l

/-- One byte of the CRC-8 of R553. -/
def crc8Bits : Nat → Nat → Nat
  | 0, c => c
  | k + 1, c => crc8Bits k (if c / 0x80 % 2 = 1 then ((c * 2) % 0x100) ^^^ 0x07 else (c * 2) % 0x100)

def crc8Raw : Nat → List Byte → Nat
  | c, [] => c
  | c, b :: t => crc8Raw (crc8Bits 8 (c ^^^ b.toNat)) t

/-- The PEC of the two-wire service port: polynomial 0x07, initial value 0x00 (R553). -/
def crc8 (l : List Byte) : Nat := crc8Raw 0 l

/-- Replace entry `i` of a list; nothing changes past its end. -/
def setAt {α : Type} : List α → Nat → α → List α
  | [], _, _ => []
  | _ :: t, 0, x => x :: t
  | y :: t, i + 1, x => y :: setAt t i x

/-- Entry `i` of a list, or `d` past its end. -/
def getAt {α : Type} (l : List α) (i : Nat) (d : α) : α := (l[i]?).getD d

/-- A sparse table by key: the entry of `k`, or `d`. -/
def tabGet {α : Type} (t : List (Nat × α)) (k : Nat) (d : α) : α := (t.lookup k).getD d

/-- A sparse table with the entry of `k` set, keys rising. -/
def tabSet {α : Type} : List (Nat × α) → Nat → α → List (Nat × α)
  | [], k, x => [(k, x)]
  | (j, y) :: t, k, x =>
    if k < j then (k, x) :: (j, y) :: t else if k = j then (k, x) :: t else (j, y) :: tabSet t k x

/-- A sparse table without the entry of `k`. -/
def tabDel {α : Type} (t : List (Nat × α)) (k : Nat) : List (Nat × α) := t.filter (fun e => e.1 != k)

end Sys2Proof.Machine
end

