-- ==== Sys2Proof/Machine/Causes.lean ====
section
/-! DEFINITION. The 128 interrupt causes of R94: group and bit of each. -/

namespace Sys2Proof.Machine

/-- An interrupt cause: its group and its bit (R94). -/
structure Cause where
  g : Nat
  b : Nat
  deriving DecidableEq, Repr

namespace C

def STATE_CHANGE : Cause := ⟨0, 0⟩
def BOOT_DONE : Cause := ⟨0, 1⟩
def DIRECT_ENTER : Cause := ⟨0, 2⟩
def DIRECT_REJECT : Cause := ⟨0, 3⟩
def CLK_LOSS : Cause := ⟨0, 4⟩
def HOLD_END : Cause := ⟨0, 5⟩
def WRITE_REJECTED : Cause := ⟨0, 6⟩
def POST_COLLIDE : Cause := ⟨0, 7⟩
def CMD_DONE : Cause := ⟨1, 0⟩
def QUEUE_FULL : Cause := ⟨1, 1⟩
def CRC_DROP : Cause := ⟨1, 2⟩
def AUTH_FAIL : Cause := ⟨1, 3⟩
def AUTH_EXPIRED : Cause := ⟨1, 4⟩
def COMMIT_DONE : Cause := ⟨1, 5⟩
def COMMIT_REJECT : Cause := ⟨1, 6⟩
def POST_FAIL : Cause := ⟨1, 7⟩
def PWR_FAIL_WARN : Cause := ⟨2, 0⟩
def FEED_A_LOST : Cause := ⟨2, 1⟩
def FEED_B_LOST : Cause := ⟨2, 2⟩
def CHANGEOVER : Cause := ⟨2, 3⟩
def FEED_IL_FAULT : Cause := ⟨2, 4⟩
def STANDBY_ABSENT : Cause := ⟨2, 5⟩
def SWAP_TEST_DONE : Cause := ⟨2, 6⟩
def RAIL_FAULT : Cause := ⟨2, 7⟩
def RING_BREAK : Cause := ⟨3, 0⟩
def RING_RESTORED : Cause := ⟨3, 1⟩
def BOARD_LATE : Cause := ⟨3, 2⟩
def BOARD_MISSING : Cause := ⟨3, 3⟩
def ENUM_DONE : Cause := ⟨3, 4⟩
def GEN_FALLBACK : Cause := ⟨3, 5⟩
def FRAME_ERROR : Cause := ⟨3, 6⟩
def WADI_LOSS : Cause := ⟨3, 7⟩
def CELL_FAULT : Cause := ⟨4, 0⟩
def WIRE_BREAK : Cause := ⟨4, 1⟩
def SUM_CHECK : Cause := ⟨4, 2⟩
def OPEN_WIRE_DONE : Cause := ⟨4, 3⟩
def PRECISION_READY : Cause := ⟨4, 4⟩
def SOFT_OV : Cause := ⟨4, 5⟩
def SOFT_UV : Cause := ⟨4, 6⟩
def POD_FAULT : Cause := ⟨4, 7⟩
def SWEEP_DONE : Cause := ⟨5, 0⟩
def SWEEP_INCOMPLETE : Cause := ⟨5, 1⟩
def HEADROOM_PAUSE : Cause := ⟨5, 2⟩
def LOW_COHERENCE : Cause := ⟨5, 3⟩
def STEP_DONE : Cause := ⟨5, 4⟩
def FIT_DONE : Cause := ⟨5, 5⟩
def FIT_POOR : Cause := ⟨5, 6⟩
def RESULT_OVERRUN : Cause := ⟨5, 7⟩
def REST_POINT : Cause := ⟨6, 0⟩
def VIRTUAL_REST : Cause := ⟨6, 1⟩
def CAPACITY_LEARNED : Cause := ⟨6, 2⟩
def SOC_UNCERT_HIGH : Cause := ⟨6, 3⟩
def PERSIST_FAIL : Cause := ⟨6, 4⟩
def SLOT_RECOVERED : Cause := ⟨6, 5⟩
def INSERTION : Cause := ⟨6, 6⟩
def CAPABILITY_LOW : Cause := ⟨6, 7⟩
def PLAN_APPLIED : Cause := ⟨7, 0⟩
def TARGET_REACHED : Cause := ⟨7, 1⟩
def BAL_LIMIT : Cause := ⟨7, 2⟩
def BYPASS_SAT : Cause := ⟨7, 3⟩
def BAL_FAULT : Cause := ⟨7, 4⟩
def OASIS_HANDOFF : Cause := ⟨7, 5⟩
def OASIS_REPORT : Cause := ⟨7, 6⟩
def BAL_TIMEOUT : Cause := ⟨7, 7⟩
def LOOP_CLOSE : Cause := ⟨8, 0⟩
def LOOP_OPEN : Cause := ⟨8, 1⟩
def CTL_DEADLINE_MISS : Cause := ⟨8, 2⟩
def FEEDBACK_LOSS : Cause := ⟨8, 3⟩
def MIRAGE : Cause := ⟨8, 4⟩
def AUX_MISMATCH : Cause := ⟨8, 5⟩
def GATE_FAULT : Cause := ⟨8, 6⟩
def PRECHARGE_DONE : Cause := ⟨8, 7⟩
def LIMIT_ACTIVE : Cause := ⟨9, 0⟩
def SETPOINT_LOSS : Cause := ⟨9, 1⟩
def SETPOINT_LATE : Cause := ⟨9, 2⟩
def RAMP_DONE : Cause := ⟨9, 3⟩
def RECIPE_STEP : Cause := ⟨9, 4⟩
def RECIPE_DONE : Cause := ⟨9, 5⟩
def RECIPE_ABORT : Cause := ⟨9, 6⟩
def GRADE_READY : Cause := ⟨9, 7⟩
def THROTTLE_STEP : Cause := ⟨10, 0⟩
def THROTTLE_RECOVER : Cause := ⟨10, 1⟩
def NEAR_LIMIT : Cause := ⟨10, 2⟩
def SENSOR_OPEN : Cause := ⟨10, 3⟩
def SHUTDOWN : Cause := ⟨10, 4⟩
def RELEASE_READY : Cause := ⟨10, 5⟩
def COOLANT_FAULT : Cause := ⟨10, 6⟩
def DIE_HOT : Cause := ⟨10, 7⟩
def SEI : Cause := ⟨11, 0⟩
def SCS : Cause := ⟨11, 1⟩
def SI_DEMAND : Cause := ⟨11, 2⟩
def SI_DISCREPANCY : Cause := ⟨11, 3⟩
def WELD_SUSPECT : Cause := ⟨11, 4⟩
def TEST_PULSE_FAULT : Cause := ⟨11, 5⟩
def AUX_OVERCURRENT : Cause := ⟨11, 6⟩
def PARAM_CHANGED : Cause := ⟨11, 7⟩
def DI_CHANGE : Cause := ⟨12, 0⟩
def DI_WIRE_BREAK : Cause := ⟨12, 1⟩
def DO_SHORT : Cause := ⟨12, 2⟩
def DO_EXT_DRIVE : Cause := ⟨12, 3⟩
def DO_CROSS : Cause := ⟨12, 4⟩
def DO_THERMAL : Cause := ⟨12, 5⟩
def FIELD_SUPPLY_LOW : Cause := ⟨12, 6⟩
def PT1000_FAULT : Cause := ⟨12, 7⟩
def CANA_RX : Cause := ⟨13, 0⟩
def CANB_RX : Cause := ⟨13, 1⟩
def CAN_LOST : Cause := ⟨13, 2⟩
def CAN_BUS_OFF : Cause := ⟨13, 3⟩
def CAN_NO_ACK : Cause := ⟨13, 4⟩
def TWS_TIMEOUT : Cause := ⟨13, 5⟩
def TWL_ARB_LOST : Cause := ⟨13, 6⟩
def TWL_STUCK : Cause := ⟨13, 7⟩
def LINK_CHANGE : Cause := ⟨14, 0⟩
def PTP_LOCK : Cause := ⟨14, 1⟩
def PTP_UNLOCK : Cause := ⟨14, 2⟩
def HOLDOVER : Cause := ⟨14, 3⟩
def TIME_STEP : Cause := ⟨14, 4⟩
def GM_CHANGE : Cause := ⟨14, 5⟩
def TIME_VALID : Cause := ⟨14, 6⟩
def NET_DROP : Cause := ⟨14, 7⟩
def EVR_DROP : Cause := ⟨15, 0⟩
def EVR_NEAR_FULL : Cause := ⟨15, 1⟩
def EVR_CLEARED : Cause := ⟨15, 2⟩
def RELAY_PROGRESS : Cause := ⟨15, 3⟩
def IMAGE_OK : Cause := ⟨15, 4⟩
def IMAGE_BAD : Cause := ⟨15, 5⟩
def HANDOVER_DONE : Cause := ⟨15, 6⟩
def HANDOVER_FAIL : Cause := ⟨15, 7⟩

end C

end Sys2Proof.Machine
end

