-- ==== Sys2Proof/Machine/Fields.lean ====
section
/-!
DEFINITION. Names of register fields: the address of the word, the lowest bit and the width, from the same
register tables as Machine/RegMap.lean. An argument `i` numbers the words of a family from 0; `c` is 0 for
CANA and 1 for CANB.
-/

namespace Sys2Proof.Machine

/-- Where a register field lies. -/
structure Fld where
  addr : Nat
  lo : Nat
  n : Nat
  deriving DecidableEq, Repr

namespace F

def SYS_MODE_DIRECT_CAUSE : Fld := ⟨0x20, 16, 8⟩
def SYS_MODE_DIRECT : Fld := ⟨0x20, 8, 1⟩
def SYS_MODE_PERSONALITY : Fld := ⟨0x20, 0, 2⟩
def SYS_CLK_STATUS_LOST : Fld := ⟨0x24, 16, 12⟩
def SYS_CLK_STATUS_RUNNING : Fld := ⟨0x24, 0, 12⟩
def SYS_STATE_PREV_STATE : Fld := ⟨0x30, 16, 4⟩
def SYS_STATE_HOLD : Fld := ⟨0x30, 10, 1⟩
def SYS_STATE_ISO_LATCH : Fld := ⟨0x30, 9, 1⟩
def SYS_STATE_TRANSITION : Fld := ⟨0x30, 8, 1⟩
def SYS_STATE_STATE : Fld := ⟨0x30, 0, 4⟩
def SYS_RESET_CAUSE_PLN_ACT : Fld := ⟨0x34, 6, 1⟩
def SYS_RESET_CAUSE_RECOVERY_EXIT : Fld := ⟨0x34, 5, 1⟩
def SYS_RESET_CAUSE_WAKE_OASIS : Fld := ⟨0x34, 4, 1⟩
def SYS_RESET_CAUSE_WAKE_SHIP : Fld := ⟨0x34, 3, 1⟩
def SYS_RESET_CAUSE_WARM : Fld := ⟨0x34, 2, 1⟩
def SYS_RESET_CAUSE_BROWNOUT : Fld := ⟨0x34, 1, 1⟩
def SYS_RESET_CAUSE_POR : Fld := ⟨0x34, 0, 1⟩
def SYS_BOOT_BOOT_TIME : Fld := ⟨0x38, 16, 16⟩
def SYS_BOOT_BANK : Fld := ⟨0x38, 8, 1⟩
def SYS_BOOT_FAIL_COUNT : Fld := ⟨0x38, 0, 2⟩
def SYS_SNAP_BUSY : Fld := ⟨0x50, 8, 1⟩
def SNAP_SEQ_SEQ : Fld := ⟨0x54, 0, 32⟩
def SYS_AON_TIMER_TIMER : Fld := ⟨0x60, 0, 17⟩
def SYS_AON_CFG_SHIP_TIMER : Fld := ⟨0x64, 1, 1⟩
def SYS_AON_CFG_WAKE_EN : Fld := ⟨0x64, 0, 1⟩
def SYS_AON_STATUS_WAKE_SRC : Fld := ⟨0x68, 0, 3⟩
def SNAP_TIME_RAW_LO_VALUE : Fld := ⟨0x100, 0, 32⟩
def SNAP_TIME_RAW_HI_VALUE : Fld := ⟨0x104, 0, 32⟩
def SNAP_SYS_SEC_LO_VALUE : Fld := ⟨0x108, 0, 32⟩
def SNAP_SYS_SEC_HI_VALUE : Fld := ⟨0x10C, 0, 32⟩
def SNAP_SYS_NS_VALUE : Fld := ⟨0x110, 0, 32⟩
def SNAP_OP_SEC_VALUE : Fld := ⟨0x114, 0, 32⟩
def SNAP_COULOMB_LO_VALUE : Fld := ⟨0x118, 0, 32⟩
def SNAP_COULOMB_HI_VALUE : Fld := ⟨0x11C, 0, 32⟩
def SNAP_E_CHG_LO_VALUE : Fld := ⟨0x120, 0, 32⟩
def SNAP_E_CHG_HI_VALUE : Fld := ⟨0x124, 0, 32⟩
def SNAP_E_DIS_LO_VALUE : Fld := ⟨0x128, 0, 32⟩
def SNAP_E_DIS_HI_VALUE : Fld := ⟨0x12C, 0, 32⟩
def SNAP_CVL_ERR_VALUE : Fld := ⟨0x130, 0, 32⟩
def SNAP_CTL_MISS_VALUE : Fld := ⟨0x134, 0, 32⟩
def SNAP_RCP_DROP_VALUE : Fld := ⟨0x138, 0, 32⟩
def SNAP_CANA_ERR_VALUE : Fld := ⟨0x13C, 0, 32⟩
def SNAP_CANB_ERR_VALUE : Fld := ⟨0x140, 0, 32⟩
def SNAP_EVR_DROP_VALUE : Fld := ⟨0x144, 0, 32⟩
def SNAP_POWER_CYCLES_VALUE : Fld := ⟨0x148, 0, 32⟩
def SNAP_TIME_VALID_VALUE : Fld := ⟨0x14C, 0, 32⟩
def ID_SERIAL_LO_SERIAL : Fld := ⟨0x804, 0, 32⟩
def ID_SERIAL_HI_SERIAL : Fld := ⟨0x808, 0, 32⟩
def ID_MAC1_LO_MAC_LO : Fld := ⟨0x810, 0, 32⟩
def ID_MAC1_HI_MAC_HI : Fld := ⟨0x814, 0, 16⟩
def ID_MAC2_LO_MAC_LO : Fld := ⟨0x818, 0, 32⟩
def ID_MAC2_HI_MAC_HI : Fld := ⟨0x81C, 0, 16⟩
def ID_CRC_VALUE : Fld := ⟨0x83C, 0, 32⟩
def ID_STATUS_CAL_OK : Fld := ⟨0x840, 1, 1⟩
def ID_STATUS_ID_OK : Fld := ⟨0x840, 0, 1⟩
def ID_CAL_CRC_VALUE : Fld := ⟨0x850, 0, 32⟩
def CAL_GAIN_GAIN (i : Nat) : Fld := ⟨0xC00 + 8 * i, 0, 32⟩
def CAL_OFFSET_OFFSET (i : Nat) : Fld := ⟨0xC04 + 8 * i, 0, 32⟩
def INT_SUMMARY_GROUP : Fld := ⟨0x1000, 0, 16⟩
def INT_CTRL_GLOBAL_EN : Fld := ⟨0x1004, 0, 1⟩
def INT_CAUSE_CAUSE (i : Nat) : Fld := ⟨0x1100 + 8 * i, 0, 8⟩
def INT_MASK_MASK (i : Nat) : Fld := ⟨0x1104 + 8 * i, 0, 8⟩
def CMD_QUEUE_PRIO_USED : Fld := ⟨0x2000, 16, 8⟩
def CMD_QUEUE_NORMAL_USED : Fld := ⟨0x2000, 8, 8⟩
def CMD_QUEUE_SESSIONS : Fld := ⟨0x2000, 0, 4⟩
def CMD_CNT_ADMIT_COUNT : Fld := ⟨0x2004, 0, 32⟩
def CMD_CNT_FULL_COUNT : Fld := ⟨0x2008, 0, 32⟩
def CMD_CNT_HDR_COUNT : Fld := ⟨0x200C, 0, 32⟩
def CMD_CNT_CRC_COUNT : Fld := ⟨0x2010, 0, 32⟩
def CMD_CAN_RXID_IDE : Fld := ⟨0x2020, 31, 1⟩
def CMD_CAN_RXID_EN : Fld := ⟨0x2020, 30, 1⟩
def CMD_CAN_RXID_ID : Fld := ⟨0x2020, 0, 29⟩
def CMD_CAN_TXID_ID : Fld := ⟨0x2024, 0, 29⟩
def CMD_MBOX_RSP_LEN : Fld := ⟨0x2030, 16, 16⟩
def CMD_MBOX_OVERRUN : Fld := ⟨0x2030, 4, 1⟩
def CMD_MBOX_GO_REJECT : Fld := ⟨0x2030, 3, 1⟩
def CMD_MBOX_READY : Fld := ⟨0x2030, 2, 1⟩
def CMD_MBOX_BUSY : Fld := ⟨0x2030, 1, 1⟩
def FEED_STATUS_PF_WARN : Fld := ⟨0x3000, 15, 1⟩
def FEED_STATUS_STORE_OK : Fld := ⟨0x3000, 14, 1⟩
def FEED_STATUS_VETO : Fld := ⟨0x3000, 13, 1⟩
def FEED_STATUS_IL_DRIVE : Fld := ⟨0x3000, 12, 1⟩
def FEED_STATUS_IL_LEVEL : Fld := ⟨0x3000, 11, 1⟩
def FEED_STATUS_SWAP_BUSY : Fld := ⟨0x3000, 10, 1⟩
def FEED_STATUS_CHG_BUSY : Fld := ⟨0x3000, 9, 1⟩
def FEED_STATUS_SW_B : Fld := ⟨0x3000, 7, 1⟩
def FEED_STATUS_SW_A : Fld := ⟨0x3000, 6, 1⟩
def FEED_STATUS_B_PRESENT : Fld := ⟨0x3000, 5, 1⟩
def FEED_STATUS_A_PRESENT : Fld := ⟨0x3000, 4, 1⟩
def FEED_STATUS_ACTIVE : Fld := ⟨0x3000, 0, 2⟩
def FEED_CFG_SWAP_DWELL : Fld := ⟨0x3004, 16, 8⟩
def FEED_CFG_AUTO_RET : Fld := ⟨0x3004, 2, 1⟩
def FEED_CFG_PREF : Fld := ⟨0x3004, 1, 1⟩
def FEED_CFG_DUAL : Fld := ⟨0x3004, 0, 1⟩
def FEED_SWAP_CFG_PERIOD : Fld := ⟨0x3008, 0, 8⟩
def FEED_SWAP_VMIN : Fld := ⟨0x3010, 16, 16⟩
def FEED_SWAP_REASON : Fld := ⟨0x3010, 4, 4⟩
def FEED_SWAP_RESULT : Fld := ⟨0x3010, 0, 4⟩
def FEED_VA_VALUE : Fld := ⟨0x3020, 0, 32⟩
def FEED_VB_VALUE : Fld := ⟨0x3024, 0, 32⟩
def FEED_IIN_VALUE : Fld := ⟨0x3028, 0, 32⟩
def FEED_STORE_VALUE : Fld := ⟨0x302C, 0, 32⟩
def FEED_POWER_VALUE : Fld := ⟨0x3030, 0, 32⟩
def FEED_CHG_CNT_VALUE : Fld := ⟨0x3034, 0, 32⟩
def FEED_SWAP_CNT_VALUE : Fld := ⟨0x3038, 0, 32⟩
def CVL_CFG_FORCE_C1 : Fld := ⟨0x10000, 8, 1⟩
def CVL_CFG_BOARDS : Fld := ⟨0x10000, 0, 6⟩
def CVL_STATUS_GEN : Fld := ⟨0x10004, 30, 2⟩
def CVL_STATUS_MODE : Fld := ⟨0x10004, 28, 2⟩
def CVL_STATUS_BREAK_AFTER : Fld := ⟨0x10004, 22, 6⟩
def CVL_STATUS_FOUND : Fld := ⟨0x10004, 16, 6⟩
def CVL_STATUS_ENUM_BUSY : Fld := ⟨0x10004, 2, 1⟩
def CVL_STATUS_LINK_B : Fld := ⟨0x10004, 1, 1⟩
def CVL_STATUS_LINK_A : Fld := ⟨0x10004, 0, 1⟩
def CVL_FRAMES_COUNT : Fld := ⟨0x10018, 0, 32⟩
def CVL_ERRORS_COUNT : Fld := ⟨0x1001C, 0, 32⟩
def CVL_WADI_AMPL : Fld := ⟨0x10020, 24, 8⟩
def CVL_WADI_FIRST_DARK : Fld := ⟨0x10020, 16, 6⟩
def CVL_WADI_TRIP_BOARD : Fld := ⟨0x10020, 8, 6⟩
def CVL_WADI_TRIP_OT : Fld := ⟨0x10020, 4, 1⟩
def CVL_WADI_TRIP_UV : Fld := ⟨0x10020, 3, 1⟩
def CVL_WADI_TRIP_OV : Fld := ⟨0x10020, 2, 1⟩
def CVL_WADI_LOST_LATCH : Fld := ⟨0x10020, 1, 1⟩
def CVL_WADI_TONE : Fld := ⟨0x10020, 0, 1⟩
def CVL_RB_SEL_BOARD : Fld := ⟨0x10040, 8, 6⟩
def CVL_RB_SEL_INDEX : Fld := ⟨0x10040, 0, 5⟩
def CVL_BRD_CFG_CLASS (i : Nat) : Fld := ⟨0x10100 + 32 * i, 24, 2⟩
def CVL_BRD_CFG_BASE (i : Nat) : Fld := ⟨0x10100 + 32 * i, 8, 10⟩
def CVL_BRD_CFG_COUNT (i : Nat) : Fld := ⟨0x10100 + 32 * i, 0, 5⟩
def CVL_BRD_SERIAL_LO_SERIAL (i : Nat) : Fld := ⟨0x10104 + 32 * i, 0, 32⟩
def CVL_BRD_SERIAL_HI_SERIAL (i : Nat) : Fld := ⟨0x10108 + 32 * i, 0, 32⟩
def CVL_BRD_DELAY_DELAY_B (i : Nat) : Fld := ⟨0x1010C + 32 * i, 16, 16⟩
def CVL_BRD_DELAY_DELAY_A (i : Nat) : Fld := ⟨0x1010C + 32 * i, 0, 16⟩
def CVL_BRD_STATE_SERIAL_NEW (i : Nat) : Fld := ⟨0x10110 + 32 * i, 7, 1⟩
def CVL_BRD_STATE_HEARD_B (i : Nat) : Fld := ⟨0x10110 + 32 * i, 6, 1⟩
def CVL_BRD_STATE_HEARD_A (i : Nat) : Fld := ⟨0x10110 + 32 * i, 5, 1⟩
def CVL_BRD_STATE_SPLIT_B (i : Nat) : Fld := ⟨0x10110 + 32 * i, 4, 1⟩
def CVL_BRD_STATE_MISSING (i : Nat) : Fld := ⟨0x10110 + 32 * i, 3, 1⟩
def CVL_BRD_STATE_PRESENT (i : Nat) : Fld := ⟨0x10110 + 32 * i, 2, 1⟩
def CVL_BRD_STATE_CLASS_FOUND (i : Nat) : Fld := ⟨0x10110 + 32 * i, 0, 2⟩
def CVL_BRD_LATE_CNT_VALUE (i : Nat) : Fld := ⟨0x10114 + 32 * i, 0, 32⟩
def CVL_BRD_CRC_CNT_VALUE (i : Nat) : Fld := ⟨0x10118 + 32 * i, 0, 32⟩
def CVL_BRD_LAST_STATUS_VALUE (i : Nat) : Fld := ⟨0x1011C + 32 * i, 0, 32⟩
def MEAS_CFG_PREC_EN : Fld := ⟨0x11000, 2, 1⟩
def MEAS_CFG_STREAM_EN : Fld := ⟨0x11000, 1, 1⟩
def MEAS_CFG_DIAG_EN : Fld := ⟨0x11000, 0, 1⟩
def MEAS_STATUS_POD_OK : Fld := ⟨0x11004, 7, 1⟩
def MEAS_STATUS_SUM_FAIL : Fld := ⟨0x11004, 6, 1⟩
def MEAS_STATUS_SUM_SUSPENDED : Fld := ⟨0x11004, 5, 1⟩
def MEAS_STATUS_RIC_VALID : Fld := ⟨0x11004, 4, 1⟩
def MEAS_STATUS_LEARN_BUSY : Fld := ⟨0x11004, 3, 1⟩
def MEAS_STATUS_OW_BUSY : Fld := ⟨0x11004, 2, 1⟩
def MEAS_STATUS_STREAM_ACTIVE : Fld := ⟨0x11004, 1, 1⟩
def MEAS_STATUS_PREC_ACTIVE : Fld := ⟨0x11004, 0, 1⟩
def MEAS_DIAG_CFG_DEV_THRESH : Fld := ⟨0x11008, 16, 16⟩
def MEAS_DIAG_CFG_PAIR_TOL : Fld := ⟨0x11008, 8, 8⟩
def MEAS_SUM_TOL_SUM_TOL : Fld := ⟨0x1100C, 0, 16⟩
def MEAS_OW_CFG_OW_PERIOD : Fld := ⟨0x11010, 0, 17⟩
def MEAS_SOFT_SOFT_OV : Fld := ⟨0x11014, 16, 16⟩
def MEAS_SOFT_SOFT_UV : Fld := ⟨0x11014, 0, 16⟩
def MEAS_VSTR_VALUE : Fld := ⟨0x11020, 0, 32⟩
def MEAS_VSUM_VALUE : Fld := ⟨0x11024, 0, 32⟩
def MEAS_SUM_RES_VALUE : Fld := ⟨0x11028, 0, 32⟩
def MEAS_RIC_VALUE : Fld := ⟨0x1102C, 0, 32⟩
def MEAS_DIAG_KIND : Fld := ⟨0x11030, 30, 2⟩
def MEAS_DIAG_POS : Fld := ⟨0x11030, 16, 10⟩
def MEAS_DIAG_WIRE : Fld := ⟨0x11030, 0, 10⟩
def EIS_CFG_N_AVG : Fld := ⟨0x12000, 8, 8⟩
def EIS_CFG_STEP_EN : Fld := ⟨0x12000, 2, 1⟩
def EIS_CFG_AUTO : Fld := ⟨0x12000, 1, 1⟩
def EIS_AMP_AMP_DED : Fld := ⟨0x12004, 16, 16⟩
def EIS_AMP_AMP_INS : Fld := ⟨0x12004, 0, 16⟩
def EIS_INTERVAL_INTERVAL : Fld := ⟨0x12008, 0, 17⟩
def EIS_TIMEOUT_TIMEOUT : Fld := ⟨0x1200C, 0, 16⟩
def EIS_COH_COH_MIN : Fld := ⟨0x12010, 0, 8⟩
def EIS_CTRL_HOLD : Fld := ⟨0x12014, 0, 1⟩
def EIS_STATUS_PENDING : Fld := ⟨0x12018, 25, 1⟩
def EIS_STATUS_UNAVAIL : Fld := ⟨0x12018, 24, 1⟩
def EIS_STATUS_LAST_END : Fld := ⟨0x12018, 20, 4⟩
def EIS_STATUS_SWEEPS_DONE : Fld := ⟨0x12018, 8, 8⟩
def EIS_STATUS_MODE : Fld := ⟨0x12018, 4, 2⟩
def EIS_STATUS_STATE : Fld := ⟨0x12018, 0, 3⟩
def EIS_ARMS_VALUE : Fld := ⟨0x1201C, 0, 32⟩
def EIS_RESULT_SEQ_VALUE : Fld := ⟨0x12020, 0, 32⟩
def EIS_INC_CNT_VALUE : Fld := ⟨0x12024, 0, 32⟩
def EIS_STEP_SEQ_VALUE : Fld := ⟨0x12028, 0, 32⟩
def EST_CFG_Q_MIN : Fld := ⟨0x13000, 16, 8⟩
def EST_CFG_I_THRESH : Fld := ⟨0x13000, 8, 8⟩
def EST_CFG_VIRT_EN : Fld := ⟨0x13000, 2, 1⟩
def EST_CFG_REST_EN : Fld := ⟨0x13000, 1, 1⟩
def EST_CFG_CAP_LEARN_EN : Fld := ⟨0x13000, 0, 1⟩
def EST_REST_DVDT_MAX : Fld := ⟨0x13004, 16, 16⟩
def EST_REST_REST_MIN : Fld := ⟨0x13004, 0, 16⟩
def EST_VIRT_RESID_MAX : Fld := ⟨0x13008, 24, 8⟩
def EST_VIRT_I_MAX : Fld := ⟨0x13008, 16, 8⟩
def EST_VIRT_HOLD_S : Fld := ⟨0x13008, 0, 16⟩
def EST_LEARN_DSOC_MIN : Fld := ⟨0x1300C, 16, 16⟩
def EST_LEARN_SLOPE_MIN : Fld := ⟨0x1300C, 8, 8⟩
def EST_LEARN_CAP_SIG_MAX : Fld := ⟨0x1300C, 0, 8⟩
def EST_UNC_UNC_MAX : Fld := ⟨0x13010, 16, 16⟩
def EST_UNC_CONV_SPAN : Fld := ⟨0x13010, 0, 16⟩
def EST_NOISE_SIGMA_I : Fld := ⟨0x13014, 16, 16⟩
def EST_NOISE_SIGMA_V : Fld := ⟨0x13014, 0, 16⟩
def EST_WINDOW_SOC_HIGH : Fld := ⟨0x13018, 16, 16⟩
def EST_WINDOW_SOC_LOW : Fld := ⟨0x13018, 0, 16⟩
def EST_PWR_LOW_P_LOW : Fld := ⟨0x1301C, 0, 32⟩
def EST_PACK_PACK : Fld := ⟨0x13040, 8, 8⟩
def EST_PACK_PACK_REV : Fld := ⟨0x13040, 0, 8⟩
def EST_RATED_CAP_RATED : Fld := ⟨0x13044, 0, 32⟩
def EST_VLIM_V_MAX : Fld := ⟨0x13048, 16, 16⟩
def EST_VLIM_V_MIN : Fld := ⟨0x13048, 0, 16⟩
def EST_CRATE_C_CHG : Fld := ⟨0x1304C, 16, 16⟩
def EST_CRATE_C_DIS : Fld := ⟨0x1304C, 0, 16⟩
def EST_STATUS_UNC_HIGH_CNT : Fld := ⟨0x13080, 16, 16⟩
def EST_STATUS_PACK_OK : Fld := ⟨0x13080, 7, 1⟩
def EST_STATUS_SLOT_B_VALID : Fld := ⟨0x13080, 6, 1⟩
def EST_STATUS_SLOT_A_VALID : Fld := ⟨0x13080, 5, 1⟩
def EST_STATUS_LAST_SLOT : Fld := ⟨0x13080, 4, 1⟩
def EST_STATUS_PERSIST_BUSY : Fld := ⟨0x13080, 3, 1⟩
def EST_STATUS_PF_DONE : Fld := ⟨0x13080, 2, 1⟩
def EST_STATUS_STALE : Fld := ⟨0x13080, 1, 1⟩
def EST_STATUS_RUN : Fld := ⟨0x13080, 0, 1⟩
def EST_SLOT_SEQ_VALUE : Fld := ⟨0x13084, 0, 32⟩
def EST_PERSIST_CNT_VALUE : Fld := ⟨0x13088, 0, 32⟩
def EST_PERSIST_FAIL_VALUE : Fld := ⟨0x1308C, 0, 32⟩
def BAL_CFG_MAX_ON : Fld := ⟨0x14000, 16, 4⟩
def BAL_CFG_ALIGN : Fld := ⟨0x14000, 8, 1⟩
def BAL_CFG_POLICY : Fld := ⟨0x14000, 0, 2⟩
def BAL_TV_V_FLOOR : Fld := ⟨0x14004, 16, 16⟩
def BAL_TV_START_DV : Fld := ⟨0x14004, 8, 8⟩
def BAL_TV_STOP_DV : Fld := ⟨0x14004, 0, 8⟩
def BAL_SHED_I_SHED : Fld := ⟨0x14008, 16, 16⟩
def BAL_SHED_START : Fld := ⟨0x14008, 0, 16⟩
def BAL_BYP_BYP_SAT : Fld := ⟨0x1400C, 16, 16⟩
def BAL_BYP_BYP_AIM : Fld := ⟨0x1400C, 0, 16⟩
def BAL_FCV_V_CV : Fld := ⟨0x14010, 16, 16⟩
def BAL_FCV_CV_OVS : Fld := ⟨0x14010, 8, 8⟩
def BAL_OASIS_TIMEOUT : Fld := ⟨0x14014, 8, 8⟩
def BAL_STATUS_ON_COUNT : Fld := ⟨0x14020, 22, 10⟩
def BAL_STATUS_CV_COUNT : Fld := ⟨0x14020, 12, 10⟩
def BAL_STATUS_OASIS_VALID : Fld := ⟨0x14020, 5, 1⟩
def BAL_STATUS_SAT : Fld := ⟨0x14020, 4, 1⟩
def BAL_STATUS_CAPPED : Fld := ⟨0x14020, 3, 1⟩
def BAL_STATUS_OWNED : Fld := ⟨0x14020, 2, 1⟩
def BAL_STATUS_POLICY_ACTIVE : Fld := ⟨0x14020, 0, 2⟩
def BAL_PLAN_SEQ_SEQ : Fld := ⟨0x14024, 0, 32⟩
def BAL_BRD_CV (i : Nat) : Fld := ⟨0x14100 + 4 * i, 16, 16⟩
def BAL_BRD_ON (i : Nat) : Fld := ⟨0x14100 + 4 * i, 0, 16⟩
def BAL_OAS_TIMED_OUT (i : Nat) : Fld := ⟨0x14200 + 4 * i, 16, 16⟩
def BAL_OAS_REACHED (i : Nat) : Fld := ⟨0x14200 + 4 * i, 0, 16⟩
def DSP_LANE_STATUS_LOAD (i : Nat) : Fld := ⟨0x15000 + 4 * i, 24, 8⟩
def DSP_LANE_STATUS_REINIT_CNT (i : Nat) : Fld := ⟨0x15000 + 4 * i, 8, 8⟩
def DSP_LANE_STATUS_FILTER (i : Nat) : Fld := ⟨0x15000 + 4 * i, 2, 1⟩
def DSP_LANE_STATUS_EIS (i : Nat) : Fld := ⟨0x15000 + 4 * i, 1, 1⟩
def DSP_LANE_STATUS_READY (i : Nat) : Fld := ⟨0x15000 + 4 * i, 0, 1⟩
def DSP_LANE_GAPS_COUNT (i : Nat) : Fld := ⟨0x15020 + 4 * i, 0, 32⟩
def CTL_CFG_LOWSIDE : Fld := ⟨0x20000, 28, 1⟩
def CTL_CFG_POLARITY : Fld := ⟨0x20000, 27, 1⟩
def CTL_CFG_BANK : Fld := ⟨0x20000, 24, 1⟩
def CTL_CFG_OUTER_MODE : Fld := ⟨0x20000, 16, 2⟩
def CTL_CFG_RC_EN : Fld := ⟨0x20000, 12, 1⟩
def CTL_CFG_PHASES : Fld := ⟨0x20000, 0, 3⟩
def CTL_PWM_PERIOD_PERIOD : Fld := ⟨0x20004, 0, 20⟩
def CTL_PWM_DT_DT_LH : Fld := ⟨0x20008, 16, 15⟩
def CTL_PWM_DT_DT_HL : Fld := ⟨0x20008, 0, 15⟩
def CTL_PWM_MINP_MIN_PULSE : Fld := ⟨0x20010, 0, 14⟩
def CTL_PWM_DUTY_D_MAX : Fld := ⟨0x2000C, 16, 16⟩
def CTL_PWM_DUTY_D_MIN : Fld := ⟨0x2000C, 0, 16⟩
def CTL_ISENSE_AUX_FS : Fld := ⟨0x20014, 16, 16⟩
def CTL_ISENSE_I_FS : Fld := ⟨0x20014, 0, 16⟩
def CTL_VSENSE_BUS_FS : Fld := ⟨0x20018, 16, 16⟩
def CTL_VSENSE_V_FS : Fld := ⟨0x20018, 0, 16⟩
def CTL_PHSENSE_PH_OC : Fld := ⟨0x2001C, 16, 16⟩
def CTL_PHSENSE_PH_FS : Fld := ⟨0x2001C, 0, 16⟩
def CTL_IRATED_IRATED : Fld := ⟨0x20020, 0, 32⟩
def CTL_RAMP_STOP_RATE : Fld := ⟨0x20024, 16, 16⟩
def CTL_RAMP_CLOSE_RAMP : Fld := ⟨0x20024, 0, 16⟩
def CTL_PRE_PRE_TMAX : Fld := ⟨0x20028, 24, 8⟩
def CTL_PRE_PRE_THR : Fld := ⟨0x20028, 16, 8⟩
def CTL_PRE_R_PRE : Fld := ⟨0x20028, 0, 16⟩
def CTL_RC_CFG_F0 : Fld := ⟨0x2002C, 0, 19⟩
def CTL_RC_GAIN_Q1 : Fld := ⟨0x20030, 24, 8⟩
def CTL_RC_GAIN_LEAD : Fld := ⟨0x20030, 16, 8⟩
def CTL_RC_GAIN_K_L : Fld := ⟨0x20030, 0, 16⟩
def CTL_RC_MAX_RC_MAX : Fld := ⟨0x20034, 0, 16⟩
def CTL_STATUS_PRE_RESULT : Fld := ⟨0x20050, 24, 4⟩
def CTL_STATUS_OPEN_CAUSE : Fld := ⟨0x20050, 16, 8⟩
def CTL_STATUS_MISS_RUN : Fld := ⟨0x20050, 12, 2⟩
def CTL_STATUS_BANKB_VALID : Fld := ⟨0x20050, 11, 1⟩
def CTL_STATUS_BANKA_VALID : Fld := ⟨0x20050, 10, 1⟩
def CTL_STATUS_BANK_ACTIVE : Fld := ⟨0x20050, 9, 1⟩
def CTL_STATUS_SLEWING : Fld := ⟨0x20050, 8, 1⟩
def CTL_STATUS_SAT_SHARE : Fld := ⟨0x20050, 7, 1⟩
def CTL_STATUS_SAT_RC : Fld := ⟨0x20050, 6, 1⟩
def CTL_STATUS_SAT_O : Fld := ⟨0x20050, 5, 1⟩
def CTL_STATUS_SAT_I : Fld := ⟨0x20050, 4, 1⟩
def CTL_STATUS_PWM_EN : Fld := ⟨0x20050, 3, 1⟩
def CTL_STATUS_COASTING : Fld := ⟨0x20050, 2, 1⟩
def CTL_STATUS_CLOSE_PENDING : Fld := ⟨0x20050, 1, 1⟩
def CTL_STATUS_CLOSED : Fld := ⟨0x20050, 0, 1⟩
def CTL_FB_GATE_FLT : Fld := ⟨0x20054, 16, 6⟩
def CTL_FB_PH_OC_LATCH : Fld := ⟨0x20054, 7, 1⟩
def CTL_FB_GATE_LATCH : Fld := ⟨0x20054, 6, 1⟩
def CTL_FB_MISMATCH_LATCH : Fld := ⟨0x20054, 5, 1⟩
def CTL_FB_MIRAGE_LATCH : Fld := ⟨0x20054, 4, 1⟩
def CTL_FB_PRIMARY_LOST : Fld := ⟨0x20054, 3, 1⟩
def CTL_FB_BSD_OK : Fld := ⟨0x20054, 2, 1⟩
def CTL_FB_VSD_OK : Fld := ⟨0x20054, 1, 1⟩
def CTL_FB_ISD_OK : Fld := ⟨0x20054, 0, 1⟩
def CTL_MISS_CNT_VALUE : Fld := ⟨0x20058, 0, 32⟩
def CTL_LIM_CHG_VALUE : Fld := ⟨0x20060, 0, 32⟩
def CTL_LIM_DIS_VALUE : Fld := ⟨0x20064, 0, 32⟩
def CTL_LIM_SRC_SRC_CHG : Fld := ⟨0x20068, 8, 3⟩
def CTL_LIM_SRC_SRC_DIS : Fld := ⟨0x20068, 0, 3⟩
def CTL_IREF_VALUE : Fld := ⟨0x2006C, 0, 32⟩
def CTL_IMEAS_VALUE : Fld := ⟨0x20070, 0, 32⟩
def CTL_IAUX_VALUE : Fld := ⟨0x20074, 0, 32⟩
def CTL_VBUS_VALUE : Fld := ⟨0x20078, 0, 32⟩
def PWM_PH_DUTY (i : Nat) : Fld := ⟨0x21000 + 4 * i, 16, 16⟩
def PWM_PH_GATE_FLT (i : Nat) : Fld := ⟨0x21000 + 4 * i, 1, 1⟩
def PWM_PH_ACTIVE (i : Nat) : Fld := ⟨0x21000 + 4 * i, 0, 1⟩
def PWM_IPH_CURRENT (i : Nat) : Fld := ⟨0x21020 + 4 * i, 0, 32⟩
def DISP_CFG_LOSS_ACTION : Fld := ⟨0x22000, 8, 1⟩
def DISP_CFG_SOURCE : Fld := ⟨0x22000, 0, 2⟩
def DISP_CAN_ID_ID : Fld := ⟨0x22004, 0, 29⟩
def DISP_LOSS_T_HOLD : Fld := ⟨0x22008, 16, 16⟩
def DISP_LOSS_PERIOD : Fld := ⟨0x22008, 0, 8⟩
def DISP_RAMP_LOSS_RAMP : Fld := ⟨0x2200C, 0, 16⟩
def DISP_RAMP_DEF_RATE : Fld := ⟨0x22010, 0, 32⟩
def DISP_STATUS_REJ_REASON : Fld := ⟨0x22020, 12, 4⟩
def DISP_STATUS_LIM_DIS : Fld := ⟨0x22020, 10, 1⟩
def DISP_STATUS_SRC_LAST : Fld := ⟨0x22020, 8, 2⟩
def DISP_STATUS_KIND : Fld := ⟨0x22020, 6, 2⟩
def DISP_STATUS_VALID : Fld := ⟨0x22020, 5, 1⟩
def DISP_STATUS_PENDING : Fld := ⟨0x22020, 4, 1⟩
def DISP_STATUS_RAMPING : Fld := ⟨0x22020, 3, 1⟩
def DISP_STATUS_LATE : Fld := ⟨0x22020, 2, 1⟩
def DISP_STATUS_LOST : Fld := ⟨0x22020, 1, 1⟩
def DISP_STATUS_LIMIT : Fld := ⟨0x22020, 0, 1⟩
def DISP_TARGET_VALUE : Fld := ⟨0x22024, 0, 32⟩
def DISP_REQ_VALUE : Fld := ⟨0x22028, 0, 32⟩
def DISP_SHORTFALL_VALUE : Fld := ⟨0x2202C, 0, 32⟩
def DISP_SHORTFALL_W_VALUE : Fld := ⟨0x22030, 0, 32⟩
def DISP_SP_ACC_VALUE : Fld := ⟨0x22034, 0, 32⟩
def DISP_SP_STALE_VALUE : Fld := ⟨0x22038, 0, 32⟩
def DISP_SP_REJ_VALUE : Fld := ⟨0x2203C, 0, 32⟩
def DISP_LIMIT_CNT_VALUE : Fld := ⟨0x22040, 0, 32⟩
def DISP_RCP_CFG_K_CV : Fld := ⟨0x22080, 0, 16⟩
def DISP_RCP_STATUS_LAST_END : Fld := ⟨0x22084, 28, 4⟩
def DISP_RCP_STATUS_RECIPE : Fld := ⟨0x22084, 24, 4⟩
def DISP_RCP_STATUS_STEP : Fld := ⟨0x22084, 16, 6⟩
def DISP_RCP_STATUS_RUNNING : Fld := ⟨0x22084, 0, 1⟩
def DISP_RCP_SEALED_SEALED : Fld := ⟨0x22088, 0, 16⟩
def DISP_RCP_STEP_TIME_VALUE : Fld := ⟨0x2208C, 0, 32⟩
def DISP_RCP_STEP_Q_VALUE : Fld := ⟨0x22090, 0, 32⟩
def DISP_RCP_TIME_VALUE : Fld := ⟨0x22094, 0, 32⟩
def DISP_GRADE_CFG_BASIS : Fld := ⟨0x220C0, 8, 1⟩
def DISP_GRADE_CFG_TONE : Fld := ⟨0x220C0, 0, 5⟩
def DISP_GRADE_T_VALUE (i : Nat) : Fld := ⟨0x220C4 + 4 * i, 0, 32⟩
def DISP_GRADE_ZMAX_VALUE : Fld := ⟨0x220D0, 0, 32⟩
def THM_CFG_FAULT_STEP : Fld := ⟨0x23000, 4, 4⟩
def THM_COOL_MIN_DMIN7 : Fld := ⟨0x23038, 8, 8⟩
def THM_COOL_MIN_DMIN6 : Fld := ⟨0x23038, 0, 8⟩
def THM_CHL_EN : Fld := ⟨0x23040, 31, 1⟩
def THM_CHL_PERIOD : Fld := ⟨0x23040, 0, 8⟩
def THM_CHL_TXID_ID : Fld := ⟨0x23044, 0, 29⟩
def THM_CHL_RXID_ID : Fld := ⟨0x23048, 0, 29⟩
def THM_CHL_SET_SET_HEAT : Fld := ⟨0x2304C, 16, 16⟩
def THM_CHL_SET_SET_COOL : Fld := ⟨0x2304C, 0, 16⟩
def THM_STATUS_STEP : Fld := ⟨0x23060, 28, 4⟩
def THM_STATUS_FAST : Fld := ⟨0x23060, 25, 1⟩
def THM_STATUS_SHUT_LATCH : Fld := ⟨0x23060, 24, 1⟩
def THM_STATUS_RELEASE_READY : Fld := ⟨0x23060, 23, 1⟩
def THM_STATUS_COOL_FAULT : Fld := ⟨0x23060, 22, 1⟩
def THM_STATUS_DIE_HOT : Fld := ⟨0x23060, 21, 1⟩
def THM_STATUS_FAULT_FORCE : Fld := ⟨0x23060, 20, 1⟩
def THM_STATUS_FAULT_CNT : Fld := ⟨0x23060, 8, 8⟩
def THM_STATUS_HOT_POINT : Fld := ⟨0x23060, 0, 8⟩
def THM_RESTART_S_VALUE : Fld := ⟨0x23064, 0, 32⟩
def THM_DUTY_DUTY7 : Fld := ⟨0x23068, 8, 8⟩
def THM_DUTY_DUTY6 : Fld := ⟨0x23068, 0, 8⟩
def THM_PT_ABOVE_SHUT (i : Nat) : Fld := ⟨0x23200 + 4 * i, 20, 1⟩
def THM_PT_ABOVE_THR (i : Nat) : Fld := ⟨0x23200 + 4 * i, 19, 1⟩
def THM_PT_NEAR (i : Nat) : Fld := ⟨0x23200 + 4 * i, 18, 1⟩
def THM_PT_FAULTED (i : Nat) : Fld := ⟨0x23200 + 4 * i, 17, 1⟩
def THM_PT_VALID (i : Nat) : Fld := ⟨0x23200 + 4 * i, 16, 1⟩
def THM_PT_TEMP (i : Nat) : Fld := ⟨0x23200 + 4 * i, 0, 16⟩
def SAFE_CFG_SI1_USED : Fld := ⟨0x30000, 7, 1⟩
def SAFE_CFG_SI0_USED : Fld := ⟨0x30000, 6, 1⟩
def SAFE_CFG_SI1_TP : Fld := ⟨0x30000, 5, 1⟩
def SAFE_CFG_SI0_TP : Fld := ⟨0x30000, 4, 1⟩
def SAFE_CFG_SI1_MODE : Fld := ⟨0x30000, 1, 1⟩
def SAFE_CFG_SI0_MODE : Fld := ⟨0x30000, 0, 1⟩
def SAFE_SI_DISC_T_DISC1 : Fld := ⟨0x30004, 16, 9⟩
def SAFE_SI_DISC_T_DISC0 : Fld := ⟨0x30004, 0, 9⟩
def SAFE_CELL_V_CELL_OV : Fld := ⟨0x30008, 16, 16⟩
def SAFE_CELL_V_CELL_UV : Fld := ⟨0x30008, 0, 16⟩
def SAFE_CELL_T_CELL_OT : Fld := ⟨0x3000C, 16, 16⟩
def SAFE_CELL_T_T_CHG_MIN : Fld := ⟨0x3000C, 0, 16⟩
def SAFE_CELL_DEB_TAPER_DV : Fld := ⟨0x30010, 16, 16⟩
def SAFE_CELL_DEB_CELL_DEB : Fld := ⟨0x30010, 0, 8⟩
def SAFE_CMP_V_CMP_OV : Fld := ⟨0x30014, 16, 16⟩
def SAFE_CMP_V_CMP_UV : Fld := ⟨0x30014, 0, 16⟩
def SAFE_CMP_T_CMP_OT : Fld := ⟨0x30018, 0, 16⟩
def SAFE_HWLIM_CHG_HWLIM : Fld := ⟨0x30020, 0, 32⟩
def SAFE_HWLIM_DIS_HWLIM : Fld := ⟨0x30024, 0, 32⟩
def SAFE_DERATE_DERATE_CHG : Fld := ⟨0x30028, 8, 8⟩
def SAFE_DERATE_DERATE_DIS : Fld := ⟨0x30028, 0, 8⟩
def SAFE_ENV_ENV_TOL : Fld := ⟨0x3002C, 16, 16⟩
def SAFE_ENV_ENV_T : Fld := ⟨0x3002C, 0, 8⟩
def SAFE_SCS_SCS_RATE : Fld := ⟨0x30030, 16, 16⟩
def SAFE_SCS_I_ZERO : Fld := ⟨0x30030, 0, 16⟩
def SAFE_AUXOC_AUX_OC : Fld := ⟨0x30034, 0, 16⟩
def SAFE_STATUS_LAST_CAUSE : Fld := ⟨0x30080, 24, 8⟩
def SAFE_STATUS_SET_VALID : Fld := ⟨0x30080, 20, 1⟩
def SAFE_STATUS_SCS_ACTIVE : Fld := ⟨0x30080, 19, 1⟩
def SAFE_STATUS_SAFE_OK : Fld := ⟨0x30080, 18, 1⟩
def SAFE_STATUS_PWM_EN_REQ : Fld := ⟨0x30080, 17, 1⟩
def SAFE_STATUS_HB_OK : Fld := ⟨0x30080, 16, 1⟩
def SAFE_STATUS_AUX_OC_LATCH : Fld := ⟨0x30080, 11, 1⟩
def SAFE_STATUS_ZSL_LATCH : Fld := ⟨0x30080, 10, 1⟩
def SAFE_STATUS_SP_LATCH : Fld := ⟨0x30080, 9, 1⟩
def SAFE_STATUS_CELL_LIMIT : Fld := ⟨0x30080, 8, 1⟩
def SAFE_SI_STATUS_DISC_CNT1 : Fld := ⟨0x30084, 23, 9⟩
def SAFE_SI_STATUS_DISC_CNT0 : Fld := ⟨0x30084, 14, 9⟩
def SAFE_PARAM_CRC_VALUE : Fld := ⟨0x30088, 0, 32⟩
def SAFE_PLIM_CHG_VALUE : Fld := ⟨0x3008C, 0, 32⟩
def SAFE_PLIM_DIS_VALUE : Fld := ⟨0x30090, 0, 32⟩
def SAFE_LAST_TIME_LO_VALUE : Fld := ⟨0x30098, 0, 32⟩
def SAFE_LAST_TIME_HI_VALUE : Fld := ⟨0x3009C, 0, 32⟩
def SAFE_SEI_CNT_VALUE : Fld := ⟨0x300A0, 0, 32⟩
def KON_TIME_HIGH (i : Nat) : Fld := ⟨0x31010 + 4 * i, 16, 16⟩
def KON_TIME_LOW (i : Nat) : Fld := ⟨0x31010 + 4 * i, 0, 16⟩
def KON_OPS_HIGH (i : Nat) : Fld := ⟨0x31020 + 4 * i, 16, 16⟩
def KON_OPS_LOW (i : Nat) : Fld := ⟨0x31020 + 4 * i, 0, 16⟩
def KON_BREAK_HIGH (i : Nat) : Fld := ⟨0x31030 + 4 * i, 16, 16⟩
def KON_BREAK_LOW (i : Nat) : Fld := ⟨0x31030 + 4 * i, 0, 16⟩
def DIO_DI_BROKEN : Fld := ⟨0x32000, 16, 16⟩
def DIO_DI_STATE : Fld := ⟨0x32000, 0, 16⟩
def DIO_DI_EDGE_FALL : Fld := ⟨0x32004, 16, 16⟩
def DIO_DI_EDGE_RISE : Fld := ⟨0x32004, 0, 16⟩
def DIO_DI_CFG_CHG_EN : Fld := ⟨0x32008, 16, 16⟩
def DIO_DI_CFG_WB_EN : Fld := ⟨0x32008, 0, 16⟩
def DIO_DI_I_I_HI (i : Nat) : Fld := ⟨0x32020 + 4 * i, 16, 16⟩
def DIO_DI_I_I_LO (i : Nat) : Fld := ⟨0x32020 + 4 * i, 0, 16⟩
def DIO_DO_SET_ON : Fld := ⟨0x32040, 0, 8⟩
def DIO_DO_CFG_FUNC7 : Fld := ⟨0x32044, 25, 1⟩
def DIO_DO_CFG_FUNC6 : Fld := ⟨0x32044, 24, 1⟩
def DIO_DO_CFG_QUAD : Fld := ⟨0x32044, 20, 2⟩
def DIO_DO_CFG_PAIR : Fld := ⟨0x32044, 16, 4⟩
def DIO_DO_TMO_TMO : Fld := ⟨0x32048, 0, 16⟩
def DIO_PWM_FREQ : Fld := ⟨0x3204C, 0, 16⟩
def DIO_DO_STATE_FAIL_ACTIVE : Fld := ⟨0x32050, 25, 1⟩
def DIO_DO_STATE_TMO_ACTIVE : Fld := ⟨0x32050, 24, 1⟩
def DIO_DO_STATE_LIMIT : Fld := ⟨0x32050, 16, 8⟩
def DIO_DO_STATE_READBACK : Fld := ⟨0x32050, 8, 8⟩
def DIO_DO_STATE_ACTUAL : Fld := ⟨0x32050, 0, 8⟩
def DIO_DO_FAULT_THERM : Fld := ⟨0x32054, 24, 8⟩
def DIO_DO_FAULT_CROSS : Fld := ⟨0x32054, 16, 8⟩
def DIO_DO_FAULT_EXT : Fld := ⟨0x32054, 8, 8⟩
def DIO_DO_FAULT_SHORT : Fld := ⟨0x32054, 0, 8⟩
def DIO_DO_CROSS_VALID : Fld := ⟨0x3205C, 8, 1⟩
def DIO_DO_CROSS_OFF_CH : Fld := ⟨0x3205C, 4, 3⟩
def DIO_DO_CROSS_ON_CH : Fld := ⟨0x3205C, 0, 3⟩
def DIO_FIELD_LOW : Fld := ⟨0x32060, 16, 1⟩
def DIO_FIELD_VOLT : Fld := ⟨0x32060, 0, 16⟩
def DIO_PT_SHORT (i : Nat) : Fld := ⟨0x32070 + 4 * i, 18, 1⟩
def DIO_PT_OPEN (i : Nat) : Fld := ⟨0x32070 + 4 * i, 17, 1⟩
def DIO_PT_VALID (i : Nat) : Fld := ⟨0x32070 + 4 * i, 16, 1⟩
def DIO_PT_TEMP (i : Nat) : Fld := ⟨0x32070 + 4 * i, 0, 16⟩
def CAN_ERR_CNT_VALUE (c : Nat) : Fld := ⟨0x40028 + 0x800 * c, 0, 32⟩
def TWS_STATUS_LAST_CODE : Fld := ⟨0x41008, 8, 8⟩
def TWS_STATUS_LAST_SLOT : Fld := ⟨0x41008, 4, 2⟩
def TWS_STATUS_STRETCH : Fld := ⟨0x41008, 1, 1⟩
def TWS_STATUS_BUSY : Fld := ⟨0x41008, 0, 1⟩
def TWS_CNT_PEC_COUNT : Fld := ⟨0x41010, 0, 32⟩
def TWS_CNT_TMO_COUNT : Fld := ⟨0x41014, 0, 32⟩
def TWL_CFG_RETRIES : Fld := ⟨0x42000, 8, 3⟩
def TWL_CFG_PWR_EN : Fld := ⟨0x42000, 4, 1⟩
def TWL_CFG_EN : Fld := ⟨0x42000, 0, 1⟩
def TWL_XFER_RD_LEN : Fld := ⟨0x42004, 24, 8⟩
def TWL_XFER_WR_LEN : Fld := ⟨0x42004, 16, 8⟩
def TWL_XFER_ADDR : Fld := ⟨0x42004, 8, 7⟩
def TWL_STATUS_RESULT : Fld := ⟨0x4200C, 28, 4⟩
def TWL_STATUS_ARB_BIT : Fld := ⟨0x4200C, 24, 3⟩
def TWL_STATUS_ARB_BYTE : Fld := ⟨0x4200C, 16, 6⟩
def TWL_STATUS_NACK_BYTE : Fld := ⟨0x4200C, 8, 6⟩
def TWL_STATUS_RETRIES_USED : Fld := ⟨0x4200C, 2, 3⟩
def TWL_STATUS_STUCK : Fld := ⟨0x4200C, 1, 1⟩
def TWL_STATUS_BUSY : Fld := ⟨0x4200C, 0, 1⟩
def TWL_WBUF_VALUE (i : Nat) : Fld := ⟨0x42010 + 4 * i, 0, 32⟩
def TWL_CNT_ARB_VALUE : Fld := ⟨0x42050, 0, 32⟩
def TWL_CNT_STUCK_VALUE : Fld := ⟨0x42054, 0, 32⟩
def ETH_PHY_EN (i : Nat) : Fld := ⟨0x43000 + 4 * i, 0, 1⟩
def ETH_STAT_DUPLEX (i : Nat) : Fld := ⟨0x43008 + 4 * i, 3, 1⟩
def ETH_STAT_SPEED_ACT (i : Nat) : Fld := ⟨0x43008 + 4 * i, 1, 2⟩
def ETH_STAT_LINK (i : Nat) : Fld := ⟨0x43008 + 4 * i, 0, 1⟩
def ETH_PVID_PCP_DEF (i : Nat) : Fld := ⟨0x43010 + 4 * i, 13, 3⟩
def ETH_PVID_PVID (i : Nat) : Fld := ⟨0x43010 + 4 * i, 0, 12⟩
def ETH_CPU_VID : Fld := ⟨0x43018, 0, 12⟩
def ETH_CPU_PCP_RCP : Fld := ⟨0x43018, 13, 3⟩
def ETH_IP_VALUE : Fld := ⟨0x43040, 0, 32⟩
def ETH_MASK_VALUE : Fld := ⟨0x43044, 0, 32⟩
def ETH_GW_VALUE : Fld := ⟨0x43048, 0, 32⟩
def ETH_IP_CFG_DHCP : Fld := ⟨0x4304C, 0, 1⟩
def ETH_IP_ACT_VALUE : Fld := ⟨0x43050, 0, 32⟩
def ETH_DROP_VLAN_VALUE : Fld := ⟨0x43060, 0, 32⟩
def ETH_DROP_STORM_VALUE : Fld := ⟨0x43064, 0, 32⟩
def ETH_DROP_CPU_VALUE : Fld := ⟨0x43068, 0, 32⟩
def ETH_DROP_QUEUE_VALUE : Fld := ⟨0x4306C, 0, 32⟩
def ETH_DROP_SIZE_VALUE : Fld := ⟨0x43070, 0, 32⟩
def ETH_VLAN_VALID (i : Nat) : Fld := ⟨0x43100 + 4 * i, 31, 1⟩
def ETH_VLAN_UNTAG (i : Nat) : Fld := ⟨0x43100 + 4 * i, 20, 3⟩
def ETH_VLAN_MEMBER (i : Nat) : Fld := ⟨0x43100 + 4 * i, 16, 3⟩
def ETH_VLAN_VID (i : Nat) : Fld := ⟨0x43100 + 4 * i, 0, 12⟩
def PTP_CFG_PORT2_EN : Fld := ⟨0x44000, 9, 1⟩
def PTP_CFG_PORT1_EN : Fld := ⟨0x44000, 8, 1⟩
def PTP_CFG_ROLE : Fld := ⟨0x44000, 4, 2⟩
def PTP_CFG_PROFILE : Fld := ⟨0x44000, 0, 2⟩
def PTP_INTV_LOG_SYNC : Fld := ⟨0x44004, 0, 8⟩
def PTP_INTV_LOG_ANN : Fld := ⟨0x44004, 8, 8⟩
def PTP_INTV_ANN_TMO : Fld := ⟨0x44004, 16, 8⟩
def PTP_DS_CLOCK_CLASS : Fld := ⟨0x44008, 16, 8⟩
def PTP_SERVO_KP : Fld := ⟨0x4400C, 16, 16⟩
def PTP_SERVO_KI : Fld := ⟨0x4400C, 0, 16⟩
def PTP_THRESH_UNLOCK_NS : Fld := ⟨0x44010, 16, 16⟩
def PTP_THRESH_LOCK_NS : Fld := ⟨0x44010, 0, 16⟩
def PTP_STEP_STEP_NS : Fld := ⟨0x44014, 0, 32⟩
def PTP_HOLDMAX_HOLD_MAX : Fld := ⟨0x44018, 0, 17⟩
def PTP_STATUS_PORT2_STATE : Fld := ⟨0x44040, 20, 4⟩
def PTP_STATUS_PORT1_STATE : Fld := ⟨0x44040, 16, 4⟩
def PTP_STATUS_SOURCE : Fld := ⟨0x44040, 8, 2⟩
def PTP_STATUS_VALID : Fld := ⟨0x44040, 7, 1⟩
def PTP_STATUS_PTP_TS : Fld := ⟨0x44040, 6, 1⟩
def PTP_STATUS_UTC_VALID : Fld := ⟨0x44040, 5, 1⟩
def PTP_STATUS_STATE : Fld := ⟨0x44040, 0, 3⟩
def PTP_OFFSET_VALUE : Fld := ⟨0x44044, 0, 32⟩
def PTP_DELAY_VALUE : Fld := ⟨0x44048, 0, 32⟩
def PTP_RATE_VALUE : Fld := ⟨0x4404C, 0, 32⟩
def PTP_UTC_VALUE : Fld := ⟨0x44050, 0, 32⟩
def PTP_HOLD_S_VALUE : Fld := ⟨0x44054, 0, 32⟩
def PTP_GM_LO_VALUE : Fld := ⟨0x44058, 0, 32⟩
def PTP_GM_HI_VALUE : Fld := ⟨0x4405C, 0, 32⟩
def PTP_STEP_CNT_VALUE : Fld := ⟨0x44060, 0, 32⟩
def PTP_TIME_SEC_LO_VALUE : Fld := ⟨0x44084, 0, 32⟩
def PTP_TIME_SEC_HI_VALUE : Fld := ⟨0x44088, 0, 32⟩
def PTP_PRIV_LO_VALUE : Fld := ⟨0x4408C, 0, 32⟩
def PTP_PRIV_HI_VALUE : Fld := ⟨0x44090, 0, 32⟩
def PTP_MAP_SEQ_VALUE : Fld := ⟨0x440A0, 0, 32⟩
def PTP_MAP_RBASE_LO_VALUE : Fld := ⟨0x440A4, 0, 32⟩
def PTP_MAP_RBASE_HI_VALUE : Fld := ⟨0x440A8, 0, 32⟩
def PTP_MAP_NBASE_LO_VALUE : Fld := ⟨0x440AC, 0, 32⟩
def PTP_MAP_NBASE_HI_VALUE : Fld := ⟨0x440B0, 0, 32⟩
def PTP_MAP_RATE_VALUE : Fld := ⟨0x440B4, 0, 32⟩
def PTP_SET_SEC_LO_VALUE : Fld := ⟨0x440C0, 0, 32⟩
def PTP_SET_SEC_HI_VALUE : Fld := ⟨0x440C4, 0, 32⟩
def PTP_SET_NS_VALUE : Fld := ⟨0x440C8, 0, 32⟩
def PTP_TIME_NS_VALID : Fld := ⟨0x44080, 31, 1⟩
def PTP_TIME_NS_NS : Fld := ⟨0x44080, 0, 30⟩
def EVR_STATUS_BUF_FILL : Fld := ⟨0x50000, 16, 9⟩
def EVR_STATUS_CLEAR_BUSY : Fld := ⟨0x50000, 2, 1⟩
def EVR_STATUS_READY : Fld := ⟨0x50000, 0, 1⟩
def EVR_OLDEST_VALUE : Fld := ⟨0x50004, 0, 32⟩
def EVR_NEWEST_VALUE : Fld := ⟨0x50008, 0, 32⟩
def EVR_HELD_SAFETY : Fld := ⟨0x5000C, 16, 13⟩
def EVR_HELD_GENERAL : Fld := ⟨0x5000C, 0, 16⟩
def EVR_DROP_VALUE (i : Nat) : Fld := ⟨0x50010 + 4 * i, 0, 32⟩
def EVR_CFG_NEAR_THR : Fld := ⟨0x50040, 0, 16⟩
def EVR_MARK_MARK : Fld := ⟨0x50044, 0, 32⟩
def FWU_STATUS_HOPS_DONE : Fld := ⟨0x51000, 24, 8⟩
def FWU_STATUS_HO_STATE : Fld := ⟨0x51000, 16, 3⟩
def FWU_STATUS_XFER_TYPE : Fld := ⟨0x51000, 10, 2⟩
def FWU_STATUS_RESCUE : Fld := ⟨0x51000, 9, 1⟩
def FWU_STATUS_PLN_PAUSE : Fld := ⟨0x51000, 8, 1⟩
def FWU_STATUS_RELAY_BUSY : Fld := ⟨0x51000, 3, 1⟩
def FWU_STATUS_UNCONFIRMED : Fld := ⟨0x51000, 2, 1⟩
def FWU_STATUS_VERIFY_BUSY : Fld := ⟨0x51000, 1, 1⟩
def FWU_STATUS_XFER_OPEN : Fld := ⟨0x51000, 0, 1⟩
def FWU_BANKS_FUSE_PLN : Fld := ⟨0x51004, 24, 6⟩
def FWU_BANKS_FUSE_SUP : Fld := ⟨0x51004, 16, 6⟩
def FWU_BANKS_ACT_PLN : Fld := ⟨0x51004, 9, 1⟩
def FWU_BANKS_ACT_SUP : Fld := ⟨0x51004, 8, 1⟩
def FWU_BANKS_PLN_B_VALID : Fld := ⟨0x51004, 3, 1⟩
def FWU_BANKS_SUP_B_VALID : Fld := ⟨0x51004, 1, 1⟩
def FWU_LAST_RELAY_STAGE : Fld := ⟨0x51008, 24, 8⟩
def FWU_LAST_PLN_RES : Fld := ⟨0x51008, 16, 8⟩
def FWU_LAST_HO_RES : Fld := ⟨0x51008, 8, 8⟩
def FWU_LAST_VERIFY_RES : Fld := ⟨0x51008, 0, 8⟩
def FWU_XFER_OFFSET_VALUE : Fld := ⟨0x5100C, 0, 32⟩
def FWU_XFER_SIZE_VALUE : Fld := ⟨0x51010, 0, 32⟩
def FWU_CONFIRM_S_VALUE : Fld := ⟨0x51024, 0, 32⟩
def FWU_RELAY_ID_VALUE : Fld := ⟨0x51028, 0, 32⟩
def FWU_CFG_RELAY_RX : Fld := ⟨0x51040, 0, 1⟩
def AUTH_STATUS_AUTH_SESS : Fld := ⟨0x52000, 16, 8⟩
def AUTH_STATUS_SLOTS_LEFT : Fld := ⟨0x52000, 8, 4⟩
def AUTH_STATUS_LOCKOUT : Fld := ⟨0x52000, 4, 1⟩
def AUTH_STATUS_KEY_SLOT : Fld := ⟨0x52000, 0, 4⟩
def AUTH_FAIL_CNT_COUNT : Fld := ⟨0x52004, 0, 32⟩

end F

end Sys2Proof.Machine
end

