-- ==== Sys2Proof/Machine/RegMap.lean ====
section
/-!
DEFINITION. The register map: every register word of the spec's register tables (R67 and the register
sections of chapters 1 to 20), with its address, its fields, their access codes, reset values and what
each reset keeps of them. One `Reg` describes `count` words at `base`, `base + stride`, …
The access codes are those of R10 and R71 to R76.
-/

namespace Sys2Proof.Machine

/-- The access codes of a register field (R71 to R84). -/
inductive Access where
  | ro | rw | rc | w1 | ws | wp
  deriving DecidableEq, Repr

/-- A field of a register word: bits `hi` to `lo`, its access code, its reset value, and what keeps it
(0 nothing; 1 a warm reset; 2 also a wake from OASIS; 3 also a wake from SHIP; 4 every reset: MRAM,
write-once storage). -/
structure Fd where
  name : String
  hi : Nat
  lo : Nat
  code : Access
  reset : Nat
  keep : Nat
  deriving DecidableEq, Repr

/-- `count` register words of one layout at `base + stride * i`. Bits in no field are Reserved: they read 0
and ignore writes. -/
structure Reg where
  name : String
  base : Nat
  stride : Nat
  count : Nat
  flds : List Fd
  deriving DecidableEq, Repr

/-- Block SYS and ID (chapters 1 to 3 and 20). -/
def sysRegs : List Reg := [
  ⟨"SYS_MODE", 0x20, 0, 1, [⟨"DIRECT_CAUSE", 23, 16, .ro, 0x0, 1⟩, ⟨"DIRECT", 8, 8, .ro, 0x0, 1⟩, ⟨"PERSONALITY", 1, 0, .ro, 0x0, 4⟩]⟩,
  ⟨"SYS_CLK_STATUS", 0x24, 0, 1, [⟨"LOST", 27, 16, .rc, 0x0, 1⟩, ⟨"RUNNING", 11, 0, .ro, 0x0, 1⟩]⟩,
  ⟨"SYS_STATE", 0x30, 0, 1, [⟨"PREV_STATE", 19, 16, .ro, 0x0, 0⟩, ⟨"HOLD", 10, 10, .ro, 0x0, 1⟩, ⟨"ISO_LATCH", 9, 9, .ro, 0x0, 4⟩, ⟨"TRANSITION", 8, 8, .ro, 0x0, 0⟩, ⟨"STATE", 3, 0, .ro, 0x2, 0⟩]⟩,
  ⟨"SYS_RESET_CAUSE", 0x34, 0, 1, [⟨"PLN_ACT", 6, 6, .rc, 0x0, 1⟩, ⟨"RECOVERY_EXIT", 5, 5, .rc, 0x0, 1⟩, ⟨"WAKE_OASIS", 4, 4, .rc, 0x0, 1⟩, ⟨"WAKE_SHIP", 3, 3, .rc, 0x0, 1⟩, ⟨"WARM", 2, 2, .rc, 0x0, 1⟩, ⟨"BROWNOUT", 1, 1, .rc, 0x0, 1⟩, ⟨"POR", 0, 0, .rc, 0x1, 1⟩]⟩,
  ⟨"SYS_BOOT", 0x38, 0, 1, [⟨"BOOT_TIME", 31, 16, .ro, 0x0, 0⟩, ⟨"BANK", 8, 8, .ro, 0x0, 0⟩, ⟨"FAIL_COUNT", 1, 0, .ro, 0x0, 4⟩]⟩,
  ⟨"SYS_POST_BUSY", 0x40, 0, 1, [⟨"AON", 4, 4, .ro, 0x0, 0⟩, ⟨"ZSL", 3, 3, .ro, 0x0, 0⟩, ⟨"PHY", 2, 2, .ro, 0x0, 0⟩, ⟨"CVR", 1, 1, .ro, 0x0, 0⟩, ⟨"MRAM", 0, 0, .ro, 0x0, 0⟩]⟩,
  ⟨"SYS_SNAP", 0x50, 0, 1, [⟨"BUSY", 8, 8, .ro, 0x0, 0⟩, ⟨"TAKE", 0, 0, .rw, 0x0, 0⟩]⟩,
  ⟨"SNAP_SEQ", 0x54, 0, 1, [⟨"SEQ", 31, 0, .ro, 0x0, 0⟩]⟩,
  ⟨"SYS_AON_TIMER", 0x60, 0, 1, [⟨"TIMER", 16, 0, .wp, 0x0, 3⟩]⟩,
  ⟨"SYS_AON_CFG", 0x64, 0, 1, [⟨"SHIP_TIMER", 1, 1, .wp, 0x0, 3⟩, ⟨"WAKE_EN", 0, 0, .wp, 0x1, 3⟩]⟩,
  ⟨"SYS_AON_STATUS", 0x68, 0, 1, [⟨"WAKE_SRC", 2, 0, .ro, 0x0, 3⟩]⟩,
  ⟨"SNAP_TIME_RAW_LO", 0x100, 0, 1, [⟨"VALUE", 31, 0, .ro, 0x0, 0⟩]⟩,
  ⟨"SNAP_TIME_RAW_HI", 0x104, 0, 1, [⟨"VALUE", 31, 0, .ro, 0x0, 0⟩]⟩,
  ⟨"SNAP_SYS_SEC_LO", 0x108, 0, 1, [⟨"VALUE", 31, 0, .ro, 0x0, 0⟩]⟩,
  ⟨"SNAP_SYS_SEC_HI", 0x10C, 0, 1, [⟨"VALUE", 31, 0, .ro, 0x0, 0⟩]⟩,
  ⟨"SNAP_SYS_NS", 0x110, 0, 1, [⟨"VALUE", 31, 0, .ro, 0x0, 0⟩]⟩,
  ⟨"SNAP_OP_SEC", 0x114, 0, 1, [⟨"VALUE", 31, 0, .ro, 0x0, 0⟩]⟩,
  ⟨"SNAP_COULOMB_LO", 0x118, 0, 1, [⟨"VALUE", 31, 0, .ro, 0x0, 0⟩]⟩,
  ⟨"SNAP_COULOMB_HI", 0x11C, 0, 1, [⟨"VALUE", 31, 0, .ro, 0x0, 0⟩]⟩,
  ⟨"SNAP_E_CHG_LO", 0x120, 0, 1, [⟨"VALUE", 31, 0, .ro, 0x0, 0⟩]⟩,
  ⟨"SNAP_E_CHG_HI", 0x124, 0, 1, [⟨"VALUE", 31, 0, .ro, 0x0, 0⟩]⟩,
  ⟨"SNAP_E_DIS_LO", 0x128, 0, 1, [⟨"VALUE", 31, 0, .ro, 0x0, 0⟩]⟩,
  ⟨"SNAP_E_DIS_HI", 0x12C, 0, 1, [⟨"VALUE", 31, 0, .ro, 0x0, 0⟩]⟩,
  ⟨"SNAP_CVL_ERR", 0x130, 0, 1, [⟨"VALUE", 31, 0, .ro, 0x0, 0⟩]⟩,
  ⟨"SNAP_CTL_MISS", 0x134, 0, 1, [⟨"VALUE", 31, 0, .ro, 0x0, 0⟩]⟩,
  ⟨"SNAP_RCP_DROP", 0x138, 0, 1, [⟨"VALUE", 31, 0, .ro, 0x0, 0⟩]⟩,
  ⟨"SNAP_CANA_ERR", 0x13C, 0, 1, [⟨"VALUE", 31, 0, .ro, 0x0, 0⟩]⟩,
  ⟨"SNAP_CANB_ERR", 0x140, 0, 1, [⟨"VALUE", 31, 0, .ro, 0x0, 0⟩]⟩,
  ⟨"SNAP_EVR_DROP", 0x144, 0, 1, [⟨"VALUE", 31, 0, .ro, 0x0, 0⟩]⟩,
  ⟨"SNAP_POWER_CYCLES", 0x148, 0, 1, [⟨"VALUE", 31, 0, .ro, 0x0, 0⟩]⟩,
  ⟨"SNAP_TIME_VALID", 0x14C, 0, 1, [⟨"VALUE", 31, 0, .ro, 0x0, 0⟩]⟩,
  ⟨"ID_PART", 0x800, 0, 1, [⟨"DEVICE", 31, 16, .ro, 0x5760, 4⟩, ⟨"HW_REV", 15, 8, .ro, 0x0, 4⟩, ⟨"VARIANT", 7, 0, .ro, 0x1, 4⟩]⟩,
  ⟨"ID_SERIAL_LO", 0x804, 0, 1, [⟨"SERIAL", 31, 0, .ro, 0x0, 4⟩]⟩,
  ⟨"ID_SERIAL_HI", 0x808, 0, 1, [⟨"SERIAL", 31, 0, .ro, 0x0, 4⟩]⟩,
  ⟨"ID_MAC1_LO", 0x810, 0, 1, [⟨"MAC_LO", 31, 0, .ro, 0x0, 4⟩]⟩,
  ⟨"ID_MAC1_HI", 0x814, 0, 1, [⟨"MAC_HI", 15, 0, .ro, 0x0, 4⟩]⟩,
  ⟨"ID_MAC2_LO", 0x818, 0, 1, [⟨"MAC_LO", 31, 0, .ro, 0x0, 4⟩]⟩,
  ⟨"ID_MAC2_HI", 0x81C, 0, 1, [⟨"MAC_HI", 15, 0, .ro, 0x0, 4⟩]⟩,
  ⟨"ID_ZMC_LOT", 0x820, 0, 1, [⟨"LOT", 31, 0, .ro, 0x0, 4⟩]⟩,
  ⟨"ID_ZMC_DIE", 0x824, 0, 1, [⟨"WAFER", 31, 24, .ro, 0x0, 4⟩, ⟨"DIE_X", 23, 16, .ro, 0x0, 4⟩, ⟨"DIE_Y", 15, 8, .ro, 0x0, 4⟩, ⟨"DIE_REV", 7, 0, .ro, 0x0, 4⟩]⟩,
  ⟨"ID_ZSL_LOT", 0x828, 0, 1, [⟨"LOT", 31, 0, .ro, 0x0, 4⟩]⟩,
  ⟨"ID_ZSL_DIE", 0x82C, 0, 1, [⟨"WAFER", 31, 24, .ro, 0x0, 4⟩, ⟨"DIE_X", 23, 16, .ro, 0x0, 4⟩, ⟨"DIE_Y", 15, 8, .ro, 0x0, 4⟩, ⟨"DIE_REV", 7, 0, .ro, 0x0, 4⟩]⟩,
  ⟨"ID_ROM", 0x830, 0, 1, [⟨"VALUE", 31, 0, .ro, 0x0, 4⟩]⟩,
  ⟨"ID_CRC", 0x83C, 0, 1, [⟨"VALUE", 31, 0, .ro, 0x0, 4⟩]⟩,
  ⟨"ID_STATUS", 0x840, 0, 1, [⟨"CAL_OK", 1, 1, .ro, 0x0, 1⟩, ⟨"ID_OK", 0, 0, .ro, 0x0, 1⟩]⟩,
  ⟨"ID_CAL_CRC", 0x850, 0, 1, [⟨"VALUE", 31, 0, .ro, 0x0, 4⟩]⟩,
  ⟨"ID_USER", 0xA00, 4, 4, [⟨"USER", 31, 0, .w1, 0x0, 4⟩]⟩,
  ⟨"CAL_GAIN", 0xC00, 8, 64, [⟨"GAIN", 31, 0, .ro, 0x0, 4⟩]⟩,
  ⟨"CAL_OFFSET", 0xC04, 8, 64, [⟨"OFFSET", 31, 0, .ro, 0x0, 4⟩]⟩]

/-- Block INT (chapter 3). -/
def intRegs : List Reg := [
  ⟨"INT_SUMMARY", 0x1000, 0, 1, [⟨"GROUP", 15, 0, .ro, 0x0, 1⟩]⟩,
  ⟨"INT_CTRL", 0x1004, 0, 1, [⟨"REARM", 1, 1, .rw, 0x0, 1⟩, ⟨"GLOBAL_EN", 0, 0, .rw, 0x0, 1⟩]⟩,
  ⟨"INT_SYS_CAUSE", 0x1100, 0, 1, [⟨"CAUSE", 7, 0, .rc, 0x0, 1⟩]⟩,
  ⟨"INT_CAUSE", 0x1108, 8, 15, [⟨"CAUSE", 7, 0, .rc, 0x0, 0⟩]⟩,
  ⟨"INT_MASK", 0x1104, 8, 16, [⟨"MASK", 7, 0, .rw, 0xFF, 1⟩]⟩]

/-- Block CMD (chapter 14). -/
def cmdRegs : List Reg := [
  ⟨"CMD_QUEUE", 0x2000, 0, 1, [⟨"PRIO_USED", 23, 16, .ro, 0x0, 0⟩, ⟨"NORMAL_USED", 15, 8, .ro, 0x0, 0⟩, ⟨"SESSIONS", 3, 0, .ro, 0x0, 0⟩]⟩,
  ⟨"CMD_CNT_ADMIT", 0x2004, 0, 1, [⟨"COUNT", 31, 0, .ro, 0x0, 1⟩]⟩,
  ⟨"CMD_CNT_FULL", 0x2008, 0, 1, [⟨"COUNT", 31, 0, .ro, 0x0, 1⟩]⟩,
  ⟨"CMD_CNT_HDR", 0x200C, 0, 1, [⟨"COUNT", 31, 0, .ro, 0x0, 1⟩]⟩,
  ⟨"CMD_CNT_CRC", 0x2010, 0, 1, [⟨"COUNT", 31, 0, .ro, 0x0, 1⟩]⟩,
  ⟨"CMD_CAN_RXID", 0x2020, 0, 1, [⟨"IDE", 31, 31, .rw, 0x0, 4⟩, ⟨"EN", 30, 30, .rw, 0x0, 4⟩, ⟨"ID", 28, 0, .rw, 0x0, 4⟩]⟩,
  ⟨"CMD_CAN_TXID", 0x2024, 0, 1, [⟨"IDE", 31, 31, .rw, 0x0, 4⟩, ⟨"ID", 28, 0, .rw, 0x0, 4⟩]⟩,
  ⟨"CMD_MBOX", 0x2030, 0, 1, [⟨"RSP_LEN", 31, 16, .ro, 0x0, 0⟩, ⟨"OVERRUN", 4, 4, .rc, 0x0, 0⟩, ⟨"GO_REJECT", 3, 3, .rc, 0x0, 0⟩, ⟨"READY", 2, 2, .ro, 0x0, 0⟩, ⟨"BUSY", 1, 1, .ro, 0x0, 0⟩]⟩]

/-- Block FEED (chapter 19). -/
def feedRegs : List Reg := [
  ⟨"FEED_STATUS", 0x3000, 0, 1, [⟨"PF_WARN", 15, 15, .ro, 0x0, 2⟩, ⟨"STORE_OK", 14, 14, .ro, 0x0, 2⟩, ⟨"VETO", 13, 13, .ro, 0x0, 2⟩, ⟨"IL_DRIVE", 12, 12, .ro, 0x0, 2⟩, ⟨"IL_LEVEL", 11, 11, .ro, 0x0, 2⟩, ⟨"SWAP_BUSY", 10, 10, .ro, 0x0, 2⟩, ⟨"CHG_BUSY", 9, 9, .ro, 0x0, 2⟩, ⟨"SW_B", 7, 7, .ro, 0x0, 2⟩, ⟨"SW_A", 6, 6, .ro, 0x0, 2⟩, ⟨"B_PRESENT", 5, 5, .ro, 0x0, 2⟩, ⟨"A_PRESENT", 4, 4, .ro, 0x0, 2⟩, ⟨"ACTIVE", 1, 0, .ro, 0x0, 2⟩]⟩,
  ⟨"FEED_CFG", 0x3004, 0, 1, [⟨"SWAP_DWELL", 23, 16, .wp, 0xA, 4⟩, ⟨"AUTO_RET", 2, 2, .wp, 0x0, 4⟩, ⟨"PREF", 1, 1, .wp, 0x0, 4⟩, ⟨"DUAL", 0, 0, .wp, 0x0, 4⟩]⟩,
  ⟨"FEED_SWAP_CFG", 0x3008, 0, 1, [⟨"PERIOD", 7, 0, .rw, 0x0, 4⟩]⟩,
  ⟨"FEED_CTRL", 0x300C, 0, 1, [⟨"SWAP_TEST", 2, 2, .rw, 0x0, 0⟩, ⟨"GO_B", 1, 1, .rw, 0x0, 0⟩, ⟨"GO_A", 0, 0, .rw, 0x0, 0⟩]⟩,
  ⟨"FEED_SWAP", 0x3010, 0, 1, [⟨"VMIN", 31, 16, .ro, 0x0, 4⟩, ⟨"REASON", 7, 4, .ro, 0x0, 4⟩, ⟨"RESULT", 3, 0, .ro, 0x0, 4⟩]⟩,
  ⟨"FEED_VA", 0x3020, 0, 1, [⟨"VALUE", 31, 0, .ro, 0x0, 1⟩]⟩,
  ⟨"FEED_VB", 0x3024, 0, 1, [⟨"VALUE", 31, 0, .ro, 0x0, 1⟩]⟩,
  ⟨"FEED_IIN", 0x3028, 0, 1, [⟨"VALUE", 31, 0, .ro, 0x0, 1⟩]⟩,
  ⟨"FEED_STORE", 0x302C, 0, 1, [⟨"VALUE", 31, 0, .ro, 0x0, 1⟩]⟩,
  ⟨"FEED_POWER", 0x3030, 0, 1, [⟨"VALUE", 31, 0, .ro, 0x0, 1⟩]⟩,
  ⟨"FEED_CHG_CNT", 0x3034, 0, 1, [⟨"VALUE", 31, 0, .ro, 0x0, 4⟩]⟩,
  ⟨"FEED_SWAP_CNT", 0x3038, 0, 1, [⟨"VALUE", 31, 0, .ro, 0x0, 4⟩]⟩]

/-- Block CVL (chapter 4). -/
def cvlRegs : List Reg := [
  ⟨"CVL_CFG", 0x10000, 0, 1, [⟨"FORCE_C1", 8, 8, .ws, 0x0, 4⟩, ⟨"BOARDS", 5, 0, .ws, 0x0, 4⟩]⟩,
  ⟨"CVL_STATUS", 0x10004, 0, 1, [⟨"GEN", 31, 30, .ro, 0x0, 1⟩, ⟨"MODE", 29, 28, .ro, 0x0, 1⟩, ⟨"BREAK_AFTER", 27, 22, .ro, 0x3F, 1⟩, ⟨"FOUND", 21, 16, .ro, 0x0, 1⟩, ⟨"ENUM_BUSY", 2, 2, .ro, 0x0, 1⟩, ⟨"LINK_B", 1, 1, .ro, 0x0, 1⟩, ⟨"LINK_A", 0, 0, .ro, 0x0, 1⟩]⟩,
  ⟨"CVL_MISS_LO", 0x10008, 0, 1, [⟨"BOARD", 31, 0, .ro, 0x0, 1⟩]⟩,
  ⟨"CVL_MISS_HI", 0x1000C, 0, 1, [⟨"BOARD", 3, 0, .ro, 0x0, 1⟩]⟩,
  ⟨"CVL_LATE_LO", 0x10010, 0, 1, [⟨"BOARD", 31, 0, .rc, 0x0, 1⟩]⟩,
  ⟨"CVL_LATE_HI", 0x10014, 0, 1, [⟨"BOARD", 3, 0, .rc, 0x0, 1⟩]⟩,
  ⟨"CVL_FRAMES", 0x10018, 0, 1, [⟨"COUNT", 31, 0, .ro, 0x0, 1⟩]⟩,
  ⟨"CVL_ERRORS", 0x1001C, 0, 1, [⟨"COUNT", 31, 0, .ro, 0x0, 1⟩]⟩,
  ⟨"CVL_WADI", 0x10020, 0, 1, [⟨"AMPL", 31, 24, .ro, 0x0, 1⟩, ⟨"FIRST_DARK", 21, 16, .ro, 0x0, 1⟩, ⟨"TRIP_BOARD", 13, 8, .ro, 0x0, 1⟩, ⟨"TRIP_OT", 4, 4, .ro, 0x0, 1⟩, ⟨"TRIP_UV", 3, 3, .ro, 0x0, 1⟩, ⟨"TRIP_OV", 2, 2, .ro, 0x0, 1⟩, ⟨"LOST_LATCH", 1, 1, .ro, 0x0, 2⟩, ⟨"TONE", 0, 0, .ro, 0x0, 2⟩]⟩,
  ⟨"CVL_RB_SEL", 0x10040, 0, 1, [⟨"BOARD", 13, 8, .rw, 0x0, 0⟩, ⟨"INDEX", 4, 0, .rw, 0x0, 0⟩]⟩,
  ⟨"CVL_RB_DATA", 0x10044, 0, 1, [⟨"DATA", 31, 0, .wp, 0x0, 0⟩]⟩,
  ⟨"CVL_BRD_CFG", 0x10100, 32, 36, [⟨"CLASS", 25, 24, .ws, 0x0, 4⟩, ⟨"BASE", 17, 8, .ws, 0x0, 4⟩, ⟨"COUNT", 4, 0, .ws, 0x0, 4⟩]⟩,
  ⟨"CVL_BRD_SERIAL_LO", 0x10104, 32, 36, [⟨"SERIAL", 31, 0, .ws, 0x0, 4⟩]⟩,
  ⟨"CVL_BRD_SERIAL_HI", 0x10108, 32, 36, [⟨"SERIAL", 31, 0, .ws, 0x0, 4⟩]⟩,
  ⟨"CVL_BRD_DELAY", 0x1010C, 32, 36, [⟨"DELAY_B", 31, 16, .ro, 0xFFFF, 1⟩, ⟨"DELAY_A", 15, 0, .ro, 0xFFFF, 1⟩]⟩,
  ⟨"CVL_BRD_STATE", 0x10110, 32, 36, [⟨"SERIAL_NEW", 7, 7, .ro, 0x0, 1⟩, ⟨"HEARD_B", 6, 6, .ro, 0x0, 1⟩, ⟨"HEARD_A", 5, 5, .ro, 0x0, 1⟩, ⟨"SPLIT_B", 4, 4, .ro, 0x0, 1⟩, ⟨"MISSING", 3, 3, .ro, 0x0, 1⟩, ⟨"PRESENT", 2, 2, .ro, 0x0, 1⟩, ⟨"CLASS_FOUND", 1, 0, .ro, 0x0, 1⟩]⟩,
  ⟨"CVL_BRD_LATE_CNT", 0x10114, 32, 36, [⟨"VALUE", 31, 0, .ro, 0x0, 1⟩]⟩,
  ⟨"CVL_BRD_CRC_CNT", 0x10118, 32, 36, [⟨"VALUE", 31, 0, .ro, 0x0, 1⟩]⟩,
  ⟨"CVL_BRD_LAST_STATUS", 0x1011C, 32, 36, [⟨"VALUE", 31, 0, .ro, 0x0, 1⟩]⟩,
  ⟨"CVL_COMMIT", 0x10FF0, 0, 1, [⟨"KEY", 31, 24, .rw, 0x0, 0⟩, ⟨"TOKEN", 15, 0, .rw, 0x0, 0⟩]⟩,
  ⟨"CVL_SHADOW", 0x10FF4, 0, 1, [⟨"REJ_CAUSE", 27, 24, .ro, 0x0, 0⟩, ⟨"VIEW", 17, 17, .rw, 0x0, 0⟩, ⟨"PENDING", 16, 16, .ro, 0x0, 0⟩, ⟨"TOKEN", 15, 0, .ro, 0x0, 0⟩]⟩]

/-- Block MEAS (chapter 5). -/
def measRegs : List Reg := [
  ⟨"MEAS_CFG", 0x11000, 0, 1, [⟨"PREC_EN", 2, 2, .rw, 0x1, 4⟩, ⟨"STREAM_EN", 1, 1, .rw, 0x0, 4⟩, ⟨"DIAG_EN", 0, 0, .rw, 0x1, 4⟩]⟩,
  ⟨"MEAS_STATUS", 0x11004, 0, 1, [⟨"POD_OK", 7, 7, .ro, 0x0, 0⟩, ⟨"SUM_FAIL", 6, 6, .ro, 0x0, 0⟩, ⟨"SUM_SUSPENDED", 5, 5, .ro, 0x1, 0⟩, ⟨"RIC_VALID", 4, 4, .ro, 0x0, 4⟩, ⟨"LEARN_BUSY", 3, 3, .ro, 0x0, 0⟩, ⟨"OW_BUSY", 2, 2, .ro, 0x0, 0⟩, ⟨"STREAM_ACTIVE", 1, 1, .ro, 0x0, 0⟩, ⟨"PREC_ACTIVE", 0, 0, .ro, 0x0, 0⟩]⟩,
  ⟨"MEAS_DIAG_CFG", 0x11008, 0, 1, [⟨"DEV_THRESH", 31, 16, .rw, 0x96, 4⟩, ⟨"PAIR_TOL", 15, 8, .rw, 0x14, 4⟩]⟩,
  ⟨"MEAS_SUM_TOL", 0x1100C, 0, 1, [⟨"SUM_TOL", 15, 0, .rw, 0x7D0, 4⟩]⟩,
  ⟨"MEAS_OW_CFG", 0x11010, 0, 1, [⟨"OW_PERIOD", 16, 0, .rw, 0xE10, 4⟩]⟩,
  ⟨"MEAS_SOFT", 0x11014, 0, 1, [⟨"SOFT_OV", 31, 16, .rw, 0x0, 4⟩, ⟨"SOFT_UV", 15, 0, .rw, 0x0, 4⟩]⟩,
  ⟨"MEAS_VSTR", 0x11020, 0, 1, [⟨"VALUE", 31, 0, .ro, 0x0, 0⟩]⟩,
  ⟨"MEAS_VSUM", 0x11024, 0, 1, [⟨"VALUE", 31, 0, .ro, 0x0, 0⟩]⟩,
  ⟨"MEAS_SUM_RES", 0x11028, 0, 1, [⟨"VALUE", 31, 0, .ro, 0x0, 0⟩]⟩,
  ⟨"MEAS_RIC", 0x1102C, 0, 1, [⟨"VALUE", 31, 0, .rw, 0x0, 4⟩]⟩,
  ⟨"MEAS_DIAG", 0x11030, 0, 1, [⟨"KIND", 31, 30, .ro, 0x0, 0⟩, ⟨"POS", 25, 16, .ro, 0x0, 0⟩, ⟨"WIRE", 9, 0, .ro, 0x0, 0⟩]⟩,
  ⟨"MEAS_WB", 0x11100, 4, 19, [⟨"MAP", 31, 0, .ro, 0x0, 0⟩]⟩,
  ⟨"MEAS_CF", 0x11180, 4, 18, [⟨"MAP", 31, 0, .ro, 0x0, 0⟩]⟩]

/-- Block EIS (chapter 6). -/
def eisRegs : List Reg := [
  ⟨"EIS_CFG", 0x12000, 0, 1, [⟨"N_AVG", 15, 8, .rw, 0x6, 4⟩, ⟨"STEP_EN", 2, 2, .rw, 0x1, 4⟩, ⟨"AUTO", 1, 1, .rw, 0x0, 4⟩]⟩,
  ⟨"EIS_AMP", 0x12004, 0, 1, [⟨"AMP_DED", 31, 16, .rw, 0x32, 4⟩, ⟨"AMP_INS", 15, 0, .rw, 0xA, 4⟩]⟩,
  ⟨"EIS_INTERVAL", 0x12008, 0, 1, [⟨"INTERVAL", 16, 0, .rw, 0x384, 4⟩]⟩,
  ⟨"EIS_TIMEOUT", 0x1200C, 0, 1, [⟨"TIMEOUT", 15, 0, .rw, 0x258, 4⟩]⟩,
  ⟨"EIS_COH", 0x12010, 0, 1, [⟨"COH_MIN", 7, 0, .rw, 0xE1, 4⟩]⟩,
  ⟨"EIS_CTRL", 0x12014, 0, 1, [⟨"HOLD", 0, 0, .rw, 0x0, 0⟩]⟩,
  ⟨"EIS_STATUS", 0x12018, 0, 1, [⟨"PENDING", 25, 25, .ro, 0x0, 0⟩, ⟨"UNAVAIL", 24, 24, .ro, 0x1, 0⟩, ⟨"LAST_END", 23, 20, .ro, 0x0, 1⟩, ⟨"SWEEPS_DONE", 15, 8, .ro, 0x0, 0⟩, ⟨"MODE", 5, 4, .ro, 0x0, 0⟩, ⟨"STATE", 2, 0, .ro, 0x0, 0⟩]⟩,
  ⟨"EIS_ARMS", 0x1201C, 0, 1, [⟨"VALUE", 31, 0, .ro, 0x0, 0⟩]⟩,
  ⟨"EIS_RESULT_SEQ", 0x12020, 0, 1, [⟨"VALUE", 31, 0, .ro, 0x0, 1⟩]⟩,
  ⟨"EIS_INC_CNT", 0x12024, 0, 1, [⟨"VALUE", 31, 0, .ro, 0x0, 1⟩]⟩,
  ⟨"EIS_STEP_SEQ", 0x12028, 0, 1, [⟨"VALUE", 31, 0, .ro, 0x0, 1⟩]⟩]

/-- Block EST (chapter 7). -/
def estRegs : List Reg := [
  ⟨"EST_CFG", 0x13000, 0, 1, [⟨"Q_MIN", 23, 16, .ws, 0xEB, 4⟩, ⟨"I_THRESH", 15, 8, .ws, 0x5, 4⟩, ⟨"VIRT_EN", 2, 2, .ws, 0x1, 4⟩, ⟨"REST_EN", 1, 1, .ws, 0x1, 4⟩, ⟨"CAP_LEARN_EN", 0, 0, .ws, 0x1, 4⟩]⟩,
  ⟨"EST_REST", 0x13004, 0, 1, [⟨"DVDT_MAX", 31, 16, .ws, 0x64, 4⟩, ⟨"REST_MIN", 15, 0, .ws, 0x1E, 4⟩]⟩,
  ⟨"EST_VIRT", 0x13008, 0, 1, [⟨"RESID_MAX", 31, 24, .ws, 0x14, 4⟩, ⟨"I_MAX", 23, 16, .ws, 0x32, 4⟩, ⟨"HOLD_S", 15, 0, .ws, 0x3C, 4⟩]⟩,
  ⟨"EST_LEARN", 0x1300C, 0, 1, [⟨"DSOC_MIN", 31, 16, .ws, 0xFA0, 4⟩, ⟨"SLOPE_MIN", 15, 8, .ws, 0x32, 4⟩, ⟨"CAP_SIG_MAX", 7, 0, .ws, 0x32, 4⟩]⟩,
  ⟨"EST_UNC", 0x13010, 0, 1, [⟨"UNC_MAX", 31, 16, .ws, 0x1F4, 4⟩, ⟨"CONV_SPAN", 15, 0, .ws, 0x1F4, 4⟩]⟩,
  ⟨"EST_NOISE", 0x13014, 0, 1, [⟨"SIGMA_I", 31, 16, .ws, 0x32, 4⟩, ⟨"SIGMA_V", 15, 0, .ws, 0x32, 4⟩]⟩,
  ⟨"EST_WINDOW", 0x13018, 0, 1, [⟨"SOC_HIGH", 31, 16, .ws, 0x2710, 4⟩, ⟨"SOC_LOW", 15, 0, .ws, 0x0, 4⟩]⟩,
  ⟨"EST_PWR_LOW", 0x1301C, 0, 1, [⟨"P_LOW", 31, 0, .ws, 0x0, 4⟩]⟩,
  ⟨"EST_PACK", 0x13040, 0, 1, [⟨"PACK", 15, 8, .wp, 0x0, 4⟩, ⟨"PACK_REV", 7, 0, .ro, 0x0, 4⟩]⟩,
  ⟨"EST_RATED_CAP", 0x13044, 0, 1, [⟨"RATED", 31, 0, .wp, 0x0, 4⟩]⟩,
  ⟨"EST_VLIM", 0x13048, 0, 1, [⟨"V_MAX", 31, 16, .wp, 0x0, 4⟩, ⟨"V_MIN", 15, 0, .wp, 0x0, 4⟩]⟩,
  ⟨"EST_CRATE", 0x1304C, 0, 1, [⟨"C_CHG", 31, 16, .wp, 0x0, 4⟩, ⟨"C_DIS", 15, 0, .wp, 0x0, 4⟩]⟩,
  ⟨"EST_STATUS", 0x13080, 0, 1, [⟨"UNC_HIGH_CNT", 31, 16, .ro, 0x0, 0⟩, ⟨"PACK_OK", 7, 7, .ro, 0x0, 0⟩, ⟨"SLOT_B_VALID", 6, 6, .ro, 0x0, 0⟩, ⟨"SLOT_A_VALID", 5, 5, .ro, 0x0, 0⟩, ⟨"LAST_SLOT", 4, 4, .ro, 0x0, 0⟩, ⟨"PERSIST_BUSY", 3, 3, .ro, 0x0, 0⟩, ⟨"PF_DONE", 2, 2, .ro, 0x0, 0⟩, ⟨"STALE", 1, 1, .ro, 0x0, 0⟩, ⟨"RUN", 0, 0, .ro, 0x0, 0⟩]⟩,
  ⟨"EST_SLOT_SEQ", 0x13084, 0, 1, [⟨"VALUE", 31, 0, .ro, 0x0, 4⟩]⟩,
  ⟨"EST_PERSIST_CNT", 0x13088, 0, 1, [⟨"VALUE", 31, 0, .ro, 0x0, 1⟩]⟩,
  ⟨"EST_PERSIST_FAIL", 0x1308C, 0, 1, [⟨"VALUE", 31, 0, .ro, 0x0, 1⟩]⟩,
  ⟨"EST_COMMIT", 0x13FF0, 0, 1, [⟨"KEY", 31, 24, .rw, 0x0, 0⟩, ⟨"TOKEN", 15, 0, .rw, 0x0, 0⟩]⟩,
  ⟨"EST_SHADOW", 0x13FF4, 0, 1, [⟨"REJ_CAUSE", 27, 24, .ro, 0x0, 0⟩, ⟨"VIEW", 17, 17, .rw, 0x0, 0⟩, ⟨"PENDING", 16, 16, .ro, 0x0, 0⟩, ⟨"TOKEN", 15, 0, .ro, 0x0, 0⟩]⟩]

/-- Block BAL (chapter 8). -/
def balRegs : List Reg := [
  ⟨"BAL_CFG", 0x14000, 0, 1, [⟨"MAX_ON", 19, 16, .rw, 0x8, 4⟩, ⟨"ALIGN", 8, 8, .rw, 0x0, 4⟩, ⟨"POLICY", 1, 0, .rw, 0x0, 4⟩]⟩,
  ⟨"BAL_TV", 0x14004, 0, 1, [⟨"V_FLOOR", 31, 16, .rw, 0x0, 4⟩, ⟨"START_DV", 15, 8, .rw, 0xA, 4⟩, ⟨"STOP_DV", 7, 0, .rw, 0x2, 4⟩]⟩,
  ⟨"BAL_SHED", 0x14008, 0, 1, [⟨"I_SHED", 31, 16, .rw, 0x64, 4⟩, ⟨"START", 15, 0, .rw, 0x32, 4⟩]⟩,
  ⟨"BAL_BYP", 0x1400C, 0, 1, [⟨"BYP_SAT", 31, 16, .rw, 0x76C, 4⟩, ⟨"BYP_AIM", 15, 0, .rw, 0x5DC, 4⟩]⟩,
  ⟨"BAL_FCV", 0x14010, 0, 1, [⟨"V_CV", 31, 16, .rw, 0x0, 4⟩, ⟨"CV_OVS", 15, 8, .rw, 0xA, 4⟩]⟩,
  ⟨"BAL_OASIS", 0x14014, 0, 1, [⟨"TIMEOUT", 15, 8, .rw, 0x30, 4⟩]⟩,
  ⟨"BAL_STATUS", 0x14020, 0, 1, [⟨"ON_COUNT", 31, 22, .ro, 0x0, 0⟩, ⟨"CV_COUNT", 21, 12, .ro, 0x0, 0⟩, ⟨"OASIS_VALID", 5, 5, .ro, 0x0, 0⟩, ⟨"SAT", 4, 4, .ro, 0x0, 0⟩, ⟨"CAPPED", 3, 3, .ro, 0x0, 0⟩, ⟨"OWNED", 2, 2, .ro, 0x0, 0⟩, ⟨"POLICY_ACTIVE", 1, 0, .ro, 0x0, 0⟩]⟩,
  ⟨"BAL_PLAN_SEQ", 0x14024, 0, 1, [⟨"SEQ", 31, 0, .ro, 0x0, 1⟩]⟩,
  ⟨"BAL_BRD", 0x14100, 4, 36, [⟨"CV", 31, 16, .ro, 0x0, 0⟩, ⟨"ON", 15, 0, .ro, 0x0, 0⟩]⟩,
  ⟨"BAL_OAS", 0x14200, 4, 36, [⟨"TIMED_OUT", 31, 16, .ro, 0x0, 0⟩, ⟨"REACHED", 15, 0, .ro, 0x0, 0⟩]⟩]

/-- Block DSP (chapter 6). -/
def dspRegs : List Reg := [
  ⟨"DSP_LANE_STATUS", 0x15000, 4, 8, [⟨"LOAD", 31, 24, .ro, 0x0, 0⟩, ⟨"REINIT_CNT", 15, 8, .ro, 0x0, 1⟩, ⟨"FILTER", 2, 2, .ro, 0x0, 0⟩, ⟨"EIS", 1, 1, .ro, 0x0, 0⟩, ⟨"READY", 0, 0, .ro, 0x0, 0⟩]⟩,
  ⟨"DSP_LANE_GAPS", 0x15020, 4, 8, [⟨"COUNT", 31, 0, .ro, 0x0, 0⟩]⟩]

/-- Block CTL (chapter 9). -/
def ctlRegs : List Reg := [
  ⟨"CTL_CFG", 0x20000, 0, 1, [⟨"LOWSIDE", 28, 28, .ws, 0x0, 4⟩, ⟨"POLARITY", 27, 27, .ws, 0x0, 4⟩, ⟨"BANK", 24, 24, .ws, 0x0, 4⟩, ⟨"OUTER_MODE", 17, 16, .ws, 0x0, 4⟩, ⟨"RC_EN", 12, 12, .ws, 0x0, 4⟩, ⟨"PHASES", 2, 0, .ws, 0x0, 4⟩]⟩,
  ⟨"CTL_PWM_PERIOD", 0x20004, 0, 1, [⟨"PERIOD", 19, 0, .ws, 0x1F400, 4⟩]⟩,
  ⟨"CTL_PWM_DT", 0x20008, 0, 1, [⟨"DT_LH", 30, 16, .ws, 0x280, 4⟩, ⟨"DT_HL", 14, 0, .ws, 0x280, 4⟩]⟩,
  ⟨"CTL_PWM_DUTY", 0x2000C, 0, 1, [⟨"D_MAX", 31, 16, .ws, 0xF333, 4⟩, ⟨"D_MIN", 15, 0, .ws, 0xCCD, 4⟩]⟩,
  ⟨"CTL_PWM_MINP", 0x20010, 0, 1, [⟨"MIN_PULSE", 13, 0, .ws, 0x500, 4⟩]⟩,
  ⟨"CTL_ISENSE", 0x20014, 0, 1, [⟨"AUX_FS", 31, 16, .ws, 0x7D0, 4⟩, ⟨"I_FS", 15, 0, .ws, 0x7D0, 4⟩]⟩,
  ⟨"CTL_VSENSE", 0x20018, 0, 1, [⟨"BUS_FS", 31, 16, .ws, 0x898, 4⟩, ⟨"V_FS", 15, 0, .ws, 0x898, 4⟩]⟩,
  ⟨"CTL_PHSENSE", 0x2001C, 0, 1, [⟨"PH_OC", 31, 16, .ws, 0x1C2, 4⟩, ⟨"PH_FS", 15, 0, .ws, 0x1F4, 4⟩]⟩,
  ⟨"CTL_IRATED", 0x20020, 0, 1, [⟨"IRATED", 31, 0, .ws, 0x0, 4⟩]⟩,
  ⟨"CTL_RAMP", 0x20024, 0, 1, [⟨"STOP_RATE", 31, 16, .ws, 0x64, 4⟩, ⟨"CLOSE_RAMP", 15, 0, .ws, 0x64, 4⟩]⟩,
  ⟨"CTL_PRE", 0x20028, 0, 1, [⟨"PRE_TMAX", 31, 24, .ws, 0x1E, 4⟩, ⟨"PRE_THR", 23, 16, .ws, 0x5F, 4⟩, ⟨"R_PRE", 15, 0, .ws, 0x3E8, 4⟩]⟩,
  ⟨"CTL_RC_CFG", 0x2002C, 0, 1, [⟨"F0", 18, 0, .ws, 0x186A0, 4⟩]⟩,
  ⟨"CTL_RC_GAIN", 0x20030, 0, 1, [⟨"Q1", 31, 24, .ws, 0x10, 4⟩, ⟨"LEAD", 23, 16, .ws, 0x5, 4⟩, ⟨"K_L", 15, 0, .ws, 0xCCD, 4⟩]⟩,
  ⟨"CTL_RC_MAX", 0x20034, 0, 1, [⟨"RC_MAX", 15, 0, .ws, 0x666, 4⟩]⟩,
  ⟨"CTL_CTRL", 0x20040, 0, 1, [⟨"FB_ACK", 1, 1, .rw, 0x0, 0⟩, ⟨"RC_RESET", 0, 0, .rw, 0x0, 0⟩]⟩,
  ⟨"CTL_STATUS", 0x20050, 0, 1, [⟨"PRE_RESULT", 27, 24, .ro, 0x0, 0⟩, ⟨"OPEN_CAUSE", 23, 16, .ro, 0x0, 1⟩, ⟨"MISS_RUN", 13, 12, .ro, 0x0, 0⟩, ⟨"BANKB_VALID", 11, 11, .ro, 0x0, 4⟩, ⟨"BANKA_VALID", 10, 10, .ro, 0x0, 4⟩, ⟨"BANK_ACTIVE", 9, 9, .ro, 0x0, 4⟩, ⟨"SLEWING", 8, 8, .ro, 0x0, 0⟩, ⟨"SAT_SHARE", 7, 7, .ro, 0x0, 0⟩, ⟨"SAT_RC", 6, 6, .ro, 0x0, 0⟩, ⟨"SAT_O", 5, 5, .ro, 0x0, 0⟩, ⟨"SAT_I", 4, 4, .ro, 0x0, 0⟩, ⟨"PWM_EN", 3, 3, .ro, 0x0, 0⟩, ⟨"COASTING", 2, 2, .ro, 0x1, 0⟩, ⟨"CLOSE_PENDING", 1, 1, .ro, 0x0, 0⟩, ⟨"CLOSED", 0, 0, .ro, 0x0, 0⟩]⟩,
  ⟨"CTL_FB", 0x20054, 0, 1, [⟨"GATE_FLT", 21, 16, .ro, 0x0, 0⟩, ⟨"PH_OC_LATCH", 7, 7, .ro, 0x0, 0⟩, ⟨"GATE_LATCH", 6, 6, .ro, 0x0, 0⟩, ⟨"MISMATCH_LATCH", 5, 5, .ro, 0x0, 0⟩, ⟨"MIRAGE_LATCH", 4, 4, .ro, 0x0, 0⟩, ⟨"PRIMARY_LOST", 3, 3, .ro, 0x0, 0⟩, ⟨"BSD_OK", 2, 2, .ro, 0x0, 0⟩, ⟨"VSD_OK", 1, 1, .ro, 0x0, 0⟩, ⟨"ISD_OK", 0, 0, .ro, 0x0, 0⟩]⟩,
  ⟨"CTL_MISS_CNT", 0x20058, 0, 1, [⟨"VALUE", 31, 0, .ro, 0x0, 1⟩]⟩,
  ⟨"CTL_LIM_CHG", 0x20060, 0, 1, [⟨"VALUE", 31, 0, .ro, 0x0, 0⟩]⟩,
  ⟨"CTL_LIM_DIS", 0x20064, 0, 1, [⟨"VALUE", 31, 0, .ro, 0x0, 0⟩]⟩,
  ⟨"CTL_LIM_SRC", 0x20068, 0, 1, [⟨"SRC_CHG", 10, 8, .ro, 0x0, 0⟩, ⟨"SRC_DIS", 2, 0, .ro, 0x0, 0⟩]⟩,
  ⟨"CTL_IREF", 0x2006C, 0, 1, [⟨"VALUE", 31, 0, .ro, 0x0, 0⟩]⟩,
  ⟨"CTL_IMEAS", 0x20070, 0, 1, [⟨"VALUE", 31, 0, .ro, 0x0, 0⟩]⟩,
  ⟨"CTL_IAUX", 0x20074, 0, 1, [⟨"VALUE", 31, 0, .ro, 0x0, 0⟩]⟩,
  ⟨"CTL_VBUS", 0x20078, 0, 1, [⟨"VALUE", 31, 0, .ro, 0x0, 0⟩]⟩,
  ⟨"CTL_BANKA", 0x20100, 4, 24, [⟨"VALUE", 31, 0, .ws, 0x0, 4⟩]⟩,
  ⟨"CTL_BANKB", 0x20180, 4, 24, [⟨"VALUE", 31, 0, .ws, 0x0, 4⟩]⟩,
  ⟨"CTL_COMMIT", 0x20FF0, 0, 1, [⟨"KEY", 31, 24, .rw, 0x0, 0⟩, ⟨"TOKEN", 15, 0, .rw, 0x0, 0⟩]⟩,
  ⟨"CTL_SHADOW", 0x20FF4, 0, 1, [⟨"REJ_CAUSE", 27, 24, .ro, 0x0, 0⟩, ⟨"VIEW", 17, 17, .rw, 0x0, 0⟩, ⟨"PENDING", 16, 16, .ro, 0x0, 0⟩, ⟨"TOKEN", 15, 0, .ro, 0x0, 0⟩]⟩]

/-- Block PWM (chapter 9). -/
def pwmRegs : List Reg := [
  ⟨"PWM_PH", 0x21000, 4, 6, [⟨"DUTY", 31, 16, .ro, 0x0, 0⟩, ⟨"GATE_FLT", 1, 1, .ro, 0x0, 0⟩, ⟨"ACTIVE", 0, 0, .ro, 0x0, 0⟩]⟩,
  ⟨"PWM_IPH", 0x21020, 4, 6, [⟨"CURRENT", 31, 0, .ro, 0x0, 0⟩]⟩]

/-- Block DISP (chapter 10). -/
def dispRegs : List Reg := [
  ⟨"DISP_CFG", 0x22000, 0, 1, [⟨"LOSS_ACTION", 8, 8, .rw, 0x0, 4⟩, ⟨"SOURCE", 1, 0, .rw, 0x0, 4⟩]⟩,
  ⟨"DISP_CAN_ID", 0x22004, 0, 1, [⟨"IDE", 31, 31, .rw, 0x0, 4⟩, ⟨"ID", 28, 0, .rw, 0x0, 4⟩]⟩,
  ⟨"DISP_LOSS", 0x22008, 0, 1, [⟨"T_HOLD", 31, 16, .rw, 0x1F4, 4⟩, ⟨"PERIOD", 7, 0, .rw, 0xA, 4⟩]⟩,
  ⟨"DISP_RAMP", 0x2200C, 0, 1, [⟨"LOSS_RAMP", 15, 0, .rw, 0x64, 4⟩]⟩,
  ⟨"DISP_RAMP_DEF", 0x22010, 0, 1, [⟨"RATE", 31, 0, .rw, 0x0, 4⟩]⟩,
  ⟨"DISP_STATUS", 0x22020, 0, 1, [⟨"REJ_REASON", 15, 12, .ro, 0x0, 0⟩, ⟨"LIM_DIS", 10, 10, .ro, 0x0, 0⟩, ⟨"SRC_LAST", 9, 8, .ro, 0x0, 0⟩, ⟨"KIND", 7, 6, .ro, 0x0, 0⟩, ⟨"VALID", 5, 5, .ro, 0x0, 0⟩, ⟨"PENDING", 4, 4, .ro, 0x0, 0⟩, ⟨"RAMPING", 3, 3, .ro, 0x0, 0⟩, ⟨"LATE", 2, 2, .ro, 0x0, 0⟩, ⟨"LOST", 1, 1, .ro, 0x0, 0⟩, ⟨"LIMIT", 0, 0, .ro, 0x0, 0⟩]⟩,
  ⟨"DISP_TARGET", 0x22024, 0, 1, [⟨"VALUE", 31, 0, .ro, 0x0, 0⟩]⟩,
  ⟨"DISP_REQ", 0x22028, 0, 1, [⟨"VALUE", 31, 0, .ro, 0x0, 0⟩]⟩,
  ⟨"DISP_SHORTFALL", 0x2202C, 0, 1, [⟨"VALUE", 31, 0, .ro, 0x0, 0⟩]⟩,
  ⟨"DISP_SHORTFALL_W", 0x22030, 0, 1, [⟨"VALUE", 31, 0, .ro, 0x0, 0⟩]⟩,
  ⟨"DISP_SP_ACC", 0x22034, 0, 1, [⟨"VALUE", 31, 0, .ro, 0x0, 1⟩]⟩,
  ⟨"DISP_SP_STALE", 0x22038, 0, 1, [⟨"VALUE", 31, 0, .ro, 0x0, 1⟩]⟩,
  ⟨"DISP_SP_REJ", 0x2203C, 0, 1, [⟨"VALUE", 31, 0, .ro, 0x0, 1⟩]⟩,
  ⟨"DISP_LIMIT_CNT", 0x22040, 0, 1, [⟨"VALUE", 31, 0, .ro, 0x0, 1⟩]⟩,
  ⟨"DISP_RCP_CFG", 0x22080, 0, 1, [⟨"K_CV", 15, 0, .rw, 0x64, 4⟩]⟩,
  ⟨"DISP_RCP_STATUS", 0x22084, 0, 1, [⟨"LAST_END", 31, 28, .ro, 0x0, 0⟩, ⟨"RECIPE", 27, 24, .ro, 0x0, 0⟩, ⟨"STEP", 21, 16, .ro, 0x0, 0⟩, ⟨"RUNNING", 0, 0, .ro, 0x0, 0⟩]⟩,
  ⟨"DISP_RCP_SEALED", 0x22088, 0, 1, [⟨"SEALED", 15, 0, .ro, 0x0, 4⟩]⟩,
  ⟨"DISP_RCP_STEP_TIME", 0x2208C, 0, 1, [⟨"VALUE", 31, 0, .ro, 0x0, 0⟩]⟩,
  ⟨"DISP_RCP_STEP_Q", 0x22090, 0, 1, [⟨"VALUE", 31, 0, .ro, 0x0, 0⟩]⟩,
  ⟨"DISP_RCP_TIME", 0x22094, 0, 1, [⟨"VALUE", 31, 0, .ro, 0x0, 0⟩]⟩,
  ⟨"DISP_GRADE_CFG", 0x220C0, 0, 1, [⟨"BASIS", 8, 8, .rw, 0x0, 4⟩, ⟨"TONE", 4, 0, .rw, 0x0, 4⟩]⟩,
  ⟨"DISP_GRADE_T", 0x220C4, 4, 3, [⟨"VALUE", 31, 0, .rw, 0x0, 4⟩]⟩,
  ⟨"DISP_GRADE_ZMAX", 0x220D0, 0, 1, [⟨"VALUE", 31, 0, .rw, 0x0, 4⟩]⟩]

/-- Block THM (chapter 11). -/
def thmRegs : List Reg := [
  ⟨"THM_CFG", 0x23000, 0, 1, [⟨"AUX_THR", 19, 16, .ws, 0x0, 4⟩, ⟨"ROLE", 15, 8, .ws, 0x0, 4⟩, ⟨"FAULT_STEP", 7, 4, .ws, 0x4, 4⟩]⟩,
  ⟨"THM_LIM_CELL", 0x23010, 0, 1, [⟨"T_SHUT", 31, 16, .ws, 0x258, 4⟩, ⟨"T_THR", 15, 0, .ws, 0x1C2, 4⟩]⟩,
  ⟨"THM_LIM_CELL_R", 0x23014, 0, 1, [⟨"T_RESTART", 15, 0, .ws, 0x15E, 4⟩]⟩,
  ⟨"THM_LIM_PST", 0x23018, 0, 1, [⟨"T_SHUT", 31, 16, .ws, 0x47E, 4⟩, ⟨"T_THR", 15, 0, .ws, 0x3B6, 4⟩]⟩,
  ⟨"THM_LIM_PST_R", 0x2301C, 0, 1, [⟨"T_RESTART", 15, 0, .ws, 0x320, 4⟩]⟩,
  ⟨"THM_LIM_AUX", 0x23020, 0, 1, [⟨"T_SHUT", 31, 16, .ws, 0x28A, 4⟩, ⟨"T_THR", 15, 0, .ws, 0x1F4, 4⟩]⟩,
  ⟨"THM_LIM_AUX_R", 0x23024, 0, 1, [⟨"T_RESTART", 15, 0, .ws, 0x190, 4⟩]⟩,
  ⟨"THM_COOL6", 0x23030, 0, 1, [⟨"MODE", 31, 30, .ws, 0x0, 4⟩, ⟨"SRC", 29, 28, .ws, 0x0, 4⟩, ⟨"SPAN", 23, 16, .ws, 0x32, 4⟩, ⟨"T_START", 15, 0, .ws, 0x12C, 4⟩]⟩,
  ⟨"THM_COOL7", 0x23034, 0, 1, [⟨"MODE", 31, 30, .ws, 0x0, 4⟩, ⟨"SRC", 29, 28, .ws, 0x0, 4⟩, ⟨"SPAN", 23, 16, .ws, 0x32, 4⟩, ⟨"T_START", 15, 0, .ws, 0x12C, 4⟩]⟩,
  ⟨"THM_COOL_MIN", 0x23038, 0, 1, [⟨"DMIN7", 15, 8, .ws, 0x14, 4⟩, ⟨"DMIN6", 7, 0, .ws, 0x14, 4⟩]⟩,
  ⟨"THM_CHL", 0x23040, 0, 1, [⟨"EN", 31, 31, .ws, 0x0, 4⟩, ⟨"PERIOD", 7, 0, .ws, 0xA, 4⟩]⟩,
  ⟨"THM_CHL_TXID", 0x23044, 0, 1, [⟨"IDE", 31, 31, .ws, 0x0, 4⟩, ⟨"ID", 28, 0, .ws, 0x0, 4⟩]⟩,
  ⟨"THM_CHL_RXID", 0x23048, 0, 1, [⟨"IDE", 31, 31, .ws, 0x0, 4⟩, ⟨"ID", 28, 0, .ws, 0x0, 4⟩]⟩,
  ⟨"THM_CHL_SET", 0x2304C, 0, 1, [⟨"SET_HEAT", 31, 16, .ws, 0xC8, 4⟩, ⟨"SET_COOL", 15, 0, .ws, 0xC8, 4⟩]⟩,
  ⟨"THM_STATUS", 0x23060, 0, 1, [⟨"STEP", 31, 28, .ro, 0x8, 1⟩, ⟨"FAST", 25, 25, .ro, 0x0, 0⟩, ⟨"SHUT_LATCH", 24, 24, .ro, 0x0, 4⟩, ⟨"RELEASE_READY", 23, 23, .ro, 0x0, 0⟩, ⟨"COOL_FAULT", 22, 22, .ro, 0x0, 0⟩, ⟨"DIE_HOT", 21, 21, .ro, 0x0, 0⟩, ⟨"FAULT_FORCE", 20, 20, .ro, 0x0, 0⟩, ⟨"FAULT_CNT", 15, 8, .ro, 0x0, 0⟩, ⟨"HOT_POINT", 7, 0, .ro, 0x0, 0⟩]⟩,
  ⟨"THM_RESTART_S", 0x23064, 0, 1, [⟨"VALUE", 31, 0, .ro, 0x0, 0⟩]⟩,
  ⟨"THM_DUTY", 0x23068, 0, 1, [⟨"DUTY7", 15, 8, .ro, 0x0, 0⟩, ⟨"DUTY6", 7, 0, .ro, 0x0, 0⟩]⟩,
  ⟨"THM_PT", 0x23200, 4, 155, [⟨"ABOVE_SHUT", 20, 20, .ro, 0x0, 0⟩, ⟨"ABOVE_THR", 19, 19, .ro, 0x0, 0⟩, ⟨"NEAR", 18, 18, .ro, 0x0, 0⟩, ⟨"FAULTED", 17, 17, .ro, 0x0, 0⟩, ⟨"VALID", 16, 16, .ro, 0x0, 0⟩, ⟨"TEMP", 15, 0, .ro, 0x0, 0⟩]⟩,
  ⟨"THM_SHUT", 0x23600, 4, 87, [⟨"WORD", 31, 0, .ro, 0x0, 4⟩]⟩,
  ⟨"THM_COMMIT", 0x23FF0, 0, 1, [⟨"KEY", 31, 24, .rw, 0x0, 0⟩, ⟨"TOKEN", 15, 0, .rw, 0x0, 0⟩]⟩,
  ⟨"THM_SHADOW", 0x23FF4, 0, 1, [⟨"REJ_CAUSE", 27, 24, .ro, 0x0, 0⟩, ⟨"VIEW", 17, 17, .rw, 0x0, 0⟩, ⟨"PENDING", 16, 16, .ro, 0x0, 0⟩, ⟨"TOKEN", 15, 0, .ro, 0x0, 0⟩]⟩]

/-- Block SAFE (chapter 12). -/
def safeRegs : List Reg := [
  ⟨"SAFE_CFG", 0x30000, 0, 1, [⟨"SI1_USED", 7, 7, .ws, 0x1, 4⟩, ⟨"SI0_USED", 6, 6, .ws, 0x1, 4⟩, ⟨"SI1_TP", 5, 5, .ws, 0x1, 4⟩, ⟨"SI0_TP", 4, 4, .ws, 0x1, 4⟩, ⟨"SI1_MODE", 1, 1, .ws, 0x0, 4⟩, ⟨"SI0_MODE", 0, 0, .ws, 0x0, 4⟩]⟩,
  ⟨"SAFE_SI_DISC", 0x30004, 0, 1, [⟨"T_DISC1", 24, 16, .ws, 0x32, 4⟩, ⟨"T_DISC0", 8, 0, .ws, 0x32, 4⟩]⟩,
  ⟨"SAFE_CELL_V", 0x30008, 0, 1, [⟨"CELL_OV", 31, 16, .ws, 0x0, 4⟩, ⟨"CELL_UV", 15, 0, .ws, 0x0, 4⟩]⟩,
  ⟨"SAFE_CELL_T", 0x3000C, 0, 1, [⟨"CELL_OT", 31, 16, .ws, 0x28A, 4⟩, ⟨"T_CHG_MIN", 15, 0, .ws, 0x0, 4⟩]⟩,
  ⟨"SAFE_CELL_DEB", 0x30010, 0, 1, [⟨"TAPER_DV", 31, 16, .ws, 0x0, 4⟩, ⟨"CELL_DEB", 7, 0, .ws, 0xA, 4⟩]⟩,
  ⟨"SAFE_CMP_V", 0x30014, 0, 1, [⟨"CMP_OV", 31, 16, .ws, 0x0, 4⟩, ⟨"CMP_UV", 15, 0, .ws, 0x0, 4⟩]⟩,
  ⟨"SAFE_CMP_T", 0x30018, 0, 1, [⟨"CMP_OT", 15, 0, .ws, 0x2EE, 4⟩]⟩,
  ⟨"SAFE_HWLIM_CHG", 0x30020, 0, 1, [⟨"HWLIM", 31, 0, .ws, 0x0, 4⟩]⟩,
  ⟨"SAFE_HWLIM_DIS", 0x30024, 0, 1, [⟨"HWLIM", 31, 0, .ws, 0x0, 4⟩]⟩,
  ⟨"SAFE_DERATE", 0x30028, 0, 1, [⟨"DERATE_CHG", 15, 8, .ws, 0x32, 4⟩, ⟨"DERATE_DIS", 7, 0, .ws, 0x32, 4⟩]⟩,
  ⟨"SAFE_ENV", 0x3002C, 0, 1, [⟨"ENV_TOL", 31, 16, .ws, 0x32, 4⟩, ⟨"ENV_T", 7, 0, .ws, 0xA, 4⟩]⟩,
  ⟨"SAFE_SCS", 0x30030, 0, 1, [⟨"SCS_RATE", 31, 16, .ws, 0x64, 4⟩, ⟨"I_ZERO", 15, 0, .ws, 0x14, 4⟩]⟩,
  ⟨"SAFE_AUXOC", 0x30034, 0, 1, [⟨"AUX_OC", 15, 0, .ws, 0x0, 4⟩]⟩,
  ⟨"SAFE_STATUS", 0x30080, 0, 1, [⟨"LAST_CAUSE", 31, 24, .ro, 0x0, 1⟩, ⟨"SET_VALID", 20, 20, .ro, 0x0, 4⟩, ⟨"SCS_ACTIVE", 19, 19, .ro, 0x0, 1⟩, ⟨"SAFE_OK", 18, 18, .ro, 0x0, 1⟩, ⟨"PWM_EN_REQ", 17, 17, .ro, 0x0, 1⟩, ⟨"HB_OK", 16, 16, .ro, 0x0, 1⟩, ⟨"AUX_OC_LATCH", 11, 11, .ro, 0x0, 2⟩, ⟨"ZSL_LATCH", 10, 10, .ro, 0x0, 2⟩, ⟨"SP_LATCH", 9, 9, .ro, 0x0, 4⟩, ⟨"CELL_LIMIT", 8, 8, .ro, 0x0, 1⟩, ⟨"SI1_DISC", 3, 3, .ro, 0x0, 4⟩, ⟨"SI0_DISC", 2, 2, .ro, 0x0, 4⟩, ⟨"SI1_DEMAND", 1, 1, .ro, 0x0, 1⟩, ⟨"SI0_DEMAND", 0, 0, .ro, 0x0, 1⟩]⟩,
  ⟨"SAFE_SI_STATUS", 0x30084, 0, 1, [⟨"DISC_CNT1", 31, 23, .ro, 0x0, 1⟩, ⟨"DISC_CNT0", 22, 14, .ro, 0x0, 1⟩, ⟨"SI1B_TPF", 11, 11, .ro, 0x0, 2⟩, ⟨"SI1A_TPF", 10, 10, .ro, 0x0, 2⟩, ⟨"SI0B_TPF", 9, 9, .ro, 0x0, 2⟩, ⟨"SI0A_TPF", 8, 8, .ro, 0x0, 2⟩, ⟨"SI1B", 3, 3, .ro, 0x0, 2⟩, ⟨"SI1A", 2, 2, .ro, 0x0, 2⟩, ⟨"SI0B", 1, 1, .ro, 0x0, 2⟩, ⟨"SI0A", 0, 0, .ro, 0x0, 2⟩]⟩,
  ⟨"SAFE_PARAM_CRC", 0x30088, 0, 1, [⟨"VALUE", 31, 0, .ro, 0x0, 4⟩]⟩,
  ⟨"SAFE_PLIM_CHG", 0x3008C, 0, 1, [⟨"VALUE", 31, 0, .ro, 0x0, 1⟩]⟩,
  ⟨"SAFE_PLIM_DIS", 0x30090, 0, 1, [⟨"VALUE", 31, 0, .ro, 0x0, 1⟩]⟩,
  ⟨"SAFE_LAST_TIME_LO", 0x30098, 0, 1, [⟨"VALUE", 31, 0, .ro, 0x0, 1⟩]⟩,
  ⟨"SAFE_LAST_TIME_HI", 0x3009C, 0, 1, [⟨"VALUE", 31, 0, .ro, 0x0, 1⟩]⟩,
  ⟨"SAFE_SEI_CNT", 0x300A0, 0, 1, [⟨"VALUE", 31, 0, .ro, 0x0, 4⟩]⟩,
  ⟨"SAFE_COMMIT", 0x30FF0, 0, 1, [⟨"KEY", 31, 24, .rw, 0x0, 0⟩, ⟨"TOKEN", 15, 0, .rw, 0x0, 0⟩]⟩,
  ⟨"SAFE_SHADOW", 0x30FF4, 0, 1, [⟨"REJ_CAUSE", 27, 24, .ro, 0x0, 0⟩, ⟨"VIEW", 17, 17, .rw, 0x0, 0⟩, ⟨"PENDING", 16, 16, .ro, 0x0, 0⟩, ⟨"TOKEN", 15, 0, .ro, 0x0, 0⟩]⟩]

/-- Block KON (chapter 12). -/
def konRegs : List Reg := [
  ⟨"KON_CFG", 0x31000, 0, 1, [⟨"FB_POL_PC", 2, 2, .wp, 0x0, 4⟩, ⟨"FB_POL_MN", 1, 1, .wp, 0x0, 4⟩, ⟨"FB_POL_MP", 0, 0, .wp, 0x0, 4⟩]⟩,
  ⟨"KON_STATUS", 0x31004, 0, 1, [⟨"CLOSE_FAIL2", 23, 23, .ro, 0x0, 1⟩, ⟨"TPF_LS2", 22, 22, .ro, 0x0, 4⟩, ⟨"TPF_HS2", 21, 21, .ro, 0x0, 4⟩, ⟨"WELD2", 20, 20, .ro, 0x0, 4⟩, ⟨"FB2", 19, 19, .ro, 0x0, 1⟩, ⟨"LS2", 18, 18, .ro, 0x0, 1⟩, ⟨"HS2", 17, 17, .ro, 0x0, 1⟩, ⟨"CMD2", 16, 16, .ro, 0x0, 1⟩, ⟨"CLOSE_FAIL1", 15, 15, .ro, 0x0, 1⟩, ⟨"TPF_LS1", 14, 14, .ro, 0x0, 4⟩, ⟨"TPF_HS1", 13, 13, .ro, 0x0, 4⟩, ⟨"WELD1", 12, 12, .ro, 0x0, 4⟩, ⟨"FB1", 11, 11, .ro, 0x0, 1⟩, ⟨"LS1", 10, 10, .ro, 0x0, 1⟩, ⟨"HS1", 9, 9, .ro, 0x0, 1⟩, ⟨"CMD1", 8, 8, .ro, 0x0, 1⟩, ⟨"CLOSE_FAIL0", 7, 7, .ro, 0x0, 1⟩, ⟨"TPF_LS0", 6, 6, .ro, 0x0, 4⟩, ⟨"TPF_HS0", 5, 5, .ro, 0x0, 4⟩, ⟨"WELD0", 4, 4, .ro, 0x0, 4⟩, ⟨"FB0", 3, 3, .ro, 0x0, 1⟩, ⟨"LS0", 2, 2, .ro, 0x0, 1⟩, ⟨"HS0", 1, 1, .ro, 0x0, 1⟩, ⟨"CMD0", 0, 0, .ro, 0x0, 1⟩]⟩,
  ⟨"KON_TIME", 0x31010, 4, 3, [⟨"HIGH", 31, 16, .ro, 0x0, 1⟩, ⟨"LOW", 15, 0, .ro, 0x0, 1⟩]⟩,
  ⟨"KON_OPS", 0x31020, 4, 3, [⟨"HIGH", 31, 16, .ro, 0x0, 4⟩, ⟨"LOW", 15, 0, .ro, 0x0, 4⟩]⟩,
  ⟨"KON_BREAK", 0x31030, 4, 3, [⟨"HIGH", 31, 16, .ro, 0x0, 4⟩, ⟨"LOW", 15, 0, .ro, 0x0, 4⟩]⟩]

/-- Block DIO (chapter 13). -/
def dioRegs : List Reg := [
  ⟨"DIO_DI", 0x32000, 0, 1, [⟨"BROKEN", 31, 16, .ro, 0x0, 1⟩, ⟨"STATE", 15, 0, .ro, 0x0, 1⟩]⟩,
  ⟨"DIO_DI_EDGE", 0x32004, 0, 1, [⟨"FALL", 31, 16, .rc, 0x0, 1⟩, ⟨"RISE", 15, 0, .rc, 0x0, 1⟩]⟩,
  ⟨"DIO_DI_CFG", 0x32008, 0, 1, [⟨"CHG_EN", 31, 16, .rw, 0x0, 4⟩, ⟨"WB_EN", 15, 0, .rw, 0x0, 4⟩]⟩,
  ⟨"DIO_DI_FILT", 0x32010, 4, 4, [⟨"FILT3", 31, 24, .rw, 0xA, 4⟩, ⟨"FILT2", 23, 16, .rw, 0xA, 4⟩, ⟨"FILT1", 15, 8, .rw, 0xA, 4⟩, ⟨"FILT0", 7, 0, .rw, 0xA, 4⟩]⟩,
  ⟨"DIO_DI_I", 0x32020, 4, 8, [⟨"I_HI", 31, 16, .ro, 0x0, 1⟩, ⟨"I_LO", 15, 0, .ro, 0x0, 1⟩]⟩,
  ⟨"DIO_DO_SET", 0x32040, 0, 1, [⟨"ON", 7, 0, .rw, 0x0, 1⟩]⟩,
  ⟨"DIO_DO_CFG", 0x32044, 0, 1, [⟨"FUNC7", 25, 25, .rw, 0x0, 4⟩, ⟨"FUNC6", 24, 24, .rw, 0x0, 4⟩, ⟨"QUAD", 21, 20, .rw, 0x0, 4⟩, ⟨"PAIR", 19, 16, .rw, 0x0, 4⟩, ⟨"FAIL", 15, 0, .rw, 0x0, 4⟩]⟩,
  ⟨"DIO_DO_TMO", 0x32048, 0, 1, [⟨"TMO", 15, 0, .rw, 0x0, 4⟩]⟩,
  ⟨"DIO_PWM", 0x3204C, 0, 1, [⟨"FREQ", 15, 0, .rw, 0xC8, 4⟩]⟩,
  ⟨"DIO_DO_STATE", 0x32050, 0, 1, [⟨"FAIL_ACTIVE", 25, 25, .ro, 0x0, 1⟩, ⟨"TMO_ACTIVE", 24, 24, .ro, 0x0, 1⟩, ⟨"LIMIT", 23, 16, .ro, 0x0, 1⟩, ⟨"READBACK", 15, 8, .ro, 0x0, 1⟩, ⟨"ACTUAL", 7, 0, .ro, 0x0, 1⟩]⟩,
  ⟨"DIO_DO_FAULT", 0x32054, 0, 1, [⟨"THERM", 31, 24, .ro, 0x0, 1⟩, ⟨"CROSS", 23, 16, .ro, 0x0, 1⟩, ⟨"EXT", 15, 8, .ro, 0x0, 1⟩, ⟨"SHORT", 7, 0, .ro, 0x0, 1⟩]⟩,
  ⟨"DIO_DO_ACK", 0x32058, 0, 1, [⟨"CROSS_ACK", 7, 0, .rw, 0x0, 0⟩]⟩,
  ⟨"DIO_DO_CROSS", 0x3205C, 0, 1, [⟨"VALID", 8, 8, .ro, 0x0, 1⟩, ⟨"OFF_CH", 6, 4, .ro, 0x0, 1⟩, ⟨"ON_CH", 2, 0, .ro, 0x0, 1⟩]⟩,
  ⟨"DIO_FIELD", 0x32060, 0, 1, [⟨"LOW", 16, 16, .ro, 0x0, 1⟩, ⟨"VOLT", 15, 0, .ro, 0x0, 1⟩]⟩,
  ⟨"DIO_PT", 0x32070, 4, 4, [⟨"SHORT", 18, 18, .ro, 0x0, 1⟩, ⟨"OPEN", 17, 17, .ro, 0x0, 1⟩, ⟨"VALID", 16, 16, .ro, 0x0, 1⟩, ⟨"TEMP", 15, 0, .ro, 0x0, 1⟩]⟩,
  ⟨"DIO_PT_LEAD", 0x32080, 0, 1, [⟨"LEAD3", 31, 24, .rw, 0x0, 4⟩, ⟨"LEAD2", 23, 16, .rw, 0x0, 4⟩, ⟨"LEAD1", 15, 8, .rw, 0x0, 4⟩, ⟨"LEAD0", 7, 0, .rw, 0x0, 4⟩]⟩]

/-- Block CANA and CANB (chapter 16). -/
def canRegs : List Reg := [
  ⟨"CANA_CFG", 0x40000, 0, 1, [⟨"BO_HOLD", 8, 8, .ws, 0x0, 4⟩, ⟨"TRIPLE", 4, 4, .ws, 0x0, 4⟩, ⟨"BRS_EN", 3, 3, .ws, 0x0, 4⟩, ⟨"FD_EN", 2, 2, .ws, 0x0, 4⟩, ⟨"LISTEN", 1, 1, .ws, 0x0, 4⟩, ⟨"EN", 0, 0, .ws, 0x0, 4⟩]⟩,
  ⟨"CANA_NBT", 0x40004, 0, 1, [⟨"TSEG1", 31, 24, .ws, 0x3F, 4⟩, ⟨"TSEG2", 23, 16, .ws, 0x10, 4⟩, ⟨"SJW", 15, 8, .ws, 0x10, 4⟩, ⟨"BRP", 5, 0, .ws, 0x1, 4⟩]⟩,
  ⟨"CANA_DBT", 0x40008, 0, 1, [⟨"TSEG1", 31, 24, .ws, 0xF, 4⟩, ⟨"TSEG2", 23, 16, .ws, 0x4, 4⟩, ⟨"SJW", 15, 8, .ws, 0x4, 4⟩, ⟨"BRP", 5, 0, .ws, 0x1, 4⟩]⟩,
  ⟨"CANA_TDC", 0x4000C, 0, 1, [⟨"TDC_EN", 8, 8, .ws, 0x1, 4⟩, ⟨"TDCO", 6, 0, .ws, 0x10, 4⟩]⟩,
  ⟨"CANA_CTRL", 0x40020, 0, 1, [⟨"TERM", 8, 8, .rw, 0x0, 0⟩, ⟨"BO_RECOVER", 0, 0, .rw, 0x0, 0⟩]⟩,
  ⟨"CANA_STATUS", 0x40024, 0, 1, [⟨"TEC", 31, 24, .ro, 0x0, 0⟩, ⟨"REC", 23, 16, .ro, 0x0, 0⟩, ⟨"ACK_RUN", 15, 8, .ro, 0x0, 0⟩, ⟨"LEC", 6, 4, .ro, 0x0, 0⟩, ⟨"NO_ACK", 3, 3, .ro, 0x0, 0⟩, ⟨"BUS_OFF", 2, 2, .ro, 0x0, 0⟩, ⟨"ERR_PASSIVE", 1, 1, .ro, 0x0, 0⟩, ⟨"ERR_WARN", 0, 0, .ro, 0x0, 0⟩]⟩,
  ⟨"CANA_ERR_CNT", 0x40028, 0, 1, [⟨"VALUE", 31, 0, .ro, 0x0, 1⟩]⟩,
  ⟨"CANA_BO_CNT", 0x4002C, 0, 1, [⟨"VALUE", 31, 0, .ro, 0x0, 1⟩]⟩,
  ⟨"CANA_RXOBJ", 0x40100, 4, 64, [⟨"EN", 31, 31, .ws, 0x0, 4⟩, ⟨"IDE", 30, 30, .ws, 0x0, 4⟩, ⟨"RX_IE", 29, 29, .ws, 0x0, 4⟩, ⟨"ID", 28, 0, .ws, 0x0, 4⟩]⟩,
  ⟨"CANA_RX_NEW_LO", 0x40200, 0, 1, [⟨"VALUE", 31, 0, .ro, 0x0, 0⟩]⟩,
  ⟨"CANA_RX_NEW_HI", 0x40204, 0, 1, [⟨"VALUE", 31, 0, .ro, 0x0, 0⟩]⟩,
  ⟨"CANA_RX_LOST_LO", 0x40208, 0, 1, [⟨"VALUE", 31, 0, .ro, 0x0, 0⟩]⟩,
  ⟨"CANA_RX_LOST_HI", 0x4020C, 0, 1, [⟨"VALUE", 31, 0, .ro, 0x0, 0⟩]⟩,
  ⟨"CANA_RX_SEL", 0x40210, 0, 1, [⟨"OBJ", 5, 0, .rw, 0x0, 0⟩]⟩,
  ⟨"CANA_RX_HDR", 0x40240, 0, 1, [⟨"VALID", 31, 31, .ro, 0x0, 0⟩, ⟨"LOST", 30, 30, .ro, 0x0, 0⟩, ⟨"FDF", 29, 29, .ro, 0x0, 0⟩, ⟨"BRS", 28, 28, .ro, 0x0, 0⟩, ⟨"ESI", 27, 27, .ro, 0x0, 0⟩, ⟨"LEN", 7, 0, .ro, 0x0, 0⟩]⟩,
  ⟨"CANA_RX_TIME_LO", 0x40244, 0, 1, [⟨"VALUE", 31, 0, .ro, 0x0, 0⟩]⟩,
  ⟨"CANA_RX_TIME_HI", 0x40248, 0, 1, [⟨"VALUE", 31, 0, .ro, 0x0, 0⟩]⟩,
  ⟨"CANA_RX_DATA", 0x40250, 4, 16, [⟨"VALUE", 31, 0, .ro, 0x0, 0⟩]⟩,
  ⟨"CANA_TXOBJ", 0x40300, 4, 32, [⟨"EN", 31, 31, .ws, 0x0, 4⟩, ⟨"IDE", 30, 30, .ws, 0x0, 4⟩, ⟨"ONE_SHOT", 29, 29, .ws, 0x0, 4⟩, ⟨"ID", 28, 0, .ws, 0x0, 4⟩]⟩,
  ⟨"CANA_TX_SEL", 0x40380, 0, 1, [⟨"OBJ", 4, 0, .rw, 0x0, 0⟩]⟩,
  ⟨"CANA_TX_HDR", 0x40384, 0, 1, [⟨"BRS", 9, 9, .rw, 0x0, 0⟩, ⟨"FDF", 8, 8, .rw, 0x0, 0⟩, ⟨"LEN", 7, 0, .rw, 0x0, 0⟩]⟩,
  ⟨"CANA_TX_CMD", 0x40388, 0, 1, [⟨"LOAD", 0, 0, .rw, 0x0, 0⟩]⟩,
  ⟨"CANA_TX_PEND", 0x4038C, 0, 1, [⟨"VALUE", 31, 0, .ro, 0x0, 0⟩]⟩,
  ⟨"CANA_TX_ABORT", 0x40390, 0, 1, [⟨"VALUE", 31, 0, .rw, 0x0, 0⟩]⟩,
  ⟨"CANA_TX_DONE", 0x40394, 0, 1, [⟨"VALUE", 31, 0, .rc, 0x0, 0⟩]⟩,
  ⟨"CANA_TX_FAIL", 0x40398, 0, 1, [⟨"VALUE", 31, 0, .rc, 0x0, 0⟩]⟩,
  ⟨"CANA_TX_DATA", 0x403A0, 4, 16, [⟨"VALUE", 31, 0, .rw, 0x0, 0⟩]⟩,
  ⟨"CANB_CFG", 0x40800, 0, 1, [⟨"BO_HOLD", 8, 8, .ws, 0x0, 4⟩, ⟨"TRIPLE", 4, 4, .ws, 0x0, 4⟩, ⟨"BRS_EN", 3, 3, .ws, 0x0, 4⟩, ⟨"FD_EN", 2, 2, .ws, 0x0, 4⟩, ⟨"LISTEN", 1, 1, .ws, 0x0, 4⟩, ⟨"EN", 0, 0, .ws, 0x0, 4⟩]⟩,
  ⟨"CANB_NBT", 0x40804, 0, 1, [⟨"TSEG1", 31, 24, .ws, 0x3F, 4⟩, ⟨"TSEG2", 23, 16, .ws, 0x10, 4⟩, ⟨"SJW", 15, 8, .ws, 0x10, 4⟩, ⟨"BRP", 5, 0, .ws, 0x1, 4⟩]⟩,
  ⟨"CANB_DBT", 0x40808, 0, 1, [⟨"TSEG1", 31, 24, .ws, 0xF, 4⟩, ⟨"TSEG2", 23, 16, .ws, 0x4, 4⟩, ⟨"SJW", 15, 8, .ws, 0x4, 4⟩, ⟨"BRP", 5, 0, .ws, 0x1, 4⟩]⟩,
  ⟨"CANB_TDC", 0x4080C, 0, 1, [⟨"TDC_EN", 8, 8, .ws, 0x1, 4⟩, ⟨"TDCO", 6, 0, .ws, 0x10, 4⟩]⟩,
  ⟨"CANB_CTRL", 0x40820, 0, 1, [⟨"TERM", 8, 8, .rw, 0x0, 0⟩, ⟨"BO_RECOVER", 0, 0, .rw, 0x0, 0⟩]⟩,
  ⟨"CANB_STATUS", 0x40824, 0, 1, [⟨"TEC", 31, 24, .ro, 0x0, 0⟩, ⟨"REC", 23, 16, .ro, 0x0, 0⟩, ⟨"ACK_RUN", 15, 8, .ro, 0x0, 0⟩, ⟨"LEC", 6, 4, .ro, 0x0, 0⟩, ⟨"NO_ACK", 3, 3, .ro, 0x0, 0⟩, ⟨"BUS_OFF", 2, 2, .ro, 0x0, 0⟩, ⟨"ERR_PASSIVE", 1, 1, .ro, 0x0, 0⟩, ⟨"ERR_WARN", 0, 0, .ro, 0x0, 0⟩]⟩,
  ⟨"CANB_ERR_CNT", 0x40828, 0, 1, [⟨"VALUE", 31, 0, .ro, 0x0, 1⟩]⟩,
  ⟨"CANB_BO_CNT", 0x4082C, 0, 1, [⟨"VALUE", 31, 0, .ro, 0x0, 1⟩]⟩,
  ⟨"CANB_RXOBJ", 0x40900, 4, 64, [⟨"EN", 31, 31, .ws, 0x0, 4⟩, ⟨"IDE", 30, 30, .ws, 0x0, 4⟩, ⟨"RX_IE", 29, 29, .ws, 0x0, 4⟩, ⟨"ID", 28, 0, .ws, 0x0, 4⟩]⟩,
  ⟨"CANB_RX_NEW_LO", 0x40A00, 0, 1, [⟨"VALUE", 31, 0, .ro, 0x0, 0⟩]⟩,
  ⟨"CANB_RX_NEW_HI", 0x40A04, 0, 1, [⟨"VALUE", 31, 0, .ro, 0x0, 0⟩]⟩,
  ⟨"CANB_RX_LOST_LO", 0x40A08, 0, 1, [⟨"VALUE", 31, 0, .ro, 0x0, 0⟩]⟩,
  ⟨"CANB_RX_LOST_HI", 0x40A0C, 0, 1, [⟨"VALUE", 31, 0, .ro, 0x0, 0⟩]⟩,
  ⟨"CANB_RX_SEL", 0x40A10, 0, 1, [⟨"OBJ", 5, 0, .rw, 0x0, 0⟩]⟩,
  ⟨"CANB_RX_HDR", 0x40A40, 0, 1, [⟨"VALID", 31, 31, .ro, 0x0, 0⟩, ⟨"LOST", 30, 30, .ro, 0x0, 0⟩, ⟨"FDF", 29, 29, .ro, 0x0, 0⟩, ⟨"BRS", 28, 28, .ro, 0x0, 0⟩, ⟨"ESI", 27, 27, .ro, 0x0, 0⟩, ⟨"LEN", 7, 0, .ro, 0x0, 0⟩]⟩,
  ⟨"CANB_RX_TIME_LO", 0x40A44, 0, 1, [⟨"VALUE", 31, 0, .ro, 0x0, 0⟩]⟩,
  ⟨"CANB_RX_TIME_HI", 0x40A48, 0, 1, [⟨"VALUE", 31, 0, .ro, 0x0, 0⟩]⟩,
  ⟨"CANB_RX_DATA", 0x40A50, 4, 16, [⟨"VALUE", 31, 0, .ro, 0x0, 0⟩]⟩,
  ⟨"CANB_TXOBJ", 0x40B00, 4, 32, [⟨"EN", 31, 31, .ws, 0x0, 4⟩, ⟨"IDE", 30, 30, .ws, 0x0, 4⟩, ⟨"ONE_SHOT", 29, 29, .ws, 0x0, 4⟩, ⟨"ID", 28, 0, .ws, 0x0, 4⟩]⟩,
  ⟨"CANB_TX_SEL", 0x40B80, 0, 1, [⟨"OBJ", 4, 0, .rw, 0x0, 0⟩]⟩,
  ⟨"CANB_TX_HDR", 0x40B84, 0, 1, [⟨"BRS", 9, 9, .rw, 0x0, 0⟩, ⟨"FDF", 8, 8, .rw, 0x0, 0⟩, ⟨"LEN", 7, 0, .rw, 0x0, 0⟩]⟩,
  ⟨"CANB_TX_CMD", 0x40B88, 0, 1, [⟨"LOAD", 0, 0, .rw, 0x0, 0⟩]⟩,
  ⟨"CANB_TX_PEND", 0x40B8C, 0, 1, [⟨"VALUE", 31, 0, .ro, 0x0, 0⟩]⟩,
  ⟨"CANB_TX_ABORT", 0x40B90, 0, 1, [⟨"VALUE", 31, 0, .rw, 0x0, 0⟩]⟩,
  ⟨"CANB_TX_DONE", 0x40B94, 0, 1, [⟨"VALUE", 31, 0, .rc, 0x0, 0⟩]⟩,
  ⟨"CANB_TX_FAIL", 0x40B98, 0, 1, [⟨"VALUE", 31, 0, .rc, 0x0, 0⟩]⟩,
  ⟨"CANB_TX_DATA", 0x40BA0, 4, 16, [⟨"VALUE", 31, 0, .rw, 0x0, 0⟩]⟩,
  ⟨"CANA_COMMIT", 0x407F0, 0, 1, [⟨"KEY", 31, 24, .rw, 0x0, 0⟩, ⟨"TOKEN", 15, 0, .rw, 0x0, 0⟩]⟩,
  ⟨"CANA_SHADOW", 0x407F4, 0, 1, [⟨"REJ_CAUSE", 27, 24, .ro, 0x0, 0⟩, ⟨"VIEW", 17, 17, .rw, 0x0, 0⟩, ⟨"PENDING", 16, 16, .ro, 0x0, 0⟩, ⟨"TOKEN", 15, 0, .ro, 0x0, 0⟩]⟩,
  ⟨"CANB_COMMIT", 0x40FF0, 0, 1, [⟨"KEY", 31, 24, .rw, 0x0, 0⟩, ⟨"TOKEN", 15, 0, .rw, 0x0, 0⟩]⟩,
  ⟨"CANB_SHADOW", 0x40FF4, 0, 1, [⟨"REJ_CAUSE", 27, 24, .ro, 0x0, 0⟩, ⟨"VIEW", 17, 17, .rw, 0x0, 0⟩, ⟨"PENDING", 16, 16, .ro, 0x0, 0⟩, ⟨"TOKEN", 15, 0, .ro, 0x0, 0⟩]⟩]

/-- Block TWS (chapter 16). -/
def twsRegs : List Reg := [
  ⟨"TWS_CFG", 0x41000, 0, 1, [⟨"PEC_REQ", 8, 8, .rw, 0x0, 4⟩, ⟨"WIN_EN", 1, 1, .rw, 0x1, 4⟩, ⟨"MASK_MODE", 0, 0, .rw, 0x0, 4⟩]⟩,
  ⟨"TWS_ADDR", 0x41004, 0, 1, [⟨"SLOT3", 31, 24, .rw, 0x0, 4⟩, ⟨"SLOT2", 23, 16, .rw, 0x0, 4⟩, ⟨"SLOT1", 15, 8, .rw, 0x0, 4⟩, ⟨"SLOT0", 7, 0, .rw, 0xBA, 4⟩]⟩,
  ⟨"TWS_STATUS", 0x41008, 0, 1, [⟨"LAST_CODE", 15, 8, .ro, 0x0, 0⟩, ⟨"LAST_SLOT", 5, 4, .ro, 0x0, 0⟩, ⟨"STRETCH", 1, 1, .ro, 0x0, 0⟩, ⟨"BUSY", 0, 0, .ro, 0x0, 0⟩]⟩,
  ⟨"TWS_CNT_PEC", 0x41010, 0, 1, [⟨"COUNT", 31, 0, .ro, 0x0, 1⟩]⟩,
  ⟨"TWS_CNT_TMO", 0x41014, 0, 1, [⟨"COUNT", 31, 0, .ro, 0x0, 1⟩]⟩]

/-- Block TWL (chapter 16). -/
def twlRegs : List Reg := [
  ⟨"TWL_CFG", 0x42000, 0, 1, [⟨"SPEED", 17, 16, .rw, 0x1, 0⟩, ⟨"RETRIES", 10, 8, .rw, 0x3, 0⟩, ⟨"PWR_EN", 4, 4, .rw, 0x1, 0⟩, ⟨"EN", 0, 0, .rw, 0x0, 0⟩]⟩,
  ⟨"TWL_XFER", 0x42004, 0, 1, [⟨"RD_LEN", 31, 24, .rw, 0x0, 0⟩, ⟨"WR_LEN", 23, 16, .rw, 0x0, 0⟩, ⟨"ADDR", 14, 8, .rw, 0x0, 0⟩, ⟨"GO", 0, 0, .rw, 0x0, 0⟩]⟩,
  ⟨"TWL_CTRL", 0x42008, 0, 1, [⟨"CLEAR", 1, 1, .rw, 0x0, 0⟩, ⟨"ABORT", 0, 0, .rw, 0x0, 0⟩]⟩,
  ⟨"TWL_STATUS", 0x4200C, 0, 1, [⟨"RESULT", 31, 28, .ro, 0x0, 0⟩, ⟨"ARB_BIT", 26, 24, .ro, 0x0, 0⟩, ⟨"ARB_BYTE", 21, 16, .ro, 0x0, 0⟩, ⟨"NACK_BYTE", 13, 8, .ro, 0x0, 0⟩, ⟨"RETRIES_USED", 4, 2, .ro, 0x0, 0⟩, ⟨"STUCK", 1, 1, .ro, 0x0, 0⟩, ⟨"BUSY", 0, 0, .ro, 0x0, 0⟩]⟩,
  ⟨"TWL_WBUF", 0x42010, 4, 8, [⟨"VALUE", 31, 0, .rw, 0x0, 0⟩]⟩,
  ⟨"TWL_RBUF", 0x42030, 4, 8, [⟨"VALUE", 31, 0, .ro, 0x0, 0⟩]⟩,
  ⟨"TWL_CNT_ARB", 0x42050, 0, 1, [⟨"VALUE", 31, 0, .ro, 0x0, 1⟩]⟩,
  ⟨"TWL_CNT_STUCK", 0x42054, 0, 1, [⟨"VALUE", 31, 0, .ro, 0x0, 1⟩]⟩]

/-- Block ETH (chapter 15). -/
def ethRegs : List Reg := [
  ⟨"ETH_PHY", 0x43000, 4, 2, [⟨"SPEED", 3, 2, .wp, 0x0, 4⟩, ⟨"EN", 0, 0, .wp, 0x1, 4⟩]⟩,
  ⟨"ETH_STAT", 0x43008, 4, 2, [⟨"DUPLEX", 3, 3, .ro, 0x0, 1⟩, ⟨"SPEED_ACT", 2, 1, .ro, 0x0, 1⟩, ⟨"LINK", 0, 0, .ro, 0x0, 1⟩]⟩,
  ⟨"ETH_PVID", 0x43010, 4, 2, [⟨"PCP_DEF", 15, 13, .rw, 0x0, 4⟩, ⟨"PVID", 11, 0, .rw, 0x1, 4⟩]⟩,
  ⟨"ETH_CPU", 0x43018, 0, 1, [⟨"PCP_PTP", 19, 17, .rw, 0x6, 4⟩, ⟨"PCP_RCP", 15, 13, .rw, 0x4, 4⟩, ⟨"VID", 11, 0, .rw, 0x0, 4⟩]⟩,
  ⟨"ETH_IP", 0x43040, 0, 1, [⟨"VALUE", 31, 0, .rw, 0x0, 4⟩]⟩,
  ⟨"ETH_MASK", 0x43044, 0, 1, [⟨"VALUE", 31, 0, .rw, 0x0, 4⟩]⟩,
  ⟨"ETH_GW", 0x43048, 0, 1, [⟨"VALUE", 31, 0, .rw, 0x0, 4⟩]⟩,
  ⟨"ETH_IP_CFG", 0x4304C, 0, 1, [⟨"APPLY", 1, 1, .rw, 0x0, 0⟩, ⟨"DHCP", 0, 0, .rw, 0x0, 4⟩]⟩,
  ⟨"ETH_IP_ACT", 0x43050, 0, 1, [⟨"VALUE", 31, 0, .ro, 0x0, 0⟩]⟩,
  ⟨"ETH_DROP_VLAN", 0x43060, 0, 1, [⟨"VALUE", 31, 0, .ro, 0x0, 1⟩]⟩,
  ⟨"ETH_DROP_STORM", 0x43064, 0, 1, [⟨"VALUE", 31, 0, .ro, 0x0, 1⟩]⟩,
  ⟨"ETH_DROP_CPU", 0x43068, 0, 1, [⟨"VALUE", 31, 0, .ro, 0x0, 1⟩]⟩,
  ⟨"ETH_DROP_QUEUE", 0x4306C, 0, 1, [⟨"VALUE", 31, 0, .ro, 0x0, 1⟩]⟩,
  ⟨"ETH_DROP_SIZE", 0x43070, 0, 1, [⟨"VALUE", 31, 0, .ro, 0x0, 1⟩]⟩,
  ⟨"ETH_VLAN", 0x43100, 4, 16, [⟨"VALID", 31, 31, .rw, 0x0, 4⟩, ⟨"UNTAG", 22, 20, .rw, 0x0, 4⟩, ⟨"MEMBER", 18, 16, .rw, 0x0, 4⟩, ⟨"VID", 11, 0, .rw, 0x0, 4⟩]⟩]

/-- Block PTP (chapter 15). -/
def ptpRegs : List Reg := [
  ⟨"PTP_CFG", 0x44000, 0, 1, [⟨"DOMAIN", 23, 16, .rw, 0x0, 4⟩, ⟨"PORT2_EN", 9, 9, .rw, 0x1, 4⟩, ⟨"PORT1_EN", 8, 8, .rw, 0x1, 4⟩, ⟨"ONE_STEP", 6, 6, .rw, 0x0, 4⟩, ⟨"ROLE", 5, 4, .rw, 0x0, 4⟩, ⟨"TRANSPORT", 3, 3, .rw, 0x0, 4⟩, ⟨"PROFILE", 1, 0, .rw, 0x0, 4⟩]⟩,
  ⟨"PTP_INTV", 0x44004, 0, 1, [⟨"LOG_DELAY", 31, 24, .rw, 0x0, 4⟩, ⟨"ANN_TMO", 23, 16, .rw, 0x3, 4⟩, ⟨"LOG_ANN", 15, 8, .rw, 0x1, 4⟩, ⟨"LOG_SYNC", 7, 0, .rw, 0x0, 4⟩]⟩,
  ⟨"PTP_DS", 0x44008, 0, 1, [⟨"CLOCK_CLASS", 23, 16, .ro, 0xFF, 0⟩, ⟨"PRIORITY2", 15, 8, .rw, 0x80, 4⟩, ⟨"PRIORITY1", 7, 0, .rw, 0x80, 4⟩]⟩,
  ⟨"PTP_SERVO", 0x4400C, 0, 1, [⟨"KP", 31, 16, .rw, 0xB333, 4⟩, ⟨"KI", 15, 0, .rw, 0x4CCD, 4⟩]⟩,
  ⟨"PTP_THRESH", 0x44010, 0, 1, [⟨"UNLOCK_NS", 31, 16, .rw, 0x3E8, 4⟩, ⟨"LOCK_NS", 15, 0, .rw, 0x64, 4⟩]⟩,
  ⟨"PTP_STEP", 0x44014, 0, 1, [⟨"STEP_NS", 31, 0, .rw, 0x2710, 4⟩]⟩,
  ⟨"PTP_HOLDMAX", 0x44018, 0, 1, [⟨"HOLD_MAX", 16, 0, .rw, 0x258, 4⟩]⟩,
  ⟨"PTP_STATUS", 0x44040, 0, 1, [⟨"PORT2_STATE", 23, 20, .ro, 0x0, 1⟩, ⟨"PORT1_STATE", 19, 16, .ro, 0x0, 1⟩, ⟨"SOURCE", 9, 8, .ro, 0x0, 1⟩, ⟨"VALID", 7, 7, .ro, 0x0, 1⟩, ⟨"PTP_TS", 6, 6, .ro, 0x0, 1⟩, ⟨"UTC_VALID", 5, 5, .ro, 0x0, 1⟩, ⟨"STATE", 2, 0, .ro, 0x0, 1⟩]⟩,
  ⟨"PTP_OFFSET", 0x44044, 0, 1, [⟨"VALUE", 31, 0, .ro, 0x0, 1⟩]⟩,
  ⟨"PTP_DELAY", 0x44048, 0, 1, [⟨"VALUE", 31, 0, .ro, 0x0, 1⟩]⟩,
  ⟨"PTP_RATE", 0x4404C, 0, 1, [⟨"VALUE", 31, 0, .ro, 0x0, 1⟩]⟩,
  ⟨"PTP_UTC", 0x44050, 0, 1, [⟨"VALUE", 31, 0, .ro, 0x0, 1⟩]⟩,
  ⟨"PTP_HOLD_S", 0x44054, 0, 1, [⟨"VALUE", 31, 0, .ro, 0x0, 1⟩]⟩,
  ⟨"PTP_GM_LO", 0x44058, 0, 1, [⟨"VALUE", 31, 0, .ro, 0x0, 1⟩]⟩,
  ⟨"PTP_GM_HI", 0x4405C, 0, 1, [⟨"VALUE", 31, 0, .ro, 0x0, 1⟩]⟩,
  ⟨"PTP_STEP_CNT", 0x44060, 0, 1, [⟨"VALUE", 31, 0, .ro, 0x0, 1⟩]⟩,
  ⟨"PTP_TIME_SEC_LO", 0x44084, 0, 1, [⟨"VALUE", 31, 0, .ro, 0x0, 1⟩]⟩,
  ⟨"PTP_TIME_SEC_HI", 0x44088, 0, 1, [⟨"VALUE", 31, 0, .ro, 0x0, 1⟩]⟩,
  ⟨"PTP_PRIV_LO", 0x4408C, 0, 1, [⟨"VALUE", 31, 0, .ro, 0x0, 1⟩]⟩,
  ⟨"PTP_PRIV_HI", 0x44090, 0, 1, [⟨"VALUE", 31, 0, .ro, 0x0, 1⟩]⟩,
  ⟨"PTP_MAP_SEQ", 0x440A0, 0, 1, [⟨"VALUE", 31, 0, .ro, 0x0, 1⟩]⟩,
  ⟨"PTP_MAP_RBASE_LO", 0x440A4, 0, 1, [⟨"VALUE", 31, 0, .ro, 0x0, 1⟩]⟩,
  ⟨"PTP_MAP_RBASE_HI", 0x440A8, 0, 1, [⟨"VALUE", 31, 0, .ro, 0x0, 1⟩]⟩,
  ⟨"PTP_MAP_NBASE_LO", 0x440AC, 0, 1, [⟨"VALUE", 31, 0, .ro, 0x0, 1⟩]⟩,
  ⟨"PTP_MAP_NBASE_HI", 0x440B0, 0, 1, [⟨"VALUE", 31, 0, .ro, 0x0, 1⟩]⟩,
  ⟨"PTP_MAP_RATE", 0x440B4, 0, 1, [⟨"VALUE", 31, 0, .ro, 0x0, 1⟩]⟩,
  ⟨"PTP_SET_SEC_LO", 0x440C0, 0, 1, [⟨"VALUE", 31, 0, .rw, 0x0, 4⟩]⟩,
  ⟨"PTP_SET_SEC_HI", 0x440C4, 0, 1, [⟨"VALUE", 31, 0, .rw, 0x0, 4⟩]⟩,
  ⟨"PTP_SET_NS", 0x440C8, 0, 1, [⟨"VALUE", 31, 0, .rw, 0x0, 4⟩]⟩,
  ⟨"PTP_TIME_NS", 0x44080, 0, 1, [⟨"VALID", 31, 31, .ro, 0x0, 1⟩, ⟨"NS", 29, 0, .ro, 0x0, 1⟩]⟩,
  ⟨"PTP_SET_CTRL", 0x440CC, 0, 1, [⟨"GO", 0, 0, .rw, 0x0, 0⟩]⟩]

/-- Block EVR (chapter 17). -/
def evrRegs : List Reg := [
  ⟨"EVR_STATUS", 0x50000, 0, 1, [⟨"BUF_FILL", 24, 16, .ro, 0x0, 0⟩, ⟨"CLEAR_BUSY", 2, 2, .ro, 0x0, 0⟩, ⟨"FLUSH_BUSY", 1, 1, .ro, 0x0, 0⟩, ⟨"READY", 0, 0, .ro, 0x0, 0⟩]⟩,
  ⟨"EVR_OLDEST", 0x50004, 0, 1, [⟨"VALUE", 31, 0, .ro, 0x0, 4⟩]⟩,
  ⟨"EVR_NEWEST", 0x50008, 0, 1, [⟨"VALUE", 31, 0, .ro, 0x0, 4⟩]⟩,
  ⟨"EVR_HELD", 0x5000C, 0, 1, [⟨"SAFETY", 28, 16, .ro, 0x0, 4⟩, ⟨"GENERAL", 15, 0, .ro, 0x0, 4⟩]⟩,
  ⟨"EVR_DROP", 0x50010, 4, 5, [⟨"VALUE", 31, 0, .ro, 0x0, 4⟩]⟩,
  ⟨"EVR_CRC_BAD", 0x50024, 0, 1, [⟨"VALUE", 31, 0, .ro, 0x0, 1⟩]⟩,
  ⟨"EVR_CFG", 0x50040, 0, 1, [⟨"NEAR_THR", 15, 0, .wp, 0xD800, 4⟩]⟩,
  ⟨"EVR_MARK", 0x50044, 0, 1, [⟨"MARK", 31, 0, .wp, 0x0, 4⟩]⟩]

/-- Block FWU (chapter 18). -/
def fwuRegs : List Reg := [
  ⟨"FWU_STATUS", 0x51000, 0, 1, [⟨"HOPS_DONE", 31, 24, .ro, 0x0, 0⟩, ⟨"HO_STATE", 18, 16, .ro, 0x0, 0⟩, ⟨"XFER_TYPE", 11, 10, .ro, 0x0, 0⟩, ⟨"RESCUE", 9, 9, .ro, 0x0, 0⟩, ⟨"PLN_PAUSE", 8, 8, .ro, 0x0, 0⟩, ⟨"RELAY_BUSY", 3, 3, .ro, 0x0, 0⟩, ⟨"UNCONFIRMED", 2, 2, .ro, 0x0, 4⟩, ⟨"VERIFY_BUSY", 1, 1, .ro, 0x0, 0⟩, ⟨"XFER_OPEN", 0, 0, .ro, 0x0, 0⟩]⟩,
  ⟨"FWU_BANKS", 0x51004, 0, 1, [⟨"FUSE_PLN", 29, 24, .ro, 0x0, 4⟩, ⟨"FUSE_SUP", 21, 16, .ro, 0x0, 4⟩, ⟨"ACT_PLN", 9, 9, .ro, 0x0, 4⟩, ⟨"ACT_SUP", 8, 8, .ro, 0x0, 4⟩, ⟨"PLN_B_VALID", 3, 3, .ro, 0x0, 4⟩, ⟨"PLN_A_VALID", 2, 2, .ro, 0x0, 4⟩, ⟨"SUP_B_VALID", 1, 1, .ro, 0x0, 4⟩, ⟨"SUP_A_VALID", 0, 0, .ro, 0x0, 4⟩]⟩,
  ⟨"FWU_LAST", 0x51008, 0, 1, [⟨"RELAY_STAGE", 31, 24, .ro, 0xFF, 4⟩, ⟨"PLN_RES", 23, 16, .ro, 0xFF, 4⟩, ⟨"HO_RES", 15, 8, .ro, 0xFF, 4⟩, ⟨"VERIFY_RES", 7, 0, .ro, 0xFF, 4⟩]⟩,
  ⟨"FWU_XFER_OFFSET", 0x5100C, 0, 1, [⟨"VALUE", 31, 0, .ro, 0x0, 0⟩]⟩,
  ⟨"FWU_XFER_SIZE", 0x51010, 0, 1, [⟨"VALUE", 31, 0, .ro, 0x0, 0⟩]⟩,
  ⟨"FWU_VER_SUP_A", 0x51014, 0, 1, [⟨"VALUE", 31, 0, .ro, 0x0, 4⟩]⟩,
  ⟨"FWU_VER_SUP_B", 0x51018, 0, 1, [⟨"VALUE", 31, 0, .ro, 0x0, 4⟩]⟩,
  ⟨"FWU_VER_PLN_A", 0x5101C, 0, 1, [⟨"VALUE", 31, 0, .ro, 0x0, 4⟩]⟩,
  ⟨"FWU_VER_PLN_B", 0x51020, 0, 1, [⟨"VALUE", 31, 0, .ro, 0x0, 4⟩]⟩,
  ⟨"FWU_CONFIRM_S", 0x51024, 0, 1, [⟨"VALUE", 31, 0, .ro, 0x0, 1⟩]⟩,
  ⟨"FWU_RELAY_ID", 0x51028, 0, 1, [⟨"VALUE", 31, 0, .ro, 0x0, 0⟩]⟩,
  ⟨"FWU_CFG", 0x51040, 0, 1, [⟨"RELAY_RX", 0, 0, .rw, 0x1, 4⟩]⟩]

/-- Block AUTH (chapter 14). -/
def authRegs : List Reg := [
  ⟨"AUTH_STATUS", 0x52000, 0, 1, [⟨"AUTH_SESS", 23, 16, .ro, 0x0, 0⟩, ⟨"SLOTS_LEFT", 11, 8, .ro, 0x8, 4⟩, ⟨"LOCKOUT", 4, 4, .ro, 0x0, 0⟩, ⟨"KEY_SLOT", 3, 0, .ro, 0xF, 4⟩]⟩,
  ⟨"AUTH_FAIL_CNT", 0x52004, 0, 1, [⟨"COUNT", 31, 0, .ro, 0x0, 4⟩]⟩]

/-- The registers of the 4 KiB block that holds address `a` (R67). -/
def blockRegs (a : Nat) : List Reg :=
  match a / 0x1000 with
  | 0x0 => sysRegs
  | 0x1 => intRegs
  | 0x2 => cmdRegs
  | 0x3 => feedRegs
  | 0x10 => cvlRegs
  | 0x11 => measRegs
  | 0x12 => eisRegs
  | 0x13 => estRegs
  | 0x14 => balRegs
  | 0x15 => dspRegs
  | 0x20 => ctlRegs
  | 0x21 => pwmRegs
  | 0x22 => dispRegs
  | 0x23 => thmRegs
  | 0x30 => safeRegs
  | 0x31 => konRegs
  | 0x32 => dioRegs
  | 0x40 => canRegs
  | 0x41 => twsRegs
  | 0x42 => twlRegs
  | 0x43 => ethRegs
  | 0x44 => ptpRegs
  | 0x50 => evrRegs
  | 0x51 => fwuRegs
  | 0x52 => authRegs
  | _ => []

end Sys2Proof.Machine
end

