-- ==== Sys2Proof/Machine/State.lean ====
section
/-!
DEFINITION. The state of the module as plain data: the register words, and what the spec gives the machine beside
them, one structure per chapter. Quantities are exact (`Rat`) where the spec gives a formula and no number format
(DESIGN CHOICE, log entry 13); times are raw TIME counts of 4 ns (R32, R503).
-/

namespace Sys2Proof.Machine

/-- Who is named in a record as the origin of an action (R569): a session and a transport code. -/
structure Origin where
  session : Nat := 0
  transport : Nat := 0
  deriving DecidableEq, Repr

/-- A record as its source creates it (R565): SEQ and CRC come when it is written to MRAM. -/
structure Rec where
  opSec : Nat
  pwrCycles : Nat
  sysNs : Nat
  sysSec : Nat
  sev : Nat
  source : Nat
  code : Nat
  payload : List Byte
  deriving DecidableEq, Repr

/-- A symbol of the Caravan link (R103): a data byte, or a control symbol by its use or its code. -/
inductive Sym where
  | data (b : Byte)
  | comma | k27_7 | k28_0 | k28_1 | k28_2 | k29_7 | idle | empty
  deriving DecidableEq, Repr

/-- What the module sends to the outside: RCP packets on UDP, CAN FD frames of a packet, frames of CAN transmit
objects, whole Caravan-2 frames and single packets at a Caravan port (0 A, 1 B), SYNC1 with TIME[31:0], its still flag
and the COLLECT header, probes and RATE at enumeration, packets relayed to a neighbour module, and the data of a TWS
read. -/
inductive Out where
  | udp (addr : BitVec 32) (port : BitVec 16) (eth : EthPort) (pcp vid : Nat) (packet : List Byte)
  | canFd (id : Nat) (frames : List (List Byte))
  | frame (port : Nat) (syms : List Sym)
  | packet (port : Nat) (bytes : List Byte)
  | scan (port : Nat) (time : Word) (still : Bool)
  | relay (eth : EthPort) (kind hop left id : Nat) (bytes : List Byte)
  | twl (bytes : List Byte)
  | can (ch : CanCh) (ide : Bool) (id : Nat) (fdf brs : Bool) (data : List Byte)
  | tws (data : List Byte)
  | eth (port len : Nat) (dst src : BitVec 48) (tag : Option (Nat × Nat))
  deriving DecidableEq, Repr

/-- The contactor part of a controlled stop (R48) or of the end of a hold (R58). -/
inductive StopPhase where
  | ramp | openMp | openMn
  deriving DecidableEq, Repr

/-- A controlled stop that runs: its phase, the instant 5 s after the request while the current still has to fall,
and the request to notify (R655). -/
structure Stop where
  phase : StopPhase
  deadline : Option Nat
  ctx : Option Ctx
  deriving DecidableEq, Repr

/-- A posted write on its way (R82): where it goes, the bits it changes, who sent it, and whether it is a remote
board word (R127). -/
structure Post where
  dom : Domain
  addr : Nat
  mask : Word
  value : Word
  origin : Origin
  host : Bool
  at_ : Nat
  deriving DecidableEq, Repr

/-- Chapters 1 to 3 beside the registers. `recoveryReq` and the operating counts are kept in MRAM. -/
structure Sys where
  /-- The zero instant of the running start-up (R52). -/
  bootZero : Nat := 0
  /-- How long the boot ROM has waited at step 2 for SERVICE_REQ in this start-up (R54). -/
  bootWait : Nat := 0
  /-- The cause bit of an ENTER_RECOVERY request waiting in MRAM (R57). -/
  recoveryReq : Bool := false
  /-- A feed has been present since the power-on or brown-out reset, so the module is powered (R56). -/
  powered : Bool := false
  /-- The supervisor runs: it does not in BOOT, in RECOVERY and in direct mode (R24, R52). -/
  supRuns : Bool := false
  /-- An SP contactor hold ends at this instant (R58). -/
  holdEnd : Option Nat := none
  /-- Who is told when a STATE_REQUEST RUN completes (R655). -/
  runCtx : Option Ctx := none
  stop : Option Stop := none
  /-- The OASIS or SHIP entry under way: target state code and request (R50, R655). -/
  sleep : Option (Nat × Ctx) := none
  /-- The wake timer expires at this instant (R51). -/
  wakeAt : Option Nat := none
  /-- The last instant at which a command was admitted (R46, TEST). -/
  lastAdmit : Nat := 0
  posts : List Post := []
  /-- The last instant of each kind of tick (R32, R33). -/
  ticks : List (Nat × Nat) := []
  /-- Origins of the pending commits, by block number (R421, R569). -/
  commitBy : List (Nat × Origin) := []
  /-- The instants at which the pending commits were accepted, by block number (R78). -/
  commitAt : List (Nat × Nat) := []
  /-- SHADOW.TOKEN after the last accepted commit or discard, by block number (R146). -/
  cleanTok : List (Nat × Nat) := []
  /-- SNAPSHOT requests waiting for the copy (R86, R491). -/
  snapCtx : List Ctx := []
  snapReq : Bool := false
  /-- The ID_USER words that have been written (R647). -/
  userUsed : List Nat := []
  /-- The instant until which a rearm holds nIRQ released (R91). -/
  rearmEnd : Nat := 0
  /-- Level of nIRQ: true while the pin is driven low (R90). -/
  nirqLow : Bool := false
  /-- Operating seconds and power cycles since manufacture (R565). -/
  opSec : Nat := 0
  pwrCycles : Nat := 0
  /-- Demand codes registered in BOOT, reported once the supervisor runs (R44); the demand of an OASIS wake. -/
  bootDemands : List Nat := []
  oasisDemand : Option Nat := none
  /-- Islands whose clock is lost now, by bit of SYS_CLK_STATUS (R29). -/
  clkLost : Nat := 0
  /-- The ROM waits at step 2 for SERVICE_REQ since this instant (R54). -/
  svcWait : Option Nat := none
  /-- Step 6 of a start-up still has to restore the learned values; whether their uncertainty rises (R246). -/
  restore : Option Bool := none
  deriving DecidableEq, Repr

/-- A command to the cell monitor boards (R114, R115): to one board or to all, waiting to be placed in a frame or, once
it is `sent`, for its response in the slot at `off`; its re-sends so far, and the frames or scans it has been unanswered
since it was last sent. -/
structure BoardCmd where
  board : Nat
  bcast : Bool := false
  code : Nat
  payload : List Byte
  sent : Bool := false
  off : Nat := 0
  tries : Nat := 0
  age : Nat := 0
  deriving DecidableEq, Repr

/-- What the module keeps of a board beside its registers: whether it is read, the serial it was found with, the class
and the serial that were configured when the ring was last enumerated (R135), its balance resistor RB_RBAL in 0.01 Ω, and
its runs of missing and of valid frames (R112, R120). -/
structure Brd where
  read : Bool := false
  serial : Option Nat := none
  cls : Nat := 0
  cfg : Nat := 0
  rbal : Nat := 0
  missRun : Nat := 0
  goodRun : Nat := 0
  deriving DecidableEq, Repr

/-- What CS knows of a board's channels from its own commands (R155): the mask of the last BAL_SET and the end of its
hold time (R268), both as they were before it while the board has not answered, and the channels that FCV_SET lets hold
their cells (R276). -/
structure BrdChan where
  mask : Nat := 0
  holdEnd : Nat := 0
  old : Option (Nat × Nat) := none
  cv : Nat := 0
  deriving DecidableEq, Repr

/-- A WADI_TEST under way (R145): its command has left in a frame, so that the next T0 is its own; and that T0. -/
structure WadiTest where
  board : Nat
  ctx : Ctx
  due : Bool := false
  start : Option Nat := none
  deriving DecidableEq, Repr

/-- Chapter 4 beside the registers. -/
structure Ring where
  /-- CVL_CFG.BOARDS at the last enumeration (R125, R135). -/
  boards : Nat := 0
  brds : List (Nat × Brd) := []
  /-- FRAME_NO and T0 of the latest frame or scan; END of that frame has reached port B (R104, R122). -/
  frameNo : Nat := 0
  t0 : Option Nat := none
  endBack : Bool := true
  /-- Split mode, kept beside CVL_STATUS.MODE for the keep-alive scan (R125). -/
  split : Bool := false
  /-- Restoration under way (R124): RING_MODE is queued, or (true) has left in a frame. -/
  restoring : Option Bool := none
  /-- The stillness window in progress: T0 of its frame n0 (R152). -/
  still : Option Nat := none
  /-- Mirror of the remote words 0 to 11: word `i` of board `k` at key 32 k + i (R127). -/
  mirror : List (Nat × Word) := []
  /-- Commands to the boards, oldest first: those still to be placed and those that wait for a response (R114). -/
  cmds : List BoardCmd := []
  /-- Commands that the boards take at the next sample instant, and what CS knows of their channels (R155): the channels
  on at the sample instant of the latest frame, and of the one before, whose readings the latest frame carries (R109). -/
  late : List BoardCmd := []
  chans : List (Nat × BrdChan) := []
  onNow : List (Nat × Nat) := []
  onPrev : List (Nat × Nat) := []
  wadiTest : Option WadiTest := none
  /-- The REINIT_CVL that started the running enumeration (R65), and an enumeration that waits for open contactors
  (R125). -/
  enumCtx : Option Ctx := none
  enumWait : Bool := false
  /-- The running enumeration's start, and whether CS has addressed from port B too (R118, R119). -/
  enumFrom : Nat := 0
  tokenB : Bool := false
  /-- ENUM_DONE of the last enumeration. -/
  enumAt : Nat := 0
  /-- Since when the tone amplitude has been below 4.0 Vpp with the tone present, and whether it has been recorded
  (R134). -/
  lowSince : Option Nat := none
  lowNoted : Bool := false
  deriving DecidableEq, Repr

/-- One row of the cell table (R172) without what is kept elsewhere, and the last sample instant of a valid reading.
Both tags start INVALID: readings are invalid until ENUM_DONE (R118). -/
structure Cell where
  vScan : Int := 0
  vPrec : Int := 0
  vFrame : Int := 0
  balCorr : Int := 0
  tScan : Nat := 0
  tPrec : Nat := 0
  iBal : Int := 0
  dev : Int := 0
  temp : Int := 0
  age : Nat := 0
  tagScan : Nat := 4
  tagPrec : Nat := 4
  flags : Nat := 0
  valid : Nat := 0
  seq : Nat := 0
  lastValid : Option Nat := none
  deriving DecidableEq, Repr

/-- Sums over the valid frame readings of a window: number, reading and correction in µV, balancing current in A, and
whether any correction was non-zero (R149, R157, R158). -/
structure WinAcc where
  n : Nat := 0
  sum : Rat := 0
  corr : Rat := 0
  ib : Rat := 0
  adj : Bool := false
  deriving DecidableEq, Repr

/-- Sums of string voltage (V) and current (A) over the control ticks of a SCAN window (R161). -/
structure StrAcc where
  n : Nat := 0
  v : Rat := 0
  i : Rat := 0
  deriving DecidableEq, Repr

/-- An open-wire test of a board (R165): T0 of its first frame once its command has left, and by position the number
and the sum in µV of the valid readings of the baseline, of the even and of the odd phase. -/
structure OwTest where
  board : Nat
  start : Option Nat := none
  base : List (Nat × Nat × Rat) := []
  even : List (Nat × Nat × Rat) := []
  odd : List (Nat × Nat × Rat) := []
  deriving DecidableEq, Repr

/-- Wire-resistance learning under way (R159): the channel being switched, T0 of its first frame once its command has
left, by position the number and the sum of the readings (µV) with the channel on and off and of the currents (A) with it
on, and the estimates found so far by wire, mΩ. -/
structure WireLearn where
  chan : Nat := 0
  start : Option Nat := none
  on : List (Nat × Nat × Rat) := []
  off : List (Nat × Nat × Rat) := []
  cur : List (Nat × Nat × Rat) := []
  est : List (Nat × Rat) := []
  deriving DecidableEq, Repr

/-- A STREAM sample (R151): compensated reading in µV, raw TIME of its sample instant, valid bit and BAL_ADJ bit; and
the balancing or bypass current of its position at that instant, A (R195). -/
structure Sample where
  v : Int
  t : Nat
  valid : Bool
  adj : Bool
  i : Rat
  deriving DecidableEq, Repr

/-- An OPEN_WIRE_TEST request: the boards still under test and the wires found broken. -/
structure OwReq where
  ctx : Ctx
  boards : List Nat
  broken : List Nat
  deriving DecidableEq, Repr

/-- A learning run: WIRE_LEARN, or IC_LEARN with its sums over the estimation ticks of Σ1, ΣI, Σr, ΣI², ΣI·r and the
span of I (R159, R161). -/
inductive Learn where
  | wire (ctx : Ctx) (w : WireLearn)
  | ic (ctx : Ctx) (start : Nat) (n : Nat) (si sr sii sir imin imax : Rat)
  deriving DecidableEq, Repr

/-- An anomaly: the baselines r_base (mV) and d_base(n) (mV) (R163). -/
structure Anomaly where
  rBase : Rat
  dBase : List (Nat × Rat)
  deriving DecidableEq, Repr

/-- Chapter 5 beside the registers. -/
structure Acq where
  cells : List (Nat × Cell) := []
  /-- Sums of the SCAN windows: position `n` of the window that ends before the estimation tick number `w` at key
  1024 w + n. -/
  win : List (Nat × WinAcc) := []
  /-- Sums of the stillness window, or the readings of a Caravan-1 still scan, by position. -/
  prec : List (Nat × WinAcc) := []
  str : List (Nat × StrAcc) := []
  /-- Mean string current over the last SCAN window, in A (R161, R277). -/
  iScan : Rat := 0
  /-- String charge over the last SCAN window, Ah (R224). -/
  qScan : Rat := 0
  /-- Learned wire resistances in 0.001 mΩ, in MRAM (R159, R160). -/
  wires : List (Nat × Nat) := []
  /-- Wires with WIRE_HIGH_R (R167). -/
  highR : List Nat := []
  /-- r (mV) and d(n) (mV) of the last 100 ticks, newest first (R163). -/
  hist : List (Rat × List (Nat × Rat)) := []
  anomaly : Option Anomaly := none
  /-- Consecutive ticks of the pair rule by wire and of the single rule by position; ticks without the single rule of
  positions with CELL_FAULT (R164, R168). -/
  pairRun : List (Nat × Nat) := []
  singleRun : List (Nat × Nat) := []
  faultFree : List (Nat × Nat) := []
  /-- Δd and Δr at the last tick, mV. -/
  lastDelta : List (Nat × Rat) := []
  lastDr : Rat := 0
  /-- Runs of ticks beyond, and 10 mV inside, the soft limits (R170). -/
  ovRun : List (Nat × Nat) := []
  ovIn : List (Nat × Nat) := []
  uvRun : List (Nat × Nat) := []
  uvIn : List (Nat × Nat) := []
  /-- Runs of ticks with the residual beyond and within SUM_TOL (R162). -/
  sumRun : Nat := 0
  sumOk : Nat := 0
  tests : List OwTest := []
  owReqs : List OwReq := []
  /-- End of the last open-wire test of a board, or ENUM_DONE (R164). -/
  owLast : List (Nat × Nat) := []
  /-- Boards under an open-wire test by number of SCAN window, and in the present stillness window (R169). -/
  owScan : List (Nat × Nat) := []
  owPrec : List Nat := []
  /-- The shift (mV) each board found on its wires at its last open-wire test (R166). -/
  owRes : List (Nat × List (Nat × Rat)) := []
  learn : Option Learn := none
  /-- The latest STREAM sample of each position (R151). -/
  stream : List (Nat × Sample) := []
  deriving DecidableEq, Repr

/-- Phases of an impedance measurement, as EIS_STATUS.STATE codes them (R212). -/
inductive MeasPhase where
  | waiting | settling | sweeping | paused
  deriving DecidableEq, Repr

/-- A complex number, exact. -/
structure Phasor where
  re : Rat
  im : Rat
  deriving DecidableEq, Repr

/-- The sums of one tone of one position over its counted sweeps (R199): Σ V·I*, Σ |I|², and over the noise bins
Σ |V|², Σ V·I*, Σ |I|². -/
structure ToneAcc where
  vi : Phasor := ⟨0, 0⟩
  ii : Rat := 0
  nvv : Rat := 0
  nvi : Phasor := ⟨0, 0⟩
  nii : Rat := 0
  deriving DecidableEq, Repr

/-- TEMP of a position over a sweep: estimation ticks, their sum, least and greatest value (0.1 °C; R206). -/
structure TempAcc where
  n : Nat := 0
  sum : Rat := 0
  lo : Int := 0
  hi : Int := 0
  deriving DecidableEq, Repr

/-- The sums of one position (R199, R206). -/
structure PosAcc where
  nv : Nat := 0
  tones : List ToneAcc := []
  temp : TempAcc := {}
  bal : Bool := false
  deriving DecidableEq, Repr

/-- A complete sweep whose samples the lanes have still to demodulate: its boundary, TEMP by position during it, and the
lanes that restarted during it (R209). -/
structure DueSweep where
  from_ : Nat
  temps : List (Nat × TempAcc)
  lost : List Nat
  deriving DecidableEq, Repr

/-- An impedance measurement under way (R192): mode 1 IN_SERVICE or 2 DEDICATED, sweeps wanted, the configuration
latched at the start boundary, the first counted boundary and the end of the last counted sweep. -/
structure Meas where
  mode : Nat
  n : Nat
  phase : MeasPhase
  ctx : Option Ctx
  reqAt : Nat
  startAt : Option Nat := none
  /-- The phase left by a pause at the very instant of a boundary not yet taken: that sweep is complete (R193). -/
  late : Option MeasPhase := none
  /-- A_rms in A, fixed at the start (R187). -/
  aRms : Rat := 0
  /-- Lanes that restarted during the present sweep (R209), and TEMP by position during it. -/
  lostLanes : List Nat := []
  temps : List (Nat × TempAcc) := []
  due : Option DueSweep := none
  /-- Since when the headroom condition has held without a break, while paused (R190). -/
  okSince : Option Nat := none
  armed : Bool := false
  done : Nat := 0
  timeout : Nat := 0
  cohMin : Nat := 0
  tStart : Nat := 0
  tEnd : Nat := 0
  iSum : Rat := 0
  iiStr : List Rat := []
  acc : List (Nat × PosAcc) := []
  /-- Internal SOC by position after each estimation tick since the start boundary, newest first, for the value at the
  midpoint (R206). -/
  socHist : List (Nat × List (Nat × Nat)) := []
  deriving DecidableEq, Repr

/-- A tone entry of the result table (R206), with the Ẑ (mΩ) and the UNC² (mΩ²) that it shows rounded. -/
structure Tone where
  re : Int
  im : Int
  unc : Nat
  coh : Nat
  flags : Nat
  z : Phasor
  u2 : Rat
  deriving DecidableEq, Repr

/-- A row of the result table without its STEP fields (R206). -/
structure ZRow where
  temp : Int
  span : Nat
  nv : Nat
  soc : Nat
  flags : Nat
  validTones : Nat
  tones : List Tone
  deriving DecidableEq, Repr

/-- A complete impedance result (R206). -/
structure ZResult where
  mode : Nat
  n : Nat
  tStart : Nat
  tEnd : Nat
  aRms : Nat
  iMean : Int
  iAch : List Nat
  rows : List (Nat × ZRow)
  ctx : Option Ctx
  lowCoh : Bool
  deriving DecidableEq, Repr

/-- The STEP fields of a row (R204, R206). -/
structure StepRow where
  rOhm : Int
  r10 : Int
  r1 : Int
  seq : Nat
  di : Int
  deriving DecidableEq, Repr

/-- A STEP pulse under way (R205). -/
structure Pulse where
  amp : Rat
  endAt : Nat
  ctx : Option Ctx
  deriving DecidableEq, Repr

/-- Chapter 6 beside the registers. `ready` is a completed result not yet published, `held` one held back (R207). -/
structure Eis where
  meas : Option Meas := none
  /-- A measurement whose last sweep is complete and whose result is not yet published (R207). -/
  closing : Option Meas := none
  held : Option ZResult := none
  /-- The published result with its RESULT_SEQ. -/
  result : Option (Nat × ZResult) := none
  steps : List (Nat × StepRow) := []
  pulse : Option Pulse := none
  /-- Start boundary of the last measurement, and the instant the loop closed (R201). -/
  lastStart : Option Nat := none
  closedAt : Option Nat := none
  /-- The positions of the last publication still to be refitted (R208). -/
  refit : Bool := false
  /-- CE0's primary current samples with their raw TIME, newest first, in A (R196, R203). -/
  cur : List (Nat × Rat) := []
  /-- The string current at sample instants (R196), and the samples of each lane's positions (R151), newest first. -/
  str : List (Nat × Rat) := []
  lanes : List (Nat × List Sample) := []
  /-- The last control tick with excitation, and the last STEP pulse that a dispatch change ended (R203, R205). -/
  injAt : Option Nat := none
  cutAt : Option Nat := none
  /-- t90 of the last step evaluated. -/
  stepAt : Option Nat := none
  deriving DecidableEq, Repr

/-- Parameters of the cell model (R217) in mΩ, s and mΩ·s^−½, with T_FIT (0.1 °C), SOC_FIT (0.01 %), FIT_SEQ, Q and
the tones used. -/
structure Model where
  rs : Rat
  rFast : Rat
  rSlow : Rat
  w : Rat
  tauFast : Rat
  tauSlow : Rat
  tFit : Int
  socFit : Nat
  seq : Nat
  q : Rat
  n : Nat
  deriving DecidableEq, Repr

/-- An anchor (R235): SOC and its uncertainty in %, kind, estimation ticks since then, and the signed and the unsigned
charge since then in Ah. -/
structure Anchor where
  soc : Rat
  sig : Rat
  kind : Nat
  age : Nat
  q : Rat
  gross : Rat
  deriving DecidableEq, Repr

/-- The window of R232: the mean cell current i (A) of its ticks, and OCV⁻¹ with the charge counter of the last 100 ticks,
newest first. -/
structure VirtWin where
  cur : List Rat
  last : List (Rat × Rat)
  deriving DecidableEq, Repr

/-- The estimator's values of one position: filter state in % and mV with its covariance (upper triangle by rows),
the five sections of V_w, hysteresis, SOC_rep, capacity in Ah with its uncertainty in %, and what R227 to R238 keep. -/
structure EstPos where
  soc : Rat := 0
  vFast : Rat := 0
  vSlow : Rat := 0
  cov : List Rat := []
  ladder : List Rat := []
  h : Rat := 0
  /-- SOC_rep to 0.0001 %, and the part of its changes too small to show there (R238). -/
  socRep : Rat := 0
  repRest : Rat := 0
  capQ : Rat := 0
  capSig : Rat := 0
  capN : Nat := 0
  /-- The capacity has been learned, or set by CAPACITY_SET (R5, R262). -/
  capKnown : Bool := false
  /-- Operating seconds of the last capacity update, and its day of network time where that was valid (R236). -/
  capAt : Nat := 0
  capDay : Option Nat := none
  learned : Bool := false
  inserted : Bool := false
  uncHigh : Bool := false
  plateau : Bool := false
  noInput : Bool := false
  resting : Bool := false
  limChg : Bool := false
  limDis : Bool := false
  res : Rat := 0
  ocv : Rat := 0
  /-- The last reference point or insertion: kind, SOC and σ_ref in %, ticks since then, charge since then, and the
  variance R227 gave at the last tick. -/
  refKind : Nat := 0
  refSoc : Rat := 0
  refSig : Rat := 0
  refAge : Nat := 0
  qSince : Rat := 0
  qGross : Rat := 0
  grown : Rat := 0
  anchor : Option Anchor := none
  /-- Consecutive ticks with |i| < 0.01C; V_PREC (or V_SCAN) of the last 10 min with its raw TIME, newest first. -/
  rest : Nat := 0
  vHist : List (Nat × Int) := []
  virt : Option VirtWin := none
  /-- The adopted fit, none for the pack defaults; its age in ticks; one adopted and not yet in force. -/
  fit : Option Model := none
  fitAge : Nat := 0
  fitNext : Option Model := none
  /-- Tracked Rs at T_FIT, mΩ, once a fit or a step has set it; Rs_BOL. -/
  rsTrack : Option Rat := none
  rsBol : Option Rat := none
  qLast : Rat := 0
  rejected : Bool := false
  /-- Mean cell current of the tick in A, and the charge counted in all, Ah. -/
  i : Rat := 0
  qCum : Rat := 0
  seq : Nat := 0
  deriving DecidableEq, Repr

/-- A persistence slot (R242): SEQ, string charge counter (0.001 As), operating seconds, P, PACK, power-fail mark, the
records, and whether its CRC matches. -/
structure PSlot where
  seq : Nat
  charge : Int
  opSec : Nat
  p : Nat
  pack : Nat
  pf : Bool
  recs : List (Nat × EstPos)
  ok : Bool
  deriving DecidableEq, Repr

/-- A write under way: to slot B or A, its contents, whether it is the retry, and the EST_PERSIST requests it serves. -/
structure PWrite where
  toB : Bool
  data : PSlot
  retry : Bool
  ctxs : List Ctx
  deriving DecidableEq, Repr

/-- Chapter 7 beside the registers. The slots are kept in MRAM. -/
structure Est where
  rows : List (Nat × EstPos) := []
  /-- The 10 s capabilities, W (R240), and whether CAPABILITY_LOW may be raised for each. -/
  p10Chg : Nat := 0
  p10Dis : Nat := 0
  lowArmed : Bool := true
  /-- The published rows (R251, R253): state row, model row, summary, byte for byte. -/
  pubState : List (Nat × List Byte) := []
  pubModel : List (Nat × List Byte) := []
  pubSum : List Byte := []
  sumSeq : Nat := 0
  /-- Positions to insert at the next tick, at their first valid SCAN reading, and the check of R229 at COMMISSION. -/
  insertNow : List Nat := []
  insertValid : List Nat := []
  commCheck : Bool := false
  slotA : Option PSlot := none
  slotB : Option PSlot := none
  write : Option PWrite := none
  persistReq : Bool := false
  persistCtx : List Ctx := []
  retryNext : Option PWrite := none
  deriving DecidableEq, Repr

/-- The supervisor's plan (R266): the channels of each board that are on, the bypass current in 10 mA, the channels
that may hold their cells at V_CV (R276), and whether the plan was capped. -/
structure Plan where
  masks : List (Nat × Nat) := []
  byp : Nat := 0
  cv : List (Nat × Nat) := []
  capped : Bool := false
  deriving DecidableEq, Repr

/-- A board's report after a wake (R282): channels reached, timed out, and the charge shed by channel in mAh. -/
structure OasisRep where
  reached : Nat := 0
  timedOut : Nat := 0
  charge : List Nat := []
  deriving DecidableEq, Repr

/-- Chapter 8 beside the registers. -/
structure Bal where
  /-- The plan that has reached the boards, and one complete but not yet sent (R266). -/
  plan : Plan := {}
  next : Option Plan := none
  /-- Boards that have not yet acknowledged the plan sent, none once it is applied; whether it differs from the plan
  applied before, and whether that one had channels on. -/
  acks : Option (List Nat) := none
  changed : Bool := false
  wasOn : Bool := false
  /-- Since when a position's driving reading has been HELD (R273). -/
  heldSince : List (Nat × Nat) := []
  /-- Boards left out of plans (R272); whether a BAL_STOP has come since. -/
  stopped : List Nat := []
  rearmed : Bool := false
  /-- Consecutive refreshes at which RB_BAL_STATE differed from the commanded channels (R272). -/
  diffRun : List (Nat × Nat) := []
  /-- Latest bypass current of a position, 10 mA (R157). -/
  report : List (Nat × Int) := []
  /-- Boards that report THERM_CAP, and the channels a board's temperature allows where it limits them (R270). -/
  thermCap : List Nat := []
  thermLim : List (Nat × Nat) := []
  /-- BAL_MANUAL by board: mask, bypass current, end of the hold time (R290). -/
  manual : List (Nat × Nat × Nat × Nat) := []
  /-- Overshoot runs of positions in CV, in estimation ticks (R278). -/
  ovsRun : List (Nat × Nat) := []
  /-- The Oasis hand-off (R279): the targets still to be acknowledged by board; boards that failed to. -/
  handoff : Option (List Nat) := none
  handoffFail : List Nat := []
  /-- Reports of the last wake by board; still to be applied (R282). -/
  reports : List (Nat × OasisRep) := []
  reportDue : Bool := false
  deriving DecidableEq, Repr
/-- The history of a control section (R299): e[k-1..k-3] and u[k-1..k-3]. -/
structure Hist where
  e1 : Rat := 0
  e2 : Rat := 0
  e3 : Rat := 0
  u1 : Rat := 0
  u2 : Rat := 0
  u3 : Rat := 0
  deriving DecidableEq, Repr

/-- Where CE0 takes its reference from (R298): dispatch, the controlled-stop ramp, the SCS ramp. -/
inductive RefMode where
  | dispatch | stopRamp | scsRamp
  deriving DecidableEq, Repr

/-- The feedback latched at a control tick, in A and V (R298). -/
structure Feedback where
  iStr : Rat := 0
  vStr : Rat := 0
  vBus : Rat := 0
  iPh : List Rat := []
  iAux : Rat := 0
  deriving DecidableEq, Repr

/-- Precharge under way (R321): the instant the precharge contactor was confirmed, and whether a 1 ms mean has
reached 0.25 of I_0. -/
structure Pre where
  tp : Nat
  seen : Bool
  deriving DecidableEq, Repr

/-- Chapter 9 beside the registers: CE0, CE1 and the PWM generators. -/
structure Ctl where
  fb : Feedback := {}
  cur : Hist := {}
  outer : Hist := {}
  /-- Histories of the sharing sections, phase 0 first. -/
  share : List Hist := []
  /-- The repetitive controller's memory, cells not listed hold 0 (R304). -/
  mem : List (Nat × Rat) := []
  mode : RefMode := .dispatch
  /-- The clamped reference of the last outer-loop sample, and the reference in use, in A. -/
  clamped : Rat := 0
  iref : Rat := 0
  /-- The limits of R36 without the dispatch request, in A: those the reference and the excitation are clamped to
  (R37, R38, R188). -/
  limChg : Rat := 0
  limDis : Rat := 0
  /-- The outer section's output plus the repetitive output of the last sample, per unit of I_FS, due at the next
  sample (R303); and the one in use, in A. -/
  outerPend : Option Rat := none
  outerReq : Rat := 0
  /-- Duties handed to the scheduler at the last control tick and not yet loaded (R296), and the loaded ones. -/
  duties : Option (List Rat) := none
  loaded : List Rat := []
  /-- By phase at the last load: the half-period of its carrier, and where its edge has occurred in it (R296). -/
  edges : List (Int × Option Rat) := []
  /-- Sums of the current 1 ms of I_str and I_aux and their count; the last complete means, in A. -/
  sumStr : Rat := 0
  sumAux : Rat := 0
  sumV : Rat := 0
  sumN : Nat := 0
  meanStr : Rat := 0
  meanAux : Rat := 0
  meanV : Rat := 0
  /-- Deadline misses: the outer loop's run, and those since the last management tick (R314). -/
  outerRun : Nat := 0
  missTick : Nat := 0
  /-- The Mirage run: first sample in LSB, number of samples, smallest and largest u (R315). -/
  mirFirst : Int := 0
  mirN : Nat := 0
  mirMin : Rat := 0
  mirMax : Rat := 0
  /-- The last current-loop output u (R299). -/
  u : Rat := 0
  /-- Consecutive control ticks of auxiliary mismatch, and of overcurrent per phase. -/
  auxRun : Nat := 0
  ocRun : List Nat := []
  /-- The LOOP_CLOSE requests that wait for the take (R308). -/
  closeCtx : List Ctx := []
  /-- The clamped reference has been formed since the close, so that the slew can reach it (R309). -/
  refFresh : Bool := false
  pre : Option Pre := none
  /-- The string charge counter in As and the energy counters in Wh (R88, R250). -/
  coulomb : Rat := 0
  eChg : Rat := 0
  eDis : Rat := 0
  /-- The control tick count at which the PWM carriers restarted (R294). -/
  carrier : Nat := 0
  deriving DecidableEq, Repr

/-- A setpoint (R336): KIND, VALUE, its rate (none for a step), its path (1 Ethernet, 2 CANA) and, when it is timed,
its raw apply instant (R340). -/
structure Setpoint where
  kind : Nat
  value : Int
  rate : Option Nat
  path : Nat
  applyAt : Option Nat
  deriving DecidableEq, Repr

/-- A stored recipe: step count, time limit in s, and its 48-byte step records (R346, R347). -/
structure Recipe where
  count : Nat := 0
  limit : Nat := 0
  steps : List (Nat × List Byte) := []
  deriving DecidableEq, Repr

/-- A running recipe: which, the step running or last run and whether it still runs (`active`), the request to notify,
the instants the recipe and the step started, the charge counter at the step's start (As), the request in A, the phase
of a PULSE step and its next change, the step that is ready to start with its latest start (R350), BAL_CFG.POLICY before the recipe took it
(R265), the grading span (R353), whether the step's measurement was started, whether BYPASS_SAT was raised in the step
(R277), and the run of ticks above V_CV (R278). -/
structure Run where
  recipe : Nat
  step : Nat
  ctx : Option Ctx
  startAt : Nat
  stepAt : Nat
  active : Bool := false
  q0 : Rat := 0
  req : Rat := 0
  on : Bool := true
  toggleAt : Option Nat := none
  next : Option Nat := none
  dueAt : Nat := 0
  saved : Option Nat := none
  grading : Bool := false
  graded : Bool := false
  eisOn : Bool := false
  satLow : Bool := false
  deriving DecidableEq, Repr

/-- Chapter 10 beside the registers. Recipes are kept in MRAM. -/
structure Disp where
  active : Option Setpoint := none
  waiting : Option Setpoint := none
  /-- An untimed setpoint that becomes active at the next outer-loop sample (R340). -/
  incoming : Option Setpoint := none
  /-- Sequence bases of the Ethernet and the CANA path (R339). -/
  baseEth : Option Nat := none
  baseCan : Option Nat := none
  /-- The ramped request in VALUE units (R341). -/
  req : Rat := 0
  /-- The last restart of the loss timer (R343). -/
  lastAccept : Nat := 0
  /-- The loss ramp runs; its request in A. -/
  lossRamp : Bool := false
  lossReq : Rat := 0
  /-- LATE and LOST have been raised since the last restart of the loss timer (R343). -/
  lateSeen : Bool := false
  lostSeen : Bool := false
  /-- The instant at which the running ramp began (R341, R343). -/
  rampAt : Nat := 0
  /-- The last outer-loop sample at which the request was clamped, while a limit entry runs (R345). -/
  lastClamp : Option Nat := none
  recipes : List (Nat × Recipe) := []
  run : Option Run := none
  /-- Q_GRADE per position in 0.001 Ah (R353). -/
  qGrade : List (Nat × Rat) := []
  /-- The published 24-byte grade records, position 0 first. -/
  grades : Option (List (List Byte)) := none
  deriving DecidableEq, Repr

/-- Chapter 11 beside the registers. -/
structure Thm where
  /-- TEMP of each position as the latest scan maps it, 0.1 °C (R365). -/
  temps : List (Nat × Int) := []
  /-- First scan of the running rise, recovery and release runs (R367, R371). -/
  riseAt : Option Nat := none
  fallAt : Option Nat := none
  coldAt : Option Nat := none
  /-- Consecutive scans with a point at or above its T_SHUT, and with the die at or above 125.0 °C (R369, R372). -/
  aboveRun : Nat := 0
  dieRun : Nat := 0
  /-- The curves of DO6 and DO7: on, and duty in % (R373). -/
  curve6 : Bool × Nat := (false, 0)
  curve7 : Bool × Nat := (false, 0)
  /-- End of a COOL_TEST under way (R383). -/
  testEnd : Option Nat := none
  /-- The chiller (R374): latest request and its alive counter, latest reply, consecutive replies with FAULT and
  consecutive good ones. -/
  reqAt : Option Nat := none
  alive : Nat := 0
  replyAt : Option Nat := none
  faults : Nat := 0
  goods : Nat := 0
  deriving DecidableEq, Repr

/-- A Safe Current Stop under way (R398): the tick of the demand, |I_d| in A, and the number of consecutive ticks
with M(t) below I_ZERO. -/
structure Scs where
  td : Nat
  id : Rat
  low : Nat
  deriving DecidableEq, Repr

/-- The steps of a contactor test (R434). -/
inductive TestPhase where
  | closing | holding | opening
  deriving DecidableEq, Repr

/-- A contactor test under way: contactor index, channel (0 both, 1 high side, 2 low side), phase, the instant
the phase began, the close time found (ms), the open time found (ms), whether the weld check has failed, and the
request to notify (none once a reset has lost it, R58). -/
structure ConTest where
  c : Nat
  channel : Nat
  phase : TestPhase
  since : Nat
  closeMs : Nat
  openMs : Option Nat
  welded : Bool
  ctx : Option Ctx
  deriving DecidableEq, Repr

/-- A coil test pulse under way (R414): contactor index, whether the high side is pulsed, its planned end, and
whether an off demand has come (R415). -/
structure CoilPulse where
  c : Nat
  high : Bool
  endAt : Nat
  offDemand : Bool
  deriving DecidableEq, Repr

/-- Chapter 12 beside the registers: SP and the ZSL. -/
structure Safe where
  /-- SP's protection ticks (R34). -/
  tick : Nat := 0
  scs : Option Scs := none
  /-- An SCS demand waiting for SP's next protection tick (R390, R398), by code. -/
  scsDemand : Option Nat := none
  /-- The STATE_REQUESTs SAFE_STOP to answer when the state is entered (R655). -/
  scsCtx : List Ctx := []
  /-- The ZSL backup of an SCS-mode input demand acts at this instant (R399). -/
  backupAt : Option Nat := none
  /-- Both channels of SI0, SI1 were open together since the discrepancy latch set (R407). -/
  bothOpen0 : Bool := false
  bothOpen1 : Bool := false
  /-- Per contactor: the instant both switches turned on with the close not yet confirmed, and the instant of
  de-energisation with the open not yet confirmed (R413, R416). -/
  closeAt : List (Nat × Nat) := []
  openAt : List (Nat × Nat) := []
  test : Option ConTest := none
  pulse : Option CoilPulse := none
  /-- Per position, since when every valid reading has been beyond CELL_OV, below CELL_UV, the instant moved on by every
  invalid frame; per board, consecutive mirror refreshes at or above CELL_OT (R400). -/
  ovRun : List (Nat × Nat) := []
  uvRun : List (Nat × Nat) := []
  otRun : List (Nat × Nat) := []
  /-- Sums over the present tick of the highest and the lowest valid chain reading of each frame, 0.01 mV, and the
  number of frames with one (R401). -/
  hiSum : Int := 0
  loSum : Int := 0
  hiLoN : Nat := 0
  /-- A valid cell NTC lies below T_CHG_MIN (R401). -/
  cold : Bool := false
  /-- The soft-limit flags last reported by the supervisor (R401). -/
  softOv : Bool := false
  softUv : Bool := false
  /-- Consecutive ticks outside the current envelope (R425). -/
  envRun : Nat := 0
  /-- Consecutive protection ticks with |I| at or above I_zero during a hold (R58). -/
  holdRun : Nat := 0
  /-- An isolation reset waits for the Wadi tone until this instant (R418), with its origin and request. -/
  rearm : Option (Nat × Origin × Option Ctx) := none
  /-- SP's and the ZSL's heartbeat is present (R20). -/
  spBeat : Bool := false
  zslBeat : Bool := false
  /-- SAFE_CFG and SAFE_AUXOC as the ZSL still evaluates them, while a newer committed set has not completed in its domain
  (R82, R84, R419). -/
  zslOld : Option (BitVec 32 × BitVec 32) := none
  /-- SAFE_STATUS, SAFE_SI_STATUS, KON_STATUS and SAFE_PARAM_CRC as the latest protection tick latched them (R433). -/
  summary : List (BitVec 32) := []
  deriving DecidableEq, Repr

/-- A cross-wiring test under way (R450): the off output, the candidates still to pulse, the one being pulsed, the
instant of its pulse or the earliest instant of the next, and whether `off` has read high inside the window. -/
structure DioTest where
  off : Nat
  cands : List Nat
  cur : Option Nat := none
  since : Nat
  high : Bool := false
  deriving DecidableEq, Repr

/-- A thermal PWM period under way (R452), in cycles. -/
structure DioPwm where
  pos : Nat := 0
  period : Nat := 0
  on : Nat := 0
  deriving DecidableEq, Repr

/-- Chapter 13 beside the registers. Runs count cycles of 100 µs; outputs are named by their commanding members. -/
structure Dio where
  /-- Class of each input at the latest cycle (0 off, 1 on, 2 wire break), and how many cycles it has lasted (R438,
  R439). -/
  cls : List (Nat × Nat) := []
  run : List (Nat × Nat) := []
  /-- L+ below 18.0 V and above 19.0 V (R435). -/
  lowRun : Nat := 0
  highRun : Nat := 0
  /-- The last write of DIO_DO_SET (R446). -/
  setAt : Nat := 0
  /-- The fail state of a warm reset holds until BOOT_DONE (R446); the levels that `hold` keeps. -/
  warm : Bool := false
  held : Nat := 0
  /-- Cycles in current limit, and the last of them (R447). -/
  limRun : List (Nat × Nat) := []
  limLast : List (Nat × Nat) := []
  /-- Retries under way: when each began (R447, R448); a management tick has passed since the last retry instant. -/
  retry : List (Nat × Nat) := []
  retryDue : Bool := false
  /-- Last switch-off; cycles an off output has read high, and one with EXT low (R449). -/
  offAt : List (Nat × Nat) := []
  extRun : List (Nat × Nat) := []
  extLow : List (Nat × Nat) := []
  test : Option DioTest := none
  /-- The cross-wired pairs that are held: the output that was on and the one that followed (R450, R461). -/
  pairs : List (Nat × Nat) := []
  pwm6 : DioPwm := {}
  pwm7 : DioPwm := {}
  /-- Consecutive open or short, and good samples of the PT1000 inputs (R453). -/
  ptBad : List (Nat × Nat) := []
  ptGood : List (Nat × Nat) := []
  deriving DecidableEq, Repr
/-- A kept reply (R476). -/
structure Reply where
  status : Nat
  notify : Bool
  payload : List Byte
  deriving DecidableEq, Repr

/-- A retry-cache entry: an admitted request and its latest kept reply. -/
structure Kept where
  seq : Nat
  op : Nat
  payload : List Byte
  done : Bool
  reply : Option Reply
  deriving DecidableEq, Repr

/-- A refused request (R476). -/
structure Refused where
  seq : Nat
  op : Nat
  payload : List Byte
  deriving DecidableEq, Repr

/-- The sequence state of one session, default sessions (identifier 0) included (R476). -/
structure Chan where
  src : Src
  session : BitVec 32
  high : Option Nat
  cache : List Kept
  refused : List Refused
  deriving DecidableEq, Repr

/-- A numbered session (R474, R481, R483). `nonce` is the open challenge with its expiry. -/
structure Session where
  id : BitVec 32
  src : Src
  port : EthPort
  lastPkt : Nat
  authEnd : Option Nat := none
  nonce : Option (List Byte × Nat) := none
  subs : Nat := 0
  count : Nat := 0
  lastNote : Option Nat := none
  causes : Nat := 0
  causeAt : Nat := 0
  deriving DecidableEq, Repr

/-- An occupied queue slot (R478): the request, whether the slot is a reserved one, when it was taken, and whether
execution has started. -/
structure Slot where
  ctx : Ctx
  op : Nat
  payload : List Byte
  reserved : Bool
  since : Nat
  started : Bool
  deriving DecidableEq, Repr

/-- A CAN FD transfer in reassembly (R471, R472). -/
structure Reasm where
  transfer : Nat
  nextIndex : Nat
  bytes : List Byte
  at_ : Nat
  deriving DecidableEq, Repr

/-- Chapter 14 beside the registers. Keys, the failure count and a running lock-out are kept in MRAM. -/
structure Cmd where
  sessions : List Session := []
  chans : List Chan := []
  slots : List Slot := []
  /-- Instants and holding times of the slots freed lately (R478). -/
  freed : List (Nat × Nat) := []
  /-- The TWS mailbox (R473): request buffer, reply buffer, pointer, queued notifications. -/
  mboxReq : List Byte := []
  mboxRsp : List Byte := []
  mboxPtr : Nat := 0
  mboxQueue : List (List Byte) := []
  reasm : Option Reasm := none
  txCount : Nat := 0
  /-- The 32-byte keys written so far, slot 0 first (R484). -/
  keys : List (List Byte) := []
  failStreak : Nat := 0
  lockEnd : Option Nat := none
  /-- A lock-out that was running at a reset starts afresh when the module next answers RCP (R483). -/
  lockPending : Bool := false
  deriving DecidableEq, Repr

/-- A learned MAC address (R495): the port it was seen on (0 ETH1, 1 ETH2, 2 CPU) and when. -/
structure Mac where
  addr : BitVec 48
  port : Nat
  seen : Nat
  deriving DecidableEq, Repr

/-- Chapter 15 beside the registers. -/
structure Net where
  macs : List Mac := []
  /-- Per port, the second in which broadcast and multicast frames were last counted, and their number; the same
  for frames to the CPU (R501). -/
  storm : List (Nat × Nat × Nat) := []
  cpu : Nat × Nat := (0, 0)
  /-- The address settings in use (R502): address, mask, gateway, and whether DHCP was chosen. -/
  ip : Nat := 0
  mask : Nat := 0
  gw : Nat := 0
  dhcp : Bool := false
  /-- The next try of the DHCP client (R502). -/
  dhcpAt : Nat := 0
  /-- The integral part of the servo in units of 2^-40 (R514). -/
  rhoI : Rat := 0
  /-- The rate in force, exact. -/
  rho : Rat := 0
  /-- Consecutive samples within LOCK_NS, beyond UNLOCK_NS, beyond STEP_NS (R515, R516). -/
  lockRun : Nat := 0
  unlockRun : Nat := 0
  stepRun : Nat := 0
  /-- Rates of up to the last 64 LOCKED samples (R515). -/
  rates : List Rat := []
  lastSample : Option Nat := none
  /-- The instant of the latest Announce message, until its receipt timeout (R515). -/
  lastAnnounce : Option Nat := none
  lastLocked : Option Nat := none
  holdSince : Nat := 0
  deriving DecidableEq, Repr

/-- A CAN frame of a receive or transmit object (R535, R538); `at_` is the raw TIME of a received frame's last bit. -/
structure CanFrame where
  len : Nat
  fdf : Bool
  brs : Bool
  esi : Bool := false
  data : List Byte
  at_ : Nat := 0
  deriving DecidableEq, Repr

/-- One CAN channel beside its registers. -/
structure CanChan where
  /-- The error counters, not saturated (R541). -/
  tec : Nat := 0
  rec_ : Nat := 0
  /-- Frames of the receive and transmit objects. -/
  rx : List (Nat × CanFrame) := []
  tx : List (Nat × CanFrame) := []
  /-- The object whose frame is in arbitration or on the bus (DEDUCED, log entry 50), and whether it has been aborted there. -/
  cur : Option Nat := none
  /-- The identifier of that frame, IDE first: one on the bus keeps it (R537). -/
  curId : Option (Bool × Nat) := none
  aborted : Bool := false
  /-- BO_RECOVER has been written in this bus-off (R542). -/
  released : Bool := false
  deriving DecidableEq, Repr

/-- Chapter 16 beside the registers: the CAN channels, the window addresses of the TWS slots (R552), and the TWL
controller: a transfer under way, a power cycle of the bus clear, and whether one has been made since the last CLEAR
(R558). -/
structure Bus where
  cana : CanChan := {}
  canb : CanChan := {}
  win : List (Nat × Nat) := []
  /-- TWS_CFG and TWS_ADDR still in force after a write of either, until the next STOP (R552). -/
  twsOld : Option (Word × Word) := none
  twlRun : Bool := false
  twlCycle : Bool := false
  twlCycled : Bool := false
  deriving DecidableEq, Repr
/-- A clear under way (R579): mask, the newest SEQ at its start, origin and request. -/
structure Clear where
  mask : Nat
  newest : Nat
  ctx : Ctx
  /-- EVR_READ requests that wait for it: first number, count (R581). -/
  waiting : List (Ctx × Nat × Nat)
  deriving DecidableEq, Repr

/-- Chapter 17 beside the registers: the RAM buffer (oldest first) and the records held in MRAM with their SEQ,
oldest first, per partition. -/
structure Evr where
  buffer : List Rec := []
  safety : List (Nat × Rec) := []
  general : List (Nat × Rec) := []
  /-- The newest SEQ ever assigned; 0 none (R572). -/
  newest : Nat := 0
  /-- Drops since the last DROP_SUMMARY, per severity (R574). -/
  dropsSince : List Nat := [0, 0, 0, 0, 0]
  /-- EVR_NEAR_FULL may be raised (R578). -/
  nearArmed : Bool := true
  clear : Option Clear := none
  deriving DecidableEq, Repr

/-- A flash bank, or the RAM that holds a rescue image: the bytes written since it was last opened for writing, whether
it still holds the image it was delivered with (DESIGN CHOICE, log entry 56), and whether its flash reads with errors. -/
structure Bank where
  bytes : List Byte := []
  factory : Bool := false
  bad : Bool := false
  deriving DecidableEq, Repr

/-- The open transfer (R590): image type, declared size, the session that opened it, and the latest FW_DATA. -/
structure Xfer where
  typ : Nat
  size : Nat
  src : Src
  session : BitVec 32
  at_ : Nat
  deriving DecidableEq, Repr

/-- A hand-over (R598): its request, M1, the management tick Mk of the change of owner under way, and how many such
ticks have passed without it. -/
structure Handover where
  ctx : Ctx
  m1 : Option Nat := none
  mk_ : Option Nat := none
  misses : Nat := 0
  deriving DecidableEq, Repr

/-- A packet of a relay waiting for its reply (R595). -/
structure RelayPkt where
  seq : Nat
  op : Nat
  bytes : List Byte
  tries : Nat := 0
  at_ : Nat
  deriving DecidableEq, Repr

/-- The sending side of a relay (R594, R595): the request at the origin, port, hop number of the neighbour, hops still
to go after it, RELAY_ID; the images still to send after the present one, its type, the next byte to send and the
packets in flight; at the origin, the hops that reported stage 2. -/
structure RelayTx where
  ctx : Option Ctx
  port : EthPort
  hop : Nat
  left : Nat
  id : Nat
  rest : List Nat
  typ : Nat
  next : Nat := 0
  flight : List RelayPkt := []
  hops : Nat := 0
  deriving DecidableEq, Repr

/-- The receiving side: port, hop number of this module, hops to go after it, RELAY_ID, and the types verified. -/
structure RelayRx where
  port : EthPort
  hop : Nat
  left : Nat
  id : Nat
  done : List Nat := []
  deriving DecidableEq, Repr

/-- Chapter 18 beside the registers. The banks are flash; `failed` and `confirmAt` belong to the boot record. -/
structure Fwu where
  supA : Bank := { factory := true }
  supB : Bank := {}
  plnA : Bank := { factory := true }
  plnB : Bank := {}
  rescue : Bank := {}
  xfer : Option Xfer := none
  /-- The FW_VERIFY under way. -/
  verify : Option Ctx := none
  ho : Option Handover := none
  /-- Instant of the confirmation of R593; a new image has failed since its activation (R592). -/
  confirmAt : Option Nat := none
  failed : Bool := false
  /-- A PLN activation under way: its request and P0 (R602). -/
  pln : Option (Ctx × Nat) := none
  tx : Option RelayTx := none
  /-- The SEQ of the next packet this module sends as a relay's host (DEDUCED, log entry 62). -/
  relaySeq : Nat := 0
  rx : Option RelayRx := none
  /-- RECOVERY ends at this instant (R607). -/
  exitAt : Option Nat := none
  deriving DecidableEq, Repr

/-- A changeover under way (R623): its target, whether it is forced, when it started, and what it is for (0 a request
or an automatic return, 1 the start of a swap test, 2 its return). -/
structure Changeover where
  dest : Feed
  forced : Bool
  at_ : Nat
  use : Nat
  deriving DecidableEq, Repr

/-- A swap test in its dwell or its return (R629): the original feed, the end of the dwell, the lowest reading (mV), and
the result found so far, 0 none. -/
structure SwapTest where
  orig : Feed
  endAt : Option Nat := none
  vmin : Nat := 65535
  res : Nat := 0
  deriving DecidableEq, Repr

/-- Chapter 19 beside the registers: ZSL logic of the feeds. -/
structure Pwr where
  chg : Option Changeover := none
  swap : Option SwapTest := none
  /-- The feed that was last active; since when each feed has been present. -/
  last : Option Feed := none
  aSince : Option Nat := none
  bSince : Option Nat := none
  /-- Instants at which the feeds were last found absent; 0 since the power-on. -/
  aGone : Nat := 0
  bGone : Nat := 0
  /-- STANDBY_ABSENT may be raised (R627). -/
  standbyArmed : Bool := true
  /-- The last swap test that was not refused, and the next try after a refused periodic one (R629), in operating
  seconds. -/
  swapAt : Nat := 0
  retryAt : Option Nat := none
  /-- The ZSL has taken FEED_CFG, from the MRAM copy at step 6 or by a write; until then it works with the reset values. -/
  loaded : Bool := false
  /-- Since when a feed has supplied the module with STORE_OK at 0, until RAIL_FAULT is raised for it (R622). -/
  storeLow : Option Nat := none
  deriving DecidableEq, Repr

/-- The whole state. `regs` holds the register words that differ from their reset values, `shadow` the shadow words
(R77) that differ from the active ones; both by rising address. -/
structure State where
  /-- The commands that are waiting, first in, first out. -/
  pending : List Instr := []
  regs : List (Nat × Word) := []
  shadow : List (Nat × Word) := []
  /-- The raw TIME counter (R503). -/
  time : Nat := 0
  /-- The model's own counter of free values (DESIGN CHOICE, log entry 3). -/
  free : Nat := 0
  /-- What the module has sent, newest first. -/
  sent : List Out := []
  sys : Sys := {}
  ring : Ring := {}
  acq : Acq := {}
  eis : Eis := {}
  est : Est := {}
  bal : Bal := {}
  ctl : Ctl := {}
  disp : Disp := {}
  thm : Thm := {}
  safe : Safe := {}
  dio : Dio := {}
  cmd : Cmd := {}
  net : Net := {}
  bus : Bus := {}
  evr : Evr := {}
  fwu : Fwu := {}
  pwr : Pwr := {}
  deriving DecidableEq, Repr

/-- Reasons to stop with a fault: this model has none, because every command of the table has an effect in the spec.
The one constructor is raised by no meaning. -/
inductive Fault where
  /-- Raised by nobody; safe. -/
  | unreachable
  deriving DecidableEq, Repr

/-- Reasons to refuse a command. -/
inductive Refusal where
  /-- An arm of `exec` whose command has no meaning yet, with its mnemonic; safe: nothing can be proved of it. -/
  | notModelled (mnemonic : String)
  deriving DecidableEq, Repr

/-- The module right after a power-on reset (R56, R61): every register at the value of its Reset column, TIME at 0,
the state BOOT (SYS_STATE.STATE resets to 0x2), nothing in progress. -/
def State.reset : State := {}

end Sys2Proof.Machine
end

