-- ==== Sys2Proof/Machine/Operands.lean ====
section
/-!
DEFINITION. Operand forms: codes of the spec's enumerations, numbers read from words and bytes, and times.
-/

namespace Sys2Proof.Machine

/-- Device state codes (R43). -/
abbrev stShip : Nat := 0x0
abbrev stOasis : Nat := 0x1
abbrev stBoot : Nat := 0x2
abbrev stRecovery : Nat := 0x3
abbrev stCommission : Nat := 0x4
abbrev stStandby : Nat := 0x5
abbrev stPrecharge : Nat := 0x6
abbrev stRun : Nat := 0x7
abbrev stSafeStop : Nat := 0x8
abbrev stIsolated : Nat := 0x9
abbrev stTest : Nat := 0xA

/-- Severities (R566). -/
abbrev sevInfo : Nat := 0
abbrev sevNotice : Nat := 1
abbrev sevWarning : Nat := 2
abbrev sevFault : Nat := 3
abbrev sevSafety : Nat := 4

/-- RCP status codes (R468). -/
abbrev stOk : Nat := 0x00
abbrev stAccepted : Nat := 0x01
abbrev stBusy : Nat := 0x02
abbrev stFull : Nat := 0x03
abbrev stBadOp : Nat := 0x10
abbrev stBadLen : Nat := 0x11
abbrev stForbids : Nat := 0x20
abbrev stLoopClosed : Nat := 0x21
abbrev stLocked : Nat := 0x22
abbrev stAuth : Nat := 0x23
abbrev stRange : Nat := 0x30
abbrev stIncons : Nat := 0x31
abbrev stInternal : Nat := 0x40

/-- TIME counts of a microsecond, a millisecond and a second (R32). -/
abbrev us : Nat := 250
abbrev ms : Nat := 250000
abbrev sec : Nat := 250000000

/-- Index of a contactor (R409), an island (R42), a shadow block, a posted domain (R82), a safety channel (R427). -/
def conIdx : Contactor → Nat
  | .mp => 0 | .mn => 1 | .pc => 2

def islandBit : Island → Nat
  | .ref => 0 | .core => 1 | .dsp => 2 | .ctl => 3 | .pwm => 4 | .cva => 5 | .cvb => 6 | .eth => 7 | .time => 8
  | .safe => 9 | .logic => 10 | .aon => 11

def blockIdx : Block → Nat
  | .ctl => 0 | .cvl => 1 | .est => 2 | .thm => 3 | .safe => 4 | .cana => 5 | .canb => 6

def domainBit : Domain → Nat
  | .mram => 0 | .cvr => 1 | .phy => 2 | .zsl => 3 | .aon => 4

def chIdx : SiCh → Nat
  | .si0a => 0 | .si0b => 1 | .si1a => 2 | .si1b => 3

def portIdx : EthPort → Nat
  | .eth1 => 0 | .eth2 => 1

def canIdx : CanCh → Nat
  | .cana => 0 | .canb => 1

/-- First address of a block's commit word; the shadow word follows it (R77). -/
def commitAddr : Block → Nat
  | .ctl => 0x20FF0 | .cvl => 0x10FF0 | .est => 0x13FF0 | .thm => 0x23FF0 | .safe => 0x30FF0 | .cana => 0x407F0
  | .canb => 0x40FF0

/-- The block whose WS words hold address `a` (R77). -/
def blockOf (a : Nat) : Option Block :=
  match a / 0x1000 with
  | 0x20 => some .ctl
  | 0x10 => some .cvl
  | 0x13 => some .est
  | 0x23 => some .thm
  | 0x30 => some .safe
  | 0x40 => if a < 0x40800 then some .cana else some .canb
  | _ => none

def allBlocks : List Block := [.ctl, .cvl, .est, .thm, .safe, .cana, .canb]

/-- Fields of a block's shadow word (R79). -/
def shToken (b : Block) : Fld := ⟨commitAddr b + 4, 0, 16⟩
def shPending (b : Block) : Fld := ⟨commitAddr b + 4, 16, 1⟩
def shView (b : Block) : Fld := ⟨commitAddr b + 4, 17, 1⟩
def shRej (b : Block) : Fld := ⟨commitAddr b + 4, 24, 4⟩

/-- The 64-bit little-endian number of two words' fields. -/
def join64 (lo hi : Nat) : Nat := lo + 2 ^ 32 * hi

/-- The transport code of a request (R569). -/
def Ctx.transport (c : Ctx) : Nat :=
  match c.src with
  | .udp _ _ => match c.port with | .eth1 => 1 | .eth2 => 2
  | .relay p => match p with | .eth1 => 1 | .eth2 => 2
  | .cana => 3
  | .tws => 4

/-- The origin of a request, of a window access, and of the module itself (R569). -/
def Ctx.origin (c : Ctx) : Origin := ⟨c.session.toNat, Ctx.transport c⟩

def Path.origin : Path → Origin
  | .rcp c => Ctx.origin c
  | .win => ⟨0, 5⟩

abbrev inside : Origin := ⟨0, 0⟩

/-- The five payload bytes of an origin (R569). -/
def originBytes (o : Origin) : List Byte := u32 o.session ++ u8 o.transport

/-- Bytes from `i` on, `n` of them, as a number. -/
def numAt (l : List Byte) (i n : Nat) : Nat := ofLe ((l.drop i).take n)

/-- Big-endian-free bytes of a wide bit vector: its little-endian bytes. -/
def bvBytes {w : Nat} (k : Nat) (b : BitVec w) : List Byte := leBytes k b.toNat

/-- Bytes XORed place by place. -/
def xorBytes (a b : List Byte) : List Byte := (a.zip b).map (fun p => p.1 ^^^ p.2)

end Sys2Proof.Machine
end

