-- ==== Sys2Proof/Machine/Ops.lean ====
section
/-!
DEFINITION. The shared operations: register words and fields, time, interrupt causes, event records, and the device
state.
-/

namespace Sys2Proof.Machine

/-! ## Register words -/

/-- Does a register of the map hold address `a`? -/
def regHolds (r : Reg) (a : Nat) : Bool :=
  if r.count ≤ 1 then a == r.base
  else r.base ≤ a && (a - r.base) % r.stride == 0 && (a - r.base) / r.stride < r.count

/-- The register that holds address `a`, if the map lists one. -/
def findReg (a : Nat) : Option Reg := (blockRegs a).find? (fun r => regHolds r a)

/-- The mask of a field. -/
def fdMask (f : Fd) : Word := lowMask (f.hi - f.lo + 1) <<< f.lo

/-- The reset word of an address (the Reset columns, R11); unlisted words read 0 (R9). -/
def resetWord (a : Nat) : Word :=
  match findReg a with
  | some r => r.flds.foldl (fun w f => withField w f.lo (f.hi - f.lo + 1) f.reset) 0
  | none => 0

/-- A sparse register file: read, and write in canonical form. -/
def rfGet (rf : List (Nat × Word)) (a : Nat) : Word := (rf.lookup a).getD (resetWord a)

def rfSet (rf : List (Nat × Word)) (a : Nat) (w : Word) : List (Nat × Word) :=
  if w = resetWord a then tabDel rf a else tabSet rf a w

/-- The active word at an address. -/
def State.word (s : State) (a : Nat) : Word := rfGet s.regs a

def State.setWord (s : State) (a : Nat) (w : Word) : State := { s with regs := rfSet s.regs a w }

/-- The shadow word at an address; words never written to the shadow equal the active word (R77). -/
def State.shadowWord (s : State) (a : Nat) : Word := (s.shadow.lookup a).getD (s.word a)

/-- A field of an active word, its change, and its use as a flag. -/
def State.get (s : State) (f : Fld) : Nat := fieldOf (s.word f.addr) f.lo f.n

def State.set (s : State) (f : Fld) (v : Nat) : State := s.setWord f.addr (withField (s.word f.addr) f.lo f.n v)

def State.flag (s : State) (f : Fld) : Bool := s.get f == 1

def State.setB (s : State) (f : Fld) (b : Bool) : State := s.set f (b2n b)

/-- A signed field. -/
def State.getI (s : State) (f : Fld) : Int := signed f.n (s.get f)

def State.setI (s : State) (f : Fld) (v : Int) : State := s.set f (unsigned f.n v)

/-- A counter that wraps, and one that saturates at the largest value of its field. -/
def State.bump (s : State) (f : Fld) (k : Nat) : State := s.set f (s.get f + k)

def State.bumpSat (s : State) (f : Fld) : State := if s.get f + 1 < 2 ^ f.n then s.set f (s.get f + 1) else s

/-- A 64-bit value in two words, low word first. -/
def State.get64 (s : State) (lo hi : Fld) : Nat := join64 (s.get lo) (s.get hi)

def State.set64 (s : State) (lo hi : Fld) (v : Nat) : State := (s.set lo v).set hi (v / 2 ^ 32)

/-- A fresh free value (DESIGN CHOICE, log entry 3). -/
def State.fresh (s : State) : Nat × State := (Config.freeValue s.free, { s with free := s.free + 1 })

/-! ## Time -/

/-- TIME reaches `t`; it never runs back (R503). -/
def State.at (s : State) (t : Nat) : State := { s with time := max s.time t }

/-- Kinds of tick. -/
abbrev tkControl : Nat := 0
abbrev tkOuter : Nat := 1
abbrev tkFrame : Nat := 2
abbrev tkProtection : Nat := 3
abbrev tkEstimation : Nat := 4
abbrev tkManagement : Nat := 5
abbrev tkDio : Nat := 6
abbrev tkRecord : Nat := 7
abbrev tkSweep : Nat := 8
abbrev tkThermal : Nat := 9
abbrev tkPwm : Nat := 10

/-- The instant of the next tick of a kind: the first multiple of its period that is neither past nor used (R33). -/
def nextTick (last : Option Nat) (period now : Nat) : Nat :=
  let t := (now + period - 1) / period * period
  match last with
  | some l => if t ≤ l then (l / period + 1) * period else t
  | none => t

/-- A tick of a kind starts: TIME stands at an exact multiple of its count (R32, R33). -/
def State.tick (s : State) (kind period : Nat) : State :=
  let t := nextTick (s.sys.ticks.lookup kind) period s.time
  { s with
    time := t
    sys := { s.sys with ticks := tabSet s.sys.ticks kind t } }

/-- The present device state code (R43). -/
def State.st (s : State) : Nat := s.get F.SYS_STATE_STATE

/-- The awake states (R44). -/
def awakeCode (n : Nat) : Bool :=
  n == stCommission || n == stStandby || n == stPrecharge || n == stRun || n == stSafeStop || n == stIsolated ||
    n == stTest

def State.awake (s : State) : Bool := awakeCode s.st

def State.direct (s : State) : Bool := s.flag F.SYS_MODE_DIRECT

/-- The supervisor does its work: it runs, and the module is not in direct mode (R12, R24). -/
def supActs (s : State) : Bool := s.sys.supRuns && !s.direct

/-- Network time N(raw) in ns (R504). -/
def networkNs (s : State) (raw : Nat) : Nat :=
  let rb := s.get64 F.PTP_MAP_RBASE_LO_VALUE F.PTP_MAP_RBASE_HI_VALUE
  let nb := s.get64 F.PTP_MAP_NBASE_LO_VALUE F.PTP_MAP_NBASE_HI_VALUE
  let rate := s.getI F.PTP_MAP_RATE_VALUE
  ((nb : Int) + (((raw : Int) - rb) * 4 * (2 ^ 40 + rate)).fdiv (2 ^ 40)).toNat

/-- SYS_TIME seconds and nanoseconds, and whether it is valid (R504, R517). -/
def sysSeconds (s : State) : Nat := networkNs s s.time / 1000000000
def sysNanos (s : State) : Nat := networkNs s s.time % 1000000000
def timeValid (s : State) : Bool := s.flag F.PTP_STATUS_VALID

/-! ## Causes -/

/-- A subscribed latch waits in its session for the next notification (R481). -/
def noteCause (t bit : Nat) (x : Session) : Session :=
  if x.subs / 2 ^ bit % 2 = 1 then
    { x with causes := x.causes ||| 2 ^ bit, causeAt := if x.causes = 0 then t else x.causeAt }
  else x

/-- A cause latches, masked or not (R90); subscribers are noted (R481). -/
def raise (c : Cause) (s : State) : State :=
  let s := s.set (F.INT_CAUSE_CAUSE c.g) (s.get (F.INT_CAUSE_CAUSE c.g) ||| 2 ^ c.b)
  { s with cmd := { s.cmd with sessions := s.cmd.sessions.map (noteCause s.time (8 * c.g + c.b)) } }

/-! ## Records -/

/-- A drop is counted under its severity; the first since the last summary raises EVR_DROP (R574). -/
def countDrop (sev : Nat) (s : State) : State :=
  let first := s.evr.dropsSince.all (· == 0)
  let s := s.bump (F.EVR_DROP_VALUE sev) 1
  let s := { s with evr := { s.evr with dropsSince := setAt s.evr.dropsSince sev (getAt s.evr.dropsSince sev 0 + 1) } }
  if first then raise C.EVR_DROP s else s

/-- The lowest severity in a buffer. -/
def lowestSev (l : List Rec) : Nat := l.foldl (fun m r => min m r.sev) 5

/-- Remove the most recently entered record of a severity. -/
def dropLast (sev : Nat) (l : List Rec) : List Rec :=
  (l.reverse.eraseP (fun r => r.sev == sev)).reverse

/-- A record enters the RAM buffer of 256 (R570, R571). -/
def enterRec (r : Rec) (s : State) : State :=
  if s.evr.buffer.length < 256 then { s with evr := { s.evr with buffer := s.evr.buffer ++ [r] } }
  else if lowestSev s.evr.buffer < r.sev then
    let low := lowestSev s.evr.buffer
    countDrop low { s with evr := { s.evr with buffer := dropLast low s.evr.buffer ++ [r] } }
  else countDrop r.sev s

/-- A source creates a record now (R565, R568): its time fields are those of this instant. -/
def addRec (sev source code : Nat) (payload : List Byte) (s : State) : State :=
  let v := timeValid s
  enterRec ⟨s.sys.opSec, s.sys.pwrCycles, if v then sysNanos s + 2 ^ 31 else 0, if v then sysSeconds s else 0, sev,
    source, code, payload⟩ s

/-- A record written together with a cause carries the cause's group and bit (R568). -/
def causeRec (c : Cause) (sev : Nat) (payload : List Byte) (s : State) : State :=
  let source := if c.g = 15 then (if c.b < 3 then 0x0F else 0x10) else c.g
  addRec sev source c.b payload (raise c s)

/-- A CONFIG_WRITE record of a changed word; none where the word did not change (R569). -/
def configRec (o : Origin) (addr : Nat) (new old : Word) (s : State) : State :=
  if new = old then s
  else addRec sevInfo 0x01 0x0010 (u32 addr ++ u32 new.toNat ++ u32 old.toNat ++ originBytes o) s

/-! ## Sending -/

def State.send (s : State) (o : Out) : State := { s with sent := o :: s.sent }

end Sys2Proof.Machine
end

