-- ==== Sys2Proof/Machine/Rcp.lean ====
section
/-!
DEFINITION. The shared operations of the command protocol (chapter 14): packets, replies and notifications with the
retry cache and the queue slots, and the checks every opcode passes before its effect.
-/

namespace Sys2Proof.Machine

/-! ## Packets -/

/-- A packet from the module in the form of its request (R465, R466). -/
def packet (c : Ctx) (flags op status : Nat) (payload : List Byte) : List Byte :=
  if c.v1 then
    let h := u8 1 ++ u8 flags ++ u16 c.seq.toNat ++ u16 op ++ u8 payload.length ++ u8 status ++ payload
    h ++ u16 (crc16 h)
  else
    let h := u16 0x485A ++ u8 2 ++ u8 flags ++ u16 c.seq.toNat ++ u16 op ++ u16 payload.length ++
      u32 c.session.toNat ++ u8 status ++ u8 0 ++ payload
    h ++ u32 (crc32c h)

/-- The smallest CAN FD data length that holds `n` bytes. -/
def fdLen (n : Nat) : Nat :=
  if n ≤ 8 then n else if n ≤ 12 then 12 else if n ≤ 16 then 16 else if n ≤ 20 then 20
  else if n ≤ 24 then 24 else if n ≤ 32 then 32 else if n ≤ 48 then 48 else 64

/-- The CAN FD frames of a packet from index `i` on (R471). -/
def canFrames : Nat → Nat → Nat → List Byte → List (List Byte)
  | 0, _, _, _ => []
  | k + 1, tr, i, l =>
    let more := 62 < l.length
    let kind := if i = 0 then (if more then 1 else 0) else (if more then 2 else 3)
    let body := u8 (kind * 64 + i % 64) ++ u8 tr ++ l.take 62
    let frame := body ++ List.replicate (fdLen body.length - body.length) (0xCC : Byte)
    if more then frame :: canFrames k tr (i + 1) (l.drop 62) else [frame]

/-- A reply or a notification enters the reply buffer of the TWS mailbox and READY sets (R473). -/
def mboxFill (pkt : List Byte) (s : State) : State :=
  let s := { s with cmd := { s.cmd with mboxRsp := pkt } }
  let s := ((s.set F.CMD_MBOX_RSP_LEN pkt.length).setB F.CMD_MBOX_READY true)
  raise C.CMD_DONE s

/-- A reply on the TWS mailbox: it overwrites an unread item, which sets OVERRUN (R473). -/
def mboxReply (pkt : List Byte) (s : State) : State :=
  let s := if s.flag F.CMD_MBOX_READY then s.setB F.CMD_MBOX_OVERRUN true else s
  mboxFill pkt (s.setB F.CMD_MBOX_BUSY false)

/-- A notification on the TWS mailbox queues while READY is set, up to 8; a ninth discards the oldest unread item
(R473). -/
def mboxNotify (pkt : List Byte) (s : State) : State :=
  if s.flag F.CMD_MBOX_READY then
    match s.cmd.mboxQueue with
    | h :: t =>
      if t.length < 7 then { s with cmd := { s.cmd with mboxQueue := h :: t ++ [pkt] } }
      else
        let s := { s with cmd := { s.cmd with mboxQueue := t ++ [pkt] } }
        mboxFill h (s.setB F.CMD_MBOX_OVERRUN true)
    | [] => { s with cmd := { s.cmd with mboxQueue := [pkt] } }
  else mboxFill pkt s

/-- A packet goes to its source on the transport of the request (R470 to R473, R480), over UDP with the priority and the
VLAN of the CPU port (R499). -/
def transmit (c : Ctx) (notify : Bool) (pkt : List Byte) (s : State) : State :=
  match c.src with
  | .udp a p => s.send (.udp a p c.port (s.get F.ETH_CPU_PCP_RCP) (s.get F.ETH_CPU_VID) pkt)
  | .cana =>
    let s := s.send (.canFd (s.get F.CMD_CAN_TXID_ID) (canFrames 17 s.cmd.txCount 0 pkt))
    { s with cmd := { s.cmd with txCount := (s.cmd.txCount + 1) % 256 } }
  | .tws => if notify then mboxNotify pkt s else mboxReply pkt s
  | .relay p =>
    match s.fwu.rx with
    | some x => s.send (.relay p 1 (x.hop - 1) (x.left + 1) x.id pkt)
    | none => s

/-! ## Sessions -/

/-- The numbered session of an identifier. -/
def findSession (id : BitVec 32) (s : State) : Option Session := s.cmd.sessions.find? (fun x => x.id == id)

/-- Is the session of a request open: the default session always, a numbered one while it is held and bound to this
source (R474)? -/
def sessionOpen (c : Ctx) (s : State) : Bool :=
  c.session == 0 || s.cmd.sessions.any (fun x => x.id == c.session && x.src == c.src)

/-- Is this a UDP source? -/
def isUdp : Src → Bool
  | .udp _ _ => true
  | _ => false

/-- Is a session authorised at time `t` (R483)? -/
def liveAuth (t : Nat) (x : Session) : Bool := x.authEnd.any (fun e => decide (t < e))

/-- Is the request authorised (R482, R483)? RCP-1 and default sessions never are. -/
def authorised (c : Ctx) (s : State) : Bool :=
  !c.v1 && c.session != 0 &&
    s.cmd.sessions.any (fun x => x.id == c.session && x.src == c.src && liveAuth s.time x)

/-- A numbered session closes (R474); an authorisation that ends with it raises AUTH_EXPIRED (R483). -/
def closeSession (id : BitVec 32) (s : State) : State :=
  let live := s.cmd.sessions.any (fun x => x.id == id && liveAuth s.time x)
  let s := { s with cmd := { s.cmd with
    sessions := s.cmd.sessions.filter (fun x => x.id != id), chans := s.cmd.chans.filter (fun x => x.session != id) } }
  if live then raise C.AUTH_EXPIRED s else s

/-- The sequence state of a session, empty where none is kept yet. -/
def getChan (src : Src) (session : BitVec 32) (s : State) : Chan :=
  (s.cmd.chans.find? (fun x => x.src == src && x.session == session)).getD ⟨src, session, none, [], []⟩

def putChan (x : Chan) (s : State) : State :=
  { s with cmd := { s.cmd with chans := x :: s.cmd.chans.filter (fun y => !(y.src == x.src && y.session == x.session)) } }

/-- Keep at most 32 completed entries, the newest, and every one in flight; the list is newest first (R476). -/
def pruneCache : Nat → List Kept → List Kept
  | _, [] => []
  | n, k :: t => if k.done then (if n = 0 then pruneCache 0 t else k :: pruneCache (n - 1) t) else k :: pruneCache n t

/-- Is a reply of this status kept for retry (R468)? -/
def keptStatus (st : Nat) : Bool := !(st == stBusy || st == stFull || st == stBadOp || st == stBadLen)

/-- A request joins the refused list of its session, newest first, at most 32 (R476). -/
def refuse (c : Ctx) (op : Nat) (payload : List Byte) (s : State) : State :=
  let x := getChan c.src c.session s
  let e : Refused := ⟨c.seq.toNat, op, payload⟩
  putChan { x with refused := (e :: x.refused.filter (fun y => !(y == e))).take 32 } s

/-- The kept reply of an admitted request is replaced by a later one; a reply that is not kept moves the request to
the refused list (R476). -/
def keepReply (c : Ctx) (status : Nat) (notify : Bool) (payload : List Byte) (s : State) : State :=
  let x := getChan c.src c.session s
  match x.cache.find? (fun k => k.seq == c.seq.toNat) with
  | none => s
  | some k =>
    if keptStatus status then
      putChan { x with cache := pruneCache 32 (x.cache.map (fun e =>
        if e.seq == c.seq.toNat then { e with done := status != stAccepted, reply := some ⟨status, notify, payload⟩ }
        else e)) } s
    else
      refuse c k.op k.payload (putChan { x with cache := x.cache.filter (fun e => !(e.seq == c.seq.toNat)) } s)

/-- Is this the slot of the request? -/
def slotOf (c : Ctx) (x : Slot) : Bool := x.ctx.src == c.src && x.ctx.session == c.session && x.ctx.seq == c.seq

/-- The slot of a request is freed by its final reply (R478). -/
def freeSlot (c : Ctx) (s : State) : State :=
  match s.cmd.slots.find? (slotOf c) with
  | none => s
  | some x => { s with cmd := { s.cmd with
      slots := s.cmd.slots.eraseP (slotOf c), freed := (s.time, s.time - x.since) :: s.cmd.freed } }

/-- A reply that goes to no one: a request of the TWS mailbox is handled all the same, so BUSY clears (R473, R475). -/
def discardReply (c : Ctx) (notify : Bool) (s : State) : State :=
  if c.src = .tws ∧ notify = false then s.setB F.CMD_MBOX_BUSY false else s

/-- Send a reply (`notify` false) or a completion notification (R467, R480): the kept reply and the slot follow; to a
closed session nothing is sent (R475). -/
def respond (c : Ctx) (notify : Bool) (op status : Nat) (payload : List Byte) (s : State) : State :=
  let s := keepReply c status notify payload s
  let s := if status = stAccepted then s else freeSlot c s
  if sessionOpen c s then transmit c notify (packet c (if notify then 3 else 1) op status payload) s
  else discardReply c notify s

def reply (c : Ctx) (op status : Nat) (payload : List Byte) (s : State) : State := respond c false op status payload s
def replyOk (c : Ctx) (op : Nat) (payload : List Byte) (s : State) : State := respond c false op stOk payload s
def replyAccepted (c : Ctx) (op : Nat) (s : State) : State := respond c false op stAccepted [] s
def replyForbids (c : Ctx) (op : Nat) (s : State) : State := respond c false op stForbids [] s

/-- BUSY_RETRY with its hint in ms (R467). -/
def replyBusy (c : Ctx) (op hint : Nat) (s : State) : State := respond c false op stBusy (u16 hint) s

/-- RANGE with the byte offset of the offending parameter (R467). -/
def replyRange (c : Ctx) (op off : Nat) (s : State) : State := respond c false op stRange (u16 off) s

/-- INCONSISTENT with its detail (R467). -/
def replyIncons (c : Ctx) (op detail : Nat) (s : State) : State := respond c false op stIncons (u8 detail) s

/-- A completion notification (R480); none where nobody asked. -/
def notifyOpt (c : Option Ctx) (op status : Nat) (payload : List Byte) (s : State) : State :=
  match c with
  | some c => respond c true op status payload s
  | none => s

/-! ## The opcode table (R491 and the tables it names) -/

/-- States allowed to an opcode. -/
def opStates (op : Nat) : List Nat :=
  let aw := [stCommission, stStandby, stPrecharge, stRun, stSafeStop, stIsolated, stTest]
  match op with
  | 0x0000 => stBoot :: stRecovery :: aw
  | 0x0001 => stBoot :: stRecovery :: aw
  | 0x0002 => stRecovery :: aw
  | 0x0003 => stRecovery :: aw
  | 0x0004 => aw
  | 0x0006 => aw
  | 0x0010 => aw
  | 0x0011 => [stCommission, stStandby, stRun, stIsolated, stTest, stRecovery]
  | 0x0012 => [stStandby, stTest, stCommission, stIsolated]
  | 0x0013 => [stIsolated]
  | 0x0014 => [stCommission]
  | 0x0015 => [stCommission]
  | 0x0100 => stBoot :: stRecovery :: aw
  | 0x0101 => aw
  | 0x0102 => aw
  | 0x0200 => [stCommission, stStandby, stPrecharge, stRun, stIsolated, stTest]
  | 0x0201 => [stCommission, stTest]
  | 0x0202 => [stCommission, stTest]
  | 0x0203 => [stRun]
  | 0x0210 => [stRun]
  | 0x0211 => aw
  | 0x0212 => [stRun]
  | 0x0280 => [stTest]
  | 0x0281 => [stStandby, stTest, stCommission]
  | 0x0300 => [stCommission, stStandby, stPrecharge, stRun, stTest]
  | 0x0301 => [stCommission, stStandby, stTest]
  | 0x0302 => aw
  | 0x0400 => [stStandby, stPrecharge, stRun]
  | 0x0401 => aw
  | 0x0402 => [stTest]
  | 0x0403 => aw
  | 0x0500 => [stRun]
  | 0x0501 => aw
  | 0x0502 => aw
  | 0x0503 => [stStandby, stPrecharge, stRun]
  | 0x0601 => [stCommission, stStandby, stRun, stTest]
  | 0x0602 => [stCommission, stStandby, stRun, stTest]
  | 0x0603 => [stRun]
  | 0x0604 => aw
  | 0x0605 => aw
  | 0x0700 => [stIsolated]
  | 0x0701 => [stTest]
  | 0x0800 => [stTest]
  | 0x0801 => aw
  | 0x0900 => aw
  | 0x0901 => aw
  | 0x0902 => aw
  | 0x0A00 => [stCommission, stStandby, stRun, stTest, stIsolated, stRecovery]
  | 0x0A01 => [stCommission, stStandby, stRun, stTest, stIsolated, stRecovery]
  | 0x0A02 => [stCommission, stStandby, stRun, stTest, stIsolated, stRecovery]
  | 0x0A03 => [stCommission, stStandby, stRun, stTest, stIsolated]
  | 0x0A04 => [stStandby, stTest, stRecovery]
  | 0x0A05 => [stStandby, stRun, stTest]
  | 0x0A06 => stRecovery :: aw
  | 0x0B00 => stRecovery :: aw
  | 0x0B01 => stRecovery :: aw
  | 0x0B02 => stRecovery :: aw
  | 0x0B03 => [stCommission]
  | 0x0B04 => aw
  | 0x0C01 => [stStandby, stTest, stCommission, stIsolated]
  | 0x0C02 => aw
  | 0x0C03 => aw
  | 0x0C04 => aw
  | 0x0C05 => aw
  | 0x0C06 => aw
  | 0x0C07 => aw
  | 0x0C08 => aw
  | _ => []

/-- Opcodes accepted in direct mode (R27 and the chapters it refers to); REG_WRITE and REG_MODIFY are judged word by
word, STATE_REQUEST by its target, and the firmware opcodes only outside direct mode or in RECOVERY. -/
def opDirect (op st : Nat) : Bool :=
  [0x0000, 0x0001, 0x0002, 0x0003, 0x0004, 0x0006, 0x0010, 0x0011, 0x0012, 0x0013, 0x0100, 0x0101, 0x0102, 0x0401,
    0x0501, 0x0502, 0x0604, 0x0605, 0x0801, 0x0900, 0x0901, 0x0A06, 0x0B00, 0x0B01, 0x0B02, 0x0C01, 0x0C02, 0x0C03,
    0x0C04, 0x0C05, 0x0C06, 0x0C07, 0x0C08].contains op ||
  (st == stRecovery && [0x0A00, 0x0A01, 0x0A02, 0x0A04].contains op)

/-- Opcodes that need authorisation (R482). -/
def opAuth (op : Nat) : Bool := [0x0013, 0x0902, 0x0A04, 0x0B04].contains op

/-- The priority opcodes (R479). -/
def opPriority (op : Nat) : Bool :=
  [0x0006, 0x0010, 0x0011, 0x0012, 0x0013, 0x0014, 0x0015].contains op || op / 0x100 == 0x08 || op / 0x100 == 0x0C

/-- The interfaces are powered: not without a feed (R56), nor in SHIP or OASIS (R45). -/
def hostPowered (s : State) : Bool := s.sys.powered && !(s.st == stShip || s.st == stOasis)

/-- The engines and SP run: powered, and not in the pause of a PLN activation (R602). -/
def enginesUp (s : State) : Bool := hostPowered s && !s.flag F.FWU_STATUS_PLN_PAUSE

/-- The clock island of the Ethernet ports is lost (R29). -/
def ethLost (s : State) : Bool := s.sys.clkLost / 2 ^ 7 % 2 == 1

/-- Does this source reach the module: UDP while the CPU port has an address (R502), in RECOVERY over ETH1 alone; CANA
and the relay outside RECOVERY (R43, R29, R605)? -/
def srcOpen (c : Ctx) (s : State) : Bool :=
  match c.src with
  | .udp _ _ => !ethLost s && (if s.st = stRecovery then c.port == .eth1 else s.get F.ETH_IP_ACT_VALUE != 0)
  | .cana => s.st != stRecovery
  | .tws => true
  | .relay _ => s.st != stRecovery

/-- Are RCP requests of this source answered: in BOOT from step 5 on (R45, R52)? -/
def rcpOpen (c : Ctx) (s : State) : Bool := hostPowered s && (s.st != stBoot || s.sys.supRuns) && srcOpen c s

/-- Steps 3 to 5 of R477, and the pause of a PLN activation (R602): the status of a request that may not run now, with the payload of its reply. -/
def guardFail (c : Ctx) (op : Nat) (s : State) : Option (Nat × List Byte) :=
  if s.st = stBoot && !(op == 0x0100 || op == 0x0000 || op == 0x0001) then some (stBusy, u16 100)
  else if !(opStates op).contains s.st then some (stForbids, [])
  else if s.direct && !opDirect op s.st then some (stForbids, [])
  else if s.flag F.FWU_STATUS_PLN_PAUSE && ((2 ≤ op / 0x100 && op / 0x100 ≤ 8) || op / 0x100 == 0x0C) then
    some (stBusy, u16 100)
  else if opAuth op && !authorised c s then some (stAuth, [])
  else none

/-- A packet that an open transport brings ends the quiet time of RECOVERY (R607). -/
def noteHeard (s : State) : State := { s with fwu := { s.fwu with exitAt := none } }

/-- An admitted command restarts the 10 min of TEST too; a packet refused before admission does not (R46). -/
def noteAdmit (s : State) : State :=
  { s with
    sys := { s.sys with lastAdmit := s.time }
    fwu := { s.fwu with exitAt := none } }

/-- A packet that names a session which is closed, unknown or bound to another source (R474). -/
def refuseSession (c : Ctx) (op : Nat) (s : State) : State := transmit c false (packet c 1 op stIncons (u8 0xF0)) s

/-- Run a command (R474, R477 steps 3 to 5, R479, R493): its effect, or the reply that refuses it; nothing while no
transport answers (R45). -/
def withCmd (c : Ctx) (op : Nat) (f : State → State) (s : State) : State :=
  if !rcpOpen c s then s
  else if !sessionOpen c s then refuseSession c op (noteHeard s)
  else match guardFail c op s with
    | some (st, pl) => reply c op st pl (noteHeard s)
    | none => f (noteAdmit s)

end Sys2Proof.Machine
end

