-- ==== Sys2Proof/Machine/Views.lean ====
section
/-!
DEFINITION. Quantities several chapters read: the positions of the string, their readings and their capacities, and
the string voltage.
-/

namespace Sys2Proof.Machine

/-- Configured boards, BOARDS as the last enumeration took it (R135), and the number of configured positions P: the
sum of their COUNT fields. -/
def boards (s : State) : Nat := s.ring.boards

/-- The board numbers 1 to BOARDS. -/
def boardNums (s : State) : List Nat := (List.range (boards s)).map (· + 1)

def posCount (s : State) : Nat := (List.range (boards s)).foldl (fun n k => n + s.get (F.CVL_BRD_CFG_COUNT k)) 0

def positions (s : State) : List Nat := List.range (posCount s)

/-- First position and number of channels of board `k` (R105, R142). -/
def brdBase (s : State) (k : Nat) : Nat := s.get (F.CVL_BRD_CFG_BASE (k - 1))
def brdCount (s : State) (k : Nat) : Nat := s.get (F.CVL_BRD_CFG_COUNT (k - 1))

/-- The positions a board serves, and the board and channel that serve a position (R105). -/
def brdPositions (s : State) (k : Nat) : List Nat := (List.range (brdCount s k)).map (· + brdBase s k)

def posBoard (s : State) (n : Nat) : Option (Nat × Nat) :=
  match (boardNums s).find? (fun k => decide (brdBase s k ≤ n ∧ n < brdBase s k + brdCount s k)) with
  | some k => some (k, n - brdBase s k)
  | none => none

def getCell (s : State) (n : Nat) : Cell := tabGet s.acq.cells n {}

def setCell (n : Nat) (c : Cell) (s : State) : State := { s with acq := { s.acq with cells := tabSet s.acq.cells n c } }

def getEst (s : State) (n : Nat) : EstPos := tabGet s.est.rows n {}

def setEst (n : Nat) (e : EstPos) (s : State) : State := { s with est := { s.est with rows := tabSet s.est.rows n e } }

/-- SOC_int in 0.01 %, CAP in 0.001 Ah and CAP_UNC in 0.01 % of a position (R251). -/
def EstPos.socInt (e : EstPos) : Nat := (roundQ (e.soc * 100)).toNat
def EstPos.cap (e : EstPos) : Nat := (roundQ (e.capQ * 1000)).toNat
def EstPos.capUnc (e : EstPos) : Nat := (roundQ (e.capSig * 100)).toNat

/-- The capacity that C-rates refer to (R5), 0.001 Ah: learned, else rated. -/
def capMah (s : State) (n : Nat) : Nat :=
  let e := getEst s n
  if e.capKnown then e.cap else s.get F.EST_RATED_CAP_RATED

/-- The same in Ah, exact: the C of a C-rate (R5). -/
def cRate (s : State) (e : EstPos) : Rat :=
  if e.capKnown then e.capQ else ((s.get F.EST_RATED_CAP_RATED : Nat) : Rat) / 1000

/-- The smallest capacity C_min of the configured positions, in Ah (R187). -/
def cMin (s : State) : Rat :=
  match positions s with
  | [] => 0
  | p :: t => ((t.foldl (fun m n => min m (capMah s n)) (capMah s p) : Nat) : Rat) / 1000

/-- The ring runs Caravan-2, and every configured board is of class 0x3 (R263). -/
def fcvBoards (s : State) : Bool :=
  s.get F.CVL_STATUS_GEN == 2 && (boardNums s).all (fun k => (tabGet s.ring.brds k {}).cls == 3)

/-- The string voltage in V for conversions between power and current: V_str, or MEAS_VSUM while VSD_OK is 0 (R317). -/
def vConv (s : State) : Rat :=
  if s.flag F.CTL_FB_VSD_OK then s.ctl.fb.vStr else (signed 32 (s.get F.MEAS_VSUM_VALUE) : Rat) / 1000

/-- The calibration of input `k` (R645): (raw − OFFSET) × GAIN / 2²⁴; without CAL_OK the raw value (R646). -/
def calibrated (s : State) (k : Nat) (raw : Rat) : Rat :=
  if s.flag F.ID_STATUS_CAL_OK then
    (raw - (s.getI (F.CAL_OFFSET_OFFSET k) : Rat)) * ((s.get (F.CAL_GAIN_GAIN k) : Nat) : Rat) / 16777216
  else raw

/-- The same of a reading that is a whole number in its unit, not below 0. -/
def calNat (s : State) (k raw : Nat) : Nat := (roundQ (calibrated s k (raw : Rat))).toNat

/-- Number of the estimation tick whose SCAN window holds the frame that starts at `t` (R149). -/
def windowOf (t : Nat) : Nat := (t + 62500) / 2500000 + 1

end Sys2Proof.Machine
end

