-- ==== Sys2Proof/Machine/Link.lean ====
section
/-!
DEFINITION. The Caravan link below the frames' readings (chapter 4): boards, the queue of board commands, their packets
and response slots, the symbols of a Caravan-2 frame, and what CS knows of the boards' channels from its own commands
(R155).
-/

namespace Sys2Proof.Machine

/-! ## Boards -/

def getBrd (s : State) (k : Nat) : Brd := tabGet s.ring.brds k {}

def setBrd (k : Nat) (b : Brd) (s : State) : State := { s with ring := { s.ring with brds := tabSet s.ring.brds k b } }

def present (s : State) (k : Nat) : Bool := s.flag (F.CVL_BRD_STATE_PRESENT (k - 1))
def missing (s : State) (k : Nat) : Bool := s.flag (F.CVL_BRD_STATE_MISSING (k - 1))

/-- A Caravan-1 ring. -/
def isC1 (s : State) : Bool := s.get F.CVL_STATUS_GEN == 1

/-- Frames or scans run: enumerated, not off, not enumerating (R126, R137). -/
def ringRuns (s : State) : Bool :=
  s.get F.CVL_STATUS_GEN != 0 && s.get F.CVL_STATUS_MODE != 0 && !s.flag F.CVL_STATUS_ENUM_BUSY && enginesUp s

/-- The class a board was expected to be of when the ring was enumerated (R135). -/
def brdClass (s : State) (k : Nat) : Nat := (getBrd s k).cls

/-- The hardware keep-alive scan runs (R125). -/
def keepAlive (s : State) : Bool := s.get F.CVL_STATUS_MODE == 3

/-- From one frame or scan to the next, in TIME counts (R101). -/
def framePeriod (s : State) : Nat := if isC1 s then 2500000 else 15625

/-- From T0 of a frame or scan to its sample instant (R108, R117). -/
def sampleDelay (s : State) : Nat := if isC1 s then 25000 else 1500

/-- The island of port A (bit 5) or B (bit 6) has lost its recovered clock (R29, R42). -/
def portLost (s : State) (port : Nat) : Bool := s.sys.clkLost / 2 ^ (5 + port) % 2 == 1

/-- The DSP island has lost its clock: the measurement tables stop (R29). -/
def dspLost (s : State) : Bool := s.sys.clkLost / 4 % 2 == 1

/-- A port is linked or not: CVL_STATUS and the running bit of its clock island (R42, R137). -/
def portLink (port : Nat) (up : Bool) (s : State) : State :=
  let up := up && !portLost s port
  let s := s.setB (if port = 0 then F.CVL_STATUS_LINK_A else F.CVL_STATUS_LINK_B) up
  let b := 2 ^ (5 + port)
  let r := s.get F.SYS_CLK_STATUS_RUNNING &&& (0xFFF ^^^ b)
  s.set F.SYS_CLK_STATUS_RUNNING (if up then r ||| b else r)

/-! ## Commands (R114 to R116) -/

/-- A command joins the queue. -/
def queueCmd (x : BoardCmd) (s : State) : State := { s with ring := { s.ring with cmds := s.ring.cmds ++ [x] } }

/-- CS sends a command to a board, or to all boards, in the next frame or scan that has room for it. -/
def boardSend (k code : Nat) (payload : List Byte) (s : State) : State :=
  queueCmd { board := k, code := code, payload := payload } s

def boardCast (code : Nat) (payload : List Byte) (s : State) : State :=
  queueCmd { board := 0x3F, bcast := true, code := code, payload := payload } s

/-- BAL_STOP goes before all that waits, and takes the place of what would switch channels (R264, R284). -/
def balStopSend (k : Option Nat) (s : State) : State :=
  let other (x : BoardCmd) : Bool := !((x.code == 0x18 || x.code == 0x19) && (k.isNone || k == some x.board))
  let x : BoardCmd := { board := k.getD 0x3F, bcast := k.isNone, code := 0x1C, payload := [] }
  { s with ring := { s.ring with cmds := x :: s.ring.cmds.filter other, late := s.ring.late.filter other } }

/-- No board answers a broadcast, nor BAL_STOP; BYPASS_REPORT is answered in its standing slots (R114, R157, R284). -/
def unanswered (x : BoardCmd) : Bool := x.bcast || x.code == 0x1C || x.code == 0x12

def isCmd (k code : Nat) (x : BoardCmd) : Bool := x.board == k && x.code == code && !unanswered x

/-- The oldest outstanding command of a board and code. -/
def findCmd (k code : Nat) (s : State) : Option BoardCmd := s.ring.cmds.find? (isCmd k code)

def dropCmd (k code : Nat) (s : State) : State :=
  { s with ring := { s.ring with cmds := s.ring.cmds.eraseP (isCmd k code) } }

/-- One more frame or scan without a response. -/
def ageCmds (s : State) : State :=
  { s with ring := { s.ring with cmds := s.ring.cmds.map (fun x => if x.sent then { x with age := x.age + 1 } else x) } }

/-- A command is to be sent again (R115). -/
def BoardCmd.again (x : BoardCmd) : BoardCmd := { x with sent := false, tries := x.tries + 1, age := 0 }

/-- Payload bytes of the response to a command (R116, R175, R284). -/
def rspBytes (code : Nat) : Nat :=
  match code with
  | 0x01 => 4
  | 0x12 => 32
  | 0x1B => 20
  | _ => 0

/-- Length of a response slot in 4-byte units: ADDR, CODE, RESULT, LEN, payload and CRC-16 (R115). -/
def rspUnits (code : Nat) : Nat := (9 + rspBytes code) / 4

/-- A command packet (R114). -/
def boardPacket (k code off len : Nat) (payload : List Byte) : List Byte :=
  let b := u8 k ++ u8 code ++ u8 payload.length ++ u8 off ++ u8 len ++ payload
  b ++ u16 (crc16 b)

/-- ADDRESS to a board (0x3F the token of R119) with the number to take; outside frames its response follows at once. -/
def addressPacket (k n : Nat) : List Byte := boardPacket k 0x04 0 5 (u8 n)

/-- The standing slot of a CM-16B board's BYPASS_REPORT: 40 bytes, three such slots in a frame (R157; where they stand is
the model's choice, log entry 147). -/
def standSlot (k : Nat) : Nat × Nat := ((k - 1) / 16 * 10, 10)

/-- The packet of a queued command in its response slot; a number that no board can have is never sent (R128). -/
def cmdPacket (x : BoardCmd) : List Byte :=
  if x.code = 0x12 then boardPacket x.board x.code (standSlot x.board).1 (standSlot x.board).2 x.payload
  else if unanswered x then boardPacket x.board x.code 0xFF 0 x.payload
  else if 1 ≤ x.board ∧ x.board ≤ 36 then boardPacket x.board x.code x.off (rspUnits x.code) x.payload
  else []

/-- The first response slot of `n` units that overlaps none of `used` and ends within the 516 bytes (R114). -/
def slotAlloc (used : List (Nat × Nat)) (n : Nat) : Option Nat :=
  (List.range 129).find? (fun o =>
    decide (30 ≤ o ∧ o + n ≤ 129) && used.all (fun u => decide (o + n ≤ u.1 ∨ u.1 + u.2 ≤ o)))

/-- Response slots of the outstanding commands. -/
def usedSlots (l : List BoardCmd) : List (Nat × Nat) :=
  (l.filter (fun x => x.sent && !unanswered x)).map (fun x => (x.off, rspUnits x.code))

/-- What a frame takes from the queue: the queue it leaves, the commands placed with the number of command bytes up to
each one's end, and the bytes. -/
structure Placed where
  left : List BoardCmd := []
  taken : List (BoardCmd × Nat) := []
  bytes : List Byte := []
  deriving DecidableEq, Repr

/-- Commands are placed in their order while there is room (R114); a command that waits for a response stays queued. -/
def placeCmds (room : Nat) : List BoardCmd → List (Nat × Nat) → List Byte → Placed
  | [], _, b => { bytes := b }
  | x :: t, used, b =>
    if x.sent then
      let r := placeCmds room t used b
      { r with left := x :: r.left }
    else
      match (if unanswered x then some x.off else slotAlloc used (rspUnits x.code)) with
      | none => { left := x :: t, bytes := b }
      | some o =>
        let y := { x with sent := true, off := o, age := 0 }
        let b2 := b ++ cmdPacket y
        if room < b2.length then { left := x :: t, bytes := b }
        else
          let r := placeCmds room t (if unanswered x then used else (o, rspUnits x.code) :: used) b2
          { left := if unanswered x then r.left else y :: r.left, taken := (y, b2.length) :: r.taken, bytes := r.bytes }

/-- Bytes for commands in a frame (R102), and in a scan's 0.9 ms at 2 Mbit/s (R117). -/
def cmdRoom (s : State) : Nat := if isC1 s then 225 else 388

/-! ## The Caravan-2 frame (R102 to R104) -/

/-- A section filled up with IDLE. -/
def fillIdle (n : Nat) (l : List Sym) : List Sym := l ++ List.replicate (n - l.length) .idle

/-- The response section: allocated slots EMPTY, IDLE elsewhere (DESIGN CHOICE, log entry 147). -/
def rspSyms (slots : List (Nat × Nat)) : List Sym :=
  (List.range 516).map (fun i =>
    if slots.any (fun u => decide (4 * u.1 ≤ i ∧ i < 4 * (u.1 + u.2))) then .empty else .idle)

/-- The symbols of a frame: SYNC, command, data, response and END sections, guard. -/
def frameSyms (sync cmds : List Byte) (slots : List (Nat × Nat)) (no : Nat) : List Sym :=
  ([.comma, .k27_7] ++ sync.map .data) ++ fillIdle 390 ([.comma, .k28_0] ++ cmds.map .data) ++
    ([.comma, .k28_1] ++ List.replicate 1944 .empty) ++ ([.comma, .k28_2] ++ rspSyms slots) ++
    ([.comma, .k29_7] ++ (u8 no ++ List.replicate 5 0).map .data) ++ List.replicate 253 .idle

/-! ## What CS knows of the boards' channels (R155) -/

def brdChan (s : State) (k : Nat) : BrdChan := tabGet s.ring.chans k {}
def setBrdChan (k : Nat) (c : BrdChan) (s : State) : State :=
  { s with ring := { s.ring with chans := tabSet s.ring.chans k c } }

/-- A board takes a command at the sample instant `tS` (R268, R276, R284). -/
def chanAct (tS k : Nat) (x : BoardCmd) (s : State) : State :=
  let c := brdChan s k
  match x.code with
  | 0x18 => setBrdChan k { c with
      mask := numAt x.payload 0 2, holdEnd := tS + numAt x.payload 4 1 * sec
      old := some (c.old.getD (c.mask, c.holdEnd)) } s
  | 0x19 => setBrdChan k { c with cv := numAt x.payload 4 2 } s
  | 0x1C => setBrdChan k {} s
  | _ => s

/-- A board's answer to BAL_SET: refused, it keeps its previous mask (R284). -/
def chanAnswer (k : Nat) (ok : Bool) (s : State) : State :=
  let c := brdChan s k
  match c.old with
  | some (m, e) => setBrdChan k (if ok then { c with old := none } else { c with mask := m, holdEnd := e, old := none }) s
  | none => s

/-- The boards a command is for. -/
def cmdBoards (s : State) (x : BoardCmd) : List Nat := if x.bcast then boardNums s else [x.board]

/-- Has the command, ending after `b` command bytes, reached board `k` by the sample instant of its frame (R108, R121;
DEDUCED, log entry 148)? Delays in 0.25 ns; a scan's commands follow its sample instant. -/
def inTime (s : State) (k b : Nat) : Bool :=
  let d := s.get (if s.flag (F.CVL_BRD_STATE_SPLIT_B (k - 1)) then F.CVL_BRD_DELAY_DELAY_B (k - 1)
    else F.CVL_BRD_DELAY_DELAY_A (k - 1))
  !isC1 s && decide (80 * (12 + b) + d ≤ 24000)

/-- A placed command takes effect at this frame's sample instant or at the next. -/
def takeCmd (tS : Nat) (s : State) (e : BoardCmd × Nat) : State :=
  (cmdBoards s e.1).foldl (fun s k =>
    if inTime s k e.2 then chanAct tS k e.1 s
    else { s with ring := { s.ring with late := s.ring.late ++ [{ e.1 with board := k, bcast := false }] } }) s

/-- The commands of the frame before that had not reached their boards in time. -/
def takeLate (tS : Nat) (s : State) : State :=
  let l := s.ring.late
  l.foldl (fun s x => chanAct tS x.board x s) { s with ring := { s.ring with late := [] } }

/-- Does the frame or scan that starts at `t` lie inside a stillness window (R152, R153)? -/
def inStill (s : State) (t : Nat) : Bool :=
  if isC1 s then s.ring.still == some t
  else match s.ring.still with
    | some n0 => decide (n0 ≤ t ∧ t < n0 + 32 * 15625)
    | none => false

/-- Balancing of a board is paused by an open-wire test: 24 ms, or three phases of 3 scans (R165). -/
def owPause (s : State) : Nat := if isC1 s then 9 * 2500000 else 24 * ms

def owActive (s : State) (k t : Nat) : Bool :=
  s.acq.tests.any (fun x => x.board == k &&
    (match x.start with | some t0 => decide (t0 ≤ t ∧ t < t0 + owPause s) | none => false))

/-- Frames or scans of a half cycle, and cycles, of a learning step (R159). -/
def learnHalf (s : State) : Nat := if isC1 s then 10 else 16
def learnCycles (s : State) : Nat := if isC1 s then 4 else 32

/-- Frames or scans that one channel's learning step lasts. -/
def learnLen (s : State) : Nat := 2 * learnHalf s * learnCycles s

/-- The frame of the learning schedule that starts at `t`: its channel and its number within the step. -/
def learnFrame (s : State) (t : Nat) : Option (Nat × Nat) :=
  match s.acq.learn with
  | some (.wire _ w) =>
    match w.start with
    | some t0 =>
      let m := (t - t0) / framePeriod s
      if t0 ≤ t ∧ m < 16 * learnLen s then some (m / learnLen s, m % learnLen s) else none
    | none => none
  | _ => none

/-- Is a channel switched on in this frame of its learning step (R159)? -/
def learnOn (s : State) (m : Nat) : Bool := m / learnHalf s % 2 == 0

/-- The channel that wire-resistance learning has on (R159). -/
def learnMask (s : State) (t : Nat) : Nat :=
  match learnFrame s t with
  | some (j, m) => if learnOn s m then 2 ^ j else 0
  | none => 0

/-- The channels of a board that are on at the sample instant of the frame or scan that starts at `t` (R155). -/
def onAt (s : State) (t k : Nat) : Nat :=
  let c := brdChan s k
  if keepAlive s || inStill s t || owActive s k t then 0
  else
    let m := if t + sampleDelay s < c.holdEnd then c.mask else 0
    (m ||| c.cv ||| learnMask s t) &&& (2 ^ min 16 (brdCount s k) - 1)

end Sys2Proof.Machine
end

