-- ==== Sys2Proof/Machine/DispOps.lean ====
section
/-!
DEFINITION. The parts of dispatch that the loop and the state machine act on: the end of a recipe with its grades, the
clearing of setpoints (chapter 10), and the end of a STEP pulse.
-/

namespace Sys2Proof.Machine

/-! ## Grading (R353) -/

/-- The impedance row and tone that grade a position: from the latest published result whose T_START lies after the
recipe start. -/
def gradeTone (s : State) (n start : Nat) : Option (ZRow × Tone) :=
  match s.eis.result with
  | some (_, r) =>
    if start < r.tStart then
      match r.rows.lookup n with
      | some row =>
        match row.tones[s.get F.DISP_GRADE_CFG_TONE]? with
        | some t => if t.flags / 4 % 2 = 1 then none else some (row, t)
        | none => none
      | none => none
    else none
  | none => none

/-- The 24-byte grade record of a position (R353). A position whose charge no estimation tick of the span counted has
NO_MARKS (DESIGN CHOICE, log entry 160). -/
def gradeRecord (s : State) (start n : Nat) : List Byte :=
  let e := getEst s n
  let mark := s.disp.qGrade.lookup n
  let q : Int := roundQ (mark.getD 0)
  let z := gradeTone s n start
  let zmax := s.get F.DISP_GRADE_ZMAX_VALUE
  let re : Int := match z with | some (_, t) => t.re | none => 0x7FFFFFFF
  let coh : Nat := match z with | some (_, t) => t.coh | none => 0
  let low : Bool := match z with | some (_, t) => t.flags % 2 == 1 | none => false
  let zHigh := z.isSome && zmax != 0 && decide ((zmax : Int) < re)
  let fault := (getCell s n).flags / 8 % 2 == 1
  let basis1 := s.flag F.DISP_GRADE_CFG_BASIS
  let basis : Nat := if basis1 then e.cap else q.natAbs
  let t0 := s.get (F.DISP_GRADE_T_VALUE 0)
  let t1 := s.get (F.DISP_GRADE_T_VALUE 1)
  let t2 := s.get (F.DISP_GRADE_T_VALUE 2)
  let cls := b2n (decide (t0 ≤ basis)) + b2n (decide (t1 ≤ basis)) + b2n (decide (t2 ≤ basis))
  let noMarks := mark.isNone
  let bad := zHigh || fault || (noMarks && !basis1)
  let flags := bitsOf [noMarks, e.capN == 0, z.isNone, zHigh, fault, low]
  u16 n ++ u8 (if bad then 0xFF else cls) ++ u8 flags ++ s32 q ++ u32 e.cap ++ u16 e.capUnc ++ u8 coh ++ u8 0 ++
    s32 re ++ s32 (match s.eis.steps.lookup n with | some x => x.rOhm | none => 0)

/-- Publication of the grades (R353). -/
def publishGrades (start : Nat) (s : State) : State :=
  let g := (positions s).map (gradeRecord s start)
  raise C.GRADE_READY { s with disp := { s.disp with grades := some g } }

/-! ## STEP pulses (R205) -/

/-- A STEP pulse ends; its request is told (R205, R216). -/
def pulseStop (s : State) : State :=
  match s.eis.pulse with
  | none => s
  | some p =>
    let s := ({ s with eis := { s.eis with pulse := none } }).set F.EIS_STATUS_MODE 0
    notifyOpt p.ctx 0x0212 stOk (u32 (s.get F.EIS_STEP_SEQ_VALUE)) s

/-- A dispatch change during a STEP pulse ends it at once; the edge still pending is not evaluated (R205). -/
def pulseCut (s : State) : State :=
  match s.eis.pulse with
  | some p => if s.time < p.endAt then pulseStop { s with eis := { s.eis with cutAt := some s.time } } else s
  | none => s

/-! ## Ends -/

/-- Host writes of BAL_CFG.POLICY and BAL_FCV.V_CV are free again, and the policy taken by the recipe is restored
(R265). -/
def releasePolicy (r : Run) (s : State) : State :=
  match r.saved with
  | some p => (s.set F.BAL_CFG_POLICY p).setB F.BAL_STATUS_OWNED false
  | none => s

def getRecipe (s : State) (r : Nat) : Recipe := tabGet s.disp.recipes r {}

/-- A step record, or zeros where none was written. -/
def stepRec (x : Recipe) (n : Nat) : List Byte := tabGet x.steps n (List.replicate 48 (0 : Byte))

def stType (b : List Byte) : Nat := numAt b 0 1
def stFlags (b : List Byte) : Nat := numAt b 1 1
def stTmaxAct (b : List Byte) : Nat := numAt b 2 1
def stP (b : List Byte) (k : Nat) : Int := signed 32 (numAt b (4 * k) 4)
def stTmax (b : List Byte) : Nat := numAt b 16 4

/-- String charge since the step's start, 0.001 Ah (R349, R350). -/
def stepCharge (s : State) (r : Run) : Int := roundQ ((s.ctl.coulomb - r.q0) / 3600 * 1000)

def stepMs (s : State) (r : Run) : Nat := (s.time - r.stepAt) / ms

/-- A step ends: its record, its grading mark, and the balancing policy it owned (R265, R347, R353). A step that an abort of
codes 3 to 6 cuts short writes its record and completes no grading span (DESIGN CHOICE, log entry 160). -/
def stepEnd (whole : Bool) (r : Run) (s : State) : Run × State :=
  if r.active then
    let b := stepRec (getRecipe s r.recipe) r.step
    let s := if stFlags b / 4 % 2 = 1 then
        addRec sevInfo 0x09 0x0010 (u8 r.recipe ++ u8 r.step ++ u32 (stepMs s r) ++ s32 (stepCharge s r)) s
      else s
    let s := releasePolicy r s
    let mark := stFlags b / 2 % 2 == 1
    ({ r with saved := none, active := false, toggleAt := none, eisOn := false,
              graded := r.graded || (mark && r.grading && whole), grading := r.grading && !mark }, s)
  else (r, s)

/-- A running recipe ends with a LAST_END code (R352), and with its request any STEP pulse (R205). -/
def recipeEnd (code : Nat) (s : State) : State :=
  match s.disp.run with
  | none => s
  | some r =>
    let s := if r.req = 0 then s else pulseCut s
    let x := stepEnd (decide (code ≤ 2)) r s
    let r := x.1
    let s := { x.2 with disp := { x.2.disp with run := none, req := 0 } }
    let s := (s.set F.DISP_RCP_STATUS_LAST_END code).setB F.DISP_RCP_STATUS_RUNNING false
    let s := (s.set F.DISP_REQ_VALUE 0).set F.DISP_TARGET_VALUE 0
    let s := if code = 1 then raise C.RECIPE_DONE s
      else causeRec C.RECIPE_ABORT sevWarning (u8 code ++ u8 r.step) s
    let s := if r.graded then publishGrades r.startAt s else s
    notifyOpt r.ctx 0x0603 stOk (u8 code ++ u8 r.step) s

/-- The loop opens or the state leaves RUN: setpoints are cleared, the request is 0, and the sequence bases are
dropped (R339, R342). -/
def dispatchOff (s : State) : State :=
  let s := { s with disp := { s.disp with
    active := none, waiting := none, incoming := none, baseEth := none, baseCan := none, req := 0, lossRamp := false,
    lossReq := 0 } }
  (((((s.setB F.DISP_STATUS_VALID false).setB F.DISP_STATUS_PENDING false).setB F.DISP_STATUS_RAMPING false).set
    F.DISP_REQ_VALUE 0).set F.DISP_TARGET_VALUE 0)

end Sys2Proof.Machine
end

