-- ==== Sys2Proof/Machine/TimeOps.lean ====
section
/-!
DEFINITION. The shared operations of network time (chapter 15): the map, VALID, and what becomes of the servo and the PTP
ports where the messages stop or start.
-/

namespace Sys2Proof.Machine

/-- The map is replaced as a whole (R505): network time `n` at this instant, rate ρ. -/
def mapReplace (n : Nat) (rho : Rat) (s : State) : State :=
  let s := (s.set64 F.PTP_MAP_RBASE_LO_VALUE F.PTP_MAP_RBASE_HI_VALUE s.time).set64 F.PTP_MAP_NBASE_LO_VALUE
    F.PTP_MAP_NBASE_HI_VALUE n
  let r := roundQ (rho * 2 ^ 40)
  let s := (s.setI F.PTP_MAP_RATE_VALUE r).setI F.PTP_RATE_VALUE r
  { s.bump F.PTP_MAP_SEQ_VALUE 1 with net := { s.net with rho := rho } }

/-- VALID as R517 states it; each change raises TIME_VALID. -/
def updateValid (s : State) : State :=
  let src := s.get F.PTP_STATUS_SOURCE
  let fresh := match s.net.lastLocked with
    | some t => decide (s.time < t + s.get F.PTP_HOLDMAX_HOLD_MAX * sec)
    | none => false
  let v := (src == 1 && (s.get F.PTP_STATUS_STATE == 3 || fresh)) || src == 2
  if v == s.flag F.PTP_STATUS_VALID then s else raise C.TIME_VALID (s.setB F.PTP_STATUS_VALID v)

/-- A LOCKED servo enters HOLDOVER, holding the mean of its last LOCKED rates (R515); other states stay. -/
def enterHoldover (s : State) : State :=
  if s.get F.PTP_STATUS_STATE = 3 then
    let l := s.net.rates
    let rho := if l.isEmpty then s.net.rho else l.sum / (l.length : Rat)
    let s := mapReplace (networkNs s s.time) rho s
    let s := { s with net := { s.net with holdSince := s.time, lockRun := 0, unlockRun := 0, stepRun := 0 } }
    updateValid (raise C.HOLDOVER (s.set F.PTP_STATUS_STATE 4))
  else s

/-- The messages of PTP stop (R512). -/
def ptpStop (s : State) : State := enterHoldover s

/-- portState of IEEE 1588-2019: LISTENING, and SLAVE (PRESUMED, log entry 168). -/
abbrev ptpListening : Nat := 4
abbrev ptpSlave : Nat := 9

/-- The PTP ports start afresh: a port that is no PTP port reads 0, and the clock class follows the role (R510, R512, R513,
R526, R527). -/
def ptpPorts (s : State) : State :=
  let on := s.get F.PTP_CFG_PROFILE != 0 && s.st != stRecovery
  let port (en : Fld) : Nat := if on && s.flag en then ptpListening else 0
  let role := s.get F.PTP_CFG_ROLE
  ((s.set F.PTP_STATUS_PORT1_STATE (port F.PTP_CFG_PORT1_EN)).set F.PTP_STATUS_PORT2_STATE
    (port F.PTP_CFG_PORT2_EN)).set F.PTP_DS_CLOCK_CLASS (if role = 1 ∨ role = 2 then 248 else 255)

end Sys2Proof.Machine
end

