-- ==== Sys2Proof/Machine/SafeOps.lean ====
section
/-!
DEFINITION. The shared safety and state operations: opening the loop, the contactors, Safe Energy Isolation, Safe
Current Stop, contactor holds, state changes and the entry to direct mode (chapters 2, 9 and 12).
-/

namespace Sys2Proof.Machine

/-! ## Opening the loop -/

/-- The lanes' microcode runs, or stops (R52, R214, R602). -/
def lanesReady (b : Bool) (s : State) : State :=
  (List.range 8).foldl (fun s n => s.setB (F.DSP_LANE_STATUS_READY n) b) s

/-- The lanes demodulate while a measurement runs (R214). -/
def eisLanes (b : Bool) (s : State) : State :=
  (List.range 8).foldl (fun s n => s.setB (F.DSP_LANE_STATUS_EIS n) (b && s.flag (F.DSP_LANE_STATUS_READY n))) s

/-- A measurement is abandoned with a LAST_END code (R194); a sweep that runs is incomplete (R25, R65, R213). -/
def eisAbandon (code : Nat) (s : State) : State :=
  match s.eis.meas with
  | none => s
  | some m =>
    let running := m.phase == .settling || m.phase == .sweeping
    let s := eisLanes false { s with eis := { s.eis with meas := none } }
    let s := if running then s.bump F.EIS_INC_CNT_VALUE 1 else s
    let s := (((s.set F.EIS_STATUS_LAST_END code).set F.EIS_STATUS_STATE 0).set F.EIS_STATUS_MODE 0).set
      F.EIS_STATUS_SWEEPS_DONE 0
    let s := addRec sevNotice 0x05 0x0010 (u8 code) (raise C.SWEEP_INCOMPLETE s)
    notifyOpt m.ctx 0x0210 stOk (u32 (s.get F.EIS_RESULT_SEQ_VALUE) ++ u8 code) s

/-- Severity of an opening's record (R306). -/
def openSev (code : Nat) : Nat := if code < 0x0B then sevWarning else sevNotice

/-- A close that is pending is abandoned with STATE_FORBIDS (R310). -/
def abandonClose (s : State) : State :=
  if s.flag F.CTL_STATUS_CLOSE_PENDING then
    let cs := s.ctl.closeCtx
    let s := { s with ctl := { s.ctl with closeCtx := [] } }.setB F.CTL_STATUS_CLOSE_PENDING false
    cs.foldl (fun s c => replyForbids c 0x0500 s) s
  else s

/-- The loaded duties read 0 and no phase is active while the converter coasts (R297, R331). -/
def dutiesOff (s : State) : State :=
  (List.range 6).foldl (fun s x => (s.set (F.PWM_PH_DUTY x) 0).setB (F.PWM_PH_ACTIVE x) false) s

/-- What CTL and PWM show of an opening (R306, R307, R331). -/
def loopShow (code : Nat) (s : State) : State :=
  dutiesOff ((((s.setB F.CTL_STATUS_CLOSED false).setB F.CTL_STATUS_COASTING true).setB F.CTL_STATUS_SLEWING
    false).set F.CTL_STATUS_OPEN_CAUSE code)

/-- The sections start from nothing at the next closing (R308). -/
def loopClear (s : State) : State :=
  { s with ctl := { s.ctl with
    cur := {}, outer := {}, share := [], mem := [], mode := .dispatch, duties := none, loaded := [], edges := [], mirN := 0,
    iref := 0, outerPend := none, outerReq := 0 } }

/-- What ends with the loop: a measurement, a pulse, the recipe and the setpoints (R194, R205, R339, R352). -/
def loopEnds (s : State) : State :=
  let s := pulseStop (eisAbandon 0x5 s)
  dispatchOff (recipeEnd 5 { s with eis := { s.eis with closedAt := none } })

/-- The loop opens with a code and a record (R306, R307); an open loop stays as it is. -/
def loopOpen (code : Nat) (s : State) : State :=
  if s.flag F.CTL_STATUS_CLOSED then
    loopEnds (causeRec C.LOOP_OPEN (openSev code) (u8 code) (loopClear (loopShow code s)))
  else s

/-! ## Contactors -/

/-- Bit `k` of contactor `c` in KON_STATUS (R430). -/
def kon (c k : Nat) : Fld := ⟨0x31004, 8 * c + k, 1⟩
def konCmd (c : Nat) : Fld := kon c 0
def konHs (c : Nat) : Fld := kon c 1
def konLs (c : Nat) : Fld := kon c 2
def konFb (c : Nat) : Fld := kon c 3
def konWeld (c : Nat) : Fld := kon c 4
def konTpfHs (c : Nat) : Fld := kon c 5
def konTpfLs (c : Nat) : Fld := kon c 6
def konFail (c : Nat) : Fld := kon c 7

/-- A coil is energised while both of its switches are on (R411). -/
def energised (s : State) (c : Nat) : Bool := s.flag (konHs c) && s.flag (konLs c)

/-- The coil holds its contactor: both switches on, a switch off only for its test pulse counting as on (R414). -/
def holds (s : State) (c : Nat) : Bool :=
  (s.flag (konHs c) || s.safe.pulse.any (fun p => p.c == c && p.high)) &&
    (s.flag (konLs c) || s.safe.pulse.any (fun p => p.c == c && !p.high))

/-- |I| of a controlled stop (R48): the 1 ms mean of I_str, or of I_AUX while the primary feedback is lost, in A. -/
def meanCurrent (s : State) : Rat :=
  if s.flag F.CTL_FB_PRIMARY_LOST then absQ s.ctl.meanAux else absQ s.ctl.meanStr

/-- M of R398: the larger magnitude of the two means; I_AUX alone while ISD_OK is 0. -/
def meanMax (s : State) : Rat :=
  if s.flag F.CTL_FB_ISD_OK then maxQ (absQ s.ctl.meanStr) (absQ s.ctl.meanAux) else absQ s.ctl.meanAux

/-- I_zero in A (R425). -/
def iZero (s : State) : Rat := ((s.get F.SAFE_SCS_I_ZERO : Nat) : Rat) / 10

/-- Is a used safety input demanding: an open channel, a test-pulse fault or a discrepancy latch (R404, R405, R407)? -/
def siUsed (s : State) (i : Nat) : Bool := s.flag (if i = 0 then F.SAFE_CFG_SI0_USED else F.SAFE_CFG_SI1_USED)

/-- The values that the ZSL evaluates: a set it has not taken yet leaves the one before in force (R82, R419). -/
def zslCfg (s : State) : Word := match s.safe.zslOld with | some x => x.1 | none => s.word F.SAFE_CFG_SI0_MODE.addr
def zslAuxOc (s : State) : Nat :=
  fieldOf (match s.safe.zslOld with | some x => x.2 | none => s.word F.SAFE_AUXOC_AUX_OC.addr) 0 16

def siMode (s : State) (i : Nat) : Bool := bitOf (zslCfg s) i
def siTp (s : State) (i : Nat) : Bool := bitOf (zslCfg s) (4 + i)
def siChan (k : Nat) : Fld := ⟨0x30084, k, 1⟩
def siTpf (k : Nat) : Fld := ⟨0x30084, 8 + k, 1⟩
def siDisc (i : Nat) : Fld := ⟨0x30080, 2 + i, 1⟩
def siDemandFld (i : Nat) : Fld := ⟨0x30080, i, 1⟩

/-- A channel is released: filtered on, and without a test-pulse fault. -/
def chReleased (s : State) (k : Nat) : Bool := s.flag (siChan k) && !s.flag (siTpf k)

def siDemanding (s : State) (i : Nat) : Bool :=
  siUsed s i && (!chReleased s (2 * i) || !chReleased s (2 * i + 1) || s.flag (siDisc i))

/-- The LOGIC clock has stopped: the charge pumps of PWM_EN and of the low sides are dead (R19). -/
def pumpsDead (s : State) : Bool := s.sys.clkLost / 2 ^ 10 % 2 == 1

/-- The ZSL protection matrix without its Wadi and safety-input conditions, and whole (R394); it is not clear during the
pause of a PLN activation (R603), and without the LOGIC clock nothing it drives turns on (R19). -/
def matrixCore (s : State) : Bool :=
  !pumpsDead s &&
  !s.flag F.SAFE_STATUS_SP_LATCH && !s.flag F.SAFE_STATUS_ZSL_LATCH && !s.flag F.SAFE_STATUS_AUX_OC_LATCH &&
    s.safe.spBeat && !s.flag F.FWU_STATUS_PLN_PAUSE

def inputClear (s : State) (i : Nat) : Bool :=
  !siDemanding s i || (siMode s i && (s.safe.scs.isSome || s.safe.scsDemand.isSome))

def matrixClear (s : State) : Bool :=
  matrixCore s && s.flag F.CVL_WADI_TONE && inputClear s 0 && inputClear s 1

/-- May the ZSL keep a low side on (R411)? A hold that is already running excepts Wadi tone and safety inputs. -/
def lowSideOk (s : State) : Bool := matrixClear s || (s.flag F.SYS_STATE_HOLD && matrixCore s)

/-- May SP turn a high side on (R411)? -/
def highSideOk (s : State) (c : Nat) : Bool :=
  (s.st == stPrecharge || s.st == stRun || s.st == stSafeStop || s.flag F.SYS_STATE_HOLD || s.safe.test.isSome) &&
    !s.flag F.SAFE_STATUS_CELL_LIMIT && !s.flag (konTpfHs c) && !s.flag (konTpfLs c)

/-- Command a contactor closed (R411, R413): the switches that may turn on do, and the 100 ms of the confirmation run
from the command (DEDUCED, log entry 22). CONTACTOR_TEST turns a high side on in spite of a latched test-pulse fault, which
it alone can clear (R414; DEDUCED, log entry 162). The operation count takes one. -/
def closeContactor (c : Nat) (s : State) : State :=
  let test := s.safe.test.any (fun t => t.c == c)
  let hs := highSideOk s c || (test && !s.flag F.SAFE_STATUS_CELL_LIMIT)
  let ls := lowSideOk s
  let s := ((s.setB (konCmd c) true).setB (konHs c) hs).setB (konLs c) ls
  let n := s.get (F.KON_OPS_HIGH c) * 65536 + s.get (F.KON_OPS_LOW c) + 1
  let s := (s.set (F.KON_OPS_LOW c) n).set (F.KON_OPS_HIGH c) (n / 65536)
  { s with safe := { s.safe with closeAt := tabSet s.safe.closeAt c s.time } }

/-- An opening under current is counted, with the highest current broken (R431). -/
def countBreak (c : Nat) (s : State) : State :=
  if iZero s ≤ meanMax s ∧ s.flag (konFb c) then
    let i := min 65535 (meanMax s).floor.toNat
    (s.bumpSat (F.KON_BREAK_HIGH c)).set (F.KON_BREAK_LOW c) (max (s.get (F.KON_BREAK_LOW c)) i)
  else s

/-- The coil of a contactor has just lost its first switch: the 100 ms of the weld check run if it was closed
(R416). -/
def deEnergise (c : Nat) (s : State) : State :=
  let s := if s.flag (konFb c) && !(s.safe.openAt.any (fun e => e.1 == c)) then
    { s with safe := { s.safe with openAt := tabSet s.safe.openAt c s.time } } else s
  { s with safe := { s.safe with closeAt := tabDel s.safe.closeAt c } }

/-- Open a contactor through its high side, its low side or both (R411, R434); an off demand ends a test pulse's
schedule (R415). -/
def openVia (c : Nat) (high low : Bool) (s : State) : State :=
  let was := holds s c
  let s := if was then countBreak c s else s
  let s := s.setB (konCmd c) false
  let s := if high then s.setB (konHs c) false else s
  let s := if low then s.setB (konLs c) false else s
  let s := { s with safe := { s.safe with
    pulse := s.safe.pulse.map (fun p => if p.c == c then { p with offDemand := true } else p) } }
  if was then deEnergise c s else { s with safe := { s.safe with closeAt := tabDel s.safe.closeAt c } }

def openContactor (c : Nat) (s : State) : State := openVia c true true s

def openAll (s : State) : State := openContactor 2 (openContactor 1 (openContactor 0 s))

/-- Is any contactor commanded closed? -/
def anyClosed (s : State) : Bool := s.flag (konCmd 0) || s.flag (konCmd 1) || s.flag (konCmd 2)

/-! ## State changes -/

/-- A change of the device state, with its cause and its record (R49); the loop does not outlive RUN and SAFE_STOP
(R306 code 0x0B). -/
def changeState (new trigger detail : Nat) (o : Origin) (s : State) : State :=
  let old := s.st
  if old = new then s
  else
    let s := (s.set F.SYS_STATE_PREV_STATE old).set F.SYS_STATE_STATE new
    let s := causeRec C.STATE_CHANGE (if new = stSafeStop ∨ new = stIsolated then sevSafety else sevNotice)
      (u8 old ++ u8 new ++ u8 trigger ++ u8 detail ++ originBytes o) s
    let s := if new = stRun ∨ new = stSafeStop then s else loopOpen 0x0B (abandonClose s)
    if old = stRun then dispatchOff (recipeEnd 5 (eisAbandon 0x5 s)) else s

/-- The completion of STATE_REQUEST RUN (R655). -/
def runDone (status : Nat) (s : State) : State :=
  let c := s.sys.runCtx
  notifyOpt c 0x0010 status (u8 s.st) ({ s with sys := { s.sys with runCtx := none } }.setB F.SYS_STATE_TRANSITION
    false)

/-- A running controlled stop ends with a status and the state reached (R655). -/
def stopDone (status : Nat) (s : State) : State :=
  match s.sys.stop with
  | none => s
  | some x =>
    notifyOpt x.ctx 0x0010 status (u8 s.st) ({ s with sys := { s.sys with stop := none } }.setB
      F.SYS_STATE_TRANSITION false)

/-- What a demand does to the transitions under way (R47): the run and stop sequences and a pending close are
abandoned. The states they report are those reached, so this runs after the state change. -/
def abandonMoves (s : State) : State :=
  let s := if s.sys.runCtx.isSome then runDone stForbids s else s
  let s := stopDone stForbids s
  let s := match s.sys.sleep with
    | some (_, c) => respond c false 0x0010 stForbids (u8 s.st) (s.setB F.SYS_STATE_TRANSITION false)
    | none => s
  { s with sys := { s.sys with sleep := none }, bal := { s.bal with handoff := none }, ctl := { s.ctl with pre := none } }

/-! ## Safe Energy Isolation and Safe Current Stop -/

/-- A contactor test cut short by SEI completes: a test-pulse fault is its result 3, any other SEI a failure inside
the module (DEDUCED, log entry 25). -/
def testCut (code : Nat) (s : State) : State :=
  match s.safe.test with
  | none => s
  | some t =>
    let s := { s with safe := { s.safe with test := none } }
    if code = 0x10 then notifyOpt t.ctx 0x0800 stOk (u8 3 ++ u16 t.closeMs ++ u16 (t.openMs.getD 0)) s
    else notifyOpt t.ctx 0x0800 stInternal [] s

/-- The SEI cause, its count and its record (R428, R432); in BOOT they wait until the supervisor runs (R44). -/
def seiReport (code : Nat) (s : State) : State :=
  causeRec C.SEI sevSafety (u8 code) (s.bump F.SAFE_SEI_CNT_VALUE 1)

/-- The trip kind of a WADI_LOSS record: bit 0 over-voltage, bit 1 under-voltage, bit 2 over-temperature (DEDUCED, log
entry 33). -/
def tripKind (s : State) : Nat :=
  bitsOf [s.flag F.CVL_WADI_TRIP_OV, s.flag F.CVL_WADI_TRIP_UV, s.flag F.CVL_WADI_TRIP_OT]

/-- The WADI_LOSS record's payload (R131). -/
def wadiLossRec (s : State) : State :=
  causeRec C.WADI_LOSS sevSafety (u8 (s.get F.CVL_WADI_FIRST_DARK) ++ u8 (s.get F.CVL_WADI_TRIP_BOARD) ++
    u8 (tripKind s)) s

/-- The causes and records of a demand that was registered while no supervisor ran (R44, R131). -/
def demandReport (code : Nat) (s : State) : State := seiReport code (if code = 3 then wadiLossRec s else s)

/-- LAST_CAUSE and LAST_TIME take the first demand registered (R390, R428). -/
def noteDemand (code : Nat) (s : State) : State :=
  (s.set F.SAFE_STATUS_LAST_CAUSE code).set64 F.SAFE_LAST_TIME_LO_VALUE F.SAFE_LAST_TIME_HI_VALUE s.time

/-- Both isolation latches (R50, R386). -/
def setLatches (s : State) : State :=
  ((s.setB F.SAFE_STATUS_SP_LATCH true).setB F.SAFE_STATUS_ZSL_LATCH true).setB F.SYS_STATE_ISO_LATCH true

def latched (s : State) : Bool := s.flag F.SAFE_STATUS_SP_LATCH && s.flag F.SAFE_STATUS_ZSL_LATCH

/-- Safe Energy Isolation with a demand code (R386, R390): every switch of every coil off, both latches set, the loop
open with code 0x01, and ISOLATED from any awake state (R46), recorded with a trigger, its detail and an origin (R49).
Once isolated, a further demand changes nothing. -/
def seiBy (trigger detail : Nat) (o : Origin) (code : Nat) (s : State) : State :=
  if latched s then s
  else
    let s := if s.safe.scs.isSome then s else noteDemand code s
    let s := setLatches (openAll s)
    let waiting := s.safe.scsCtx
    let s := { s with
      safe := { s.safe with scs := none, scsDemand := none, scsCtx := [], backupAt := none, rearm := none },
      sys := { s.sys with holdEnd := none } }
    let s := (s.setB F.SAFE_STATUS_SCS_ACTIVE false).setB F.SYS_STATE_HOLD false
    let s := if s.st = stBoot ∧ !s.sys.supRuns then
        { s with sys := { s.sys with bootDemands := s.sys.bootDemands ++ [code] } }
      else seiReport code s
    let s := loopOpen 0x01 (abandonClose s)
    let s := if s.awake then abandonMoves (changeState stIsolated trigger detail o s) else s
    let s := testCut code s
    waiting.foldl (fun s c => replyOk c 0x0010 (u8 s.st) s) s

/-- An SEI demand that no command makes: trigger 0x0E with the demand code (R49). -/
def sei (code : Nat) (s : State) : State := seiBy 0x0E code inside code s

/-- SP registers an SCS demand at a protection tick (R398); outside RUN it is SEI at once (R387). A running SCS keeps
the first demand. -/
def startScs (code trigger detail : Nat) (s : State) : State :=
  if s.st = stRun then
    let s := noteDemand code s
    let waiting := s.safe.scsCtx
    let s := { s with
      safe := { s.safe with scs := some ⟨s.safe.tick, meanMax s, 0⟩, scsDemand := none, scsCtx := [] },
      sys := { s.sys with holdEnd := none } }
    let s := raise C.SCS (s.setB F.SAFE_STATUS_SCS_ACTIVE true)
    let y : Nat × Nat × Origin := match waiting with
      | c :: _ => if code = 0x11 then (0x01, stSafeStop, Ctx.origin c) else (trigger, detail, inside)
      | [] => (trigger, detail, inside)
    let s := abandonMoves (changeState stSafeStop y.1 y.2.1 y.2.2 (abandonClose s))
    let s := if s.flag F.CTL_STATUS_CLOSED then { s with ctl := { s.ctl with mode := .scsRamp } } else s
    waiting.foldl (fun s c => replyOk c 0x0010 (u8 s.st) s) s
  else if s.st = stSafeStop then s
  else sei code s

/-- A demand for SCS that SP takes up at its next protection tick (R398); SEI at once outside RUN (R387). -/
def demandScs (code : Nat) (s : State) : State :=
  if s.st = stRun then
    if s.safe.scsDemand.isSome then s else { s with safe := { s.safe with scsDemand := some code } }
  else if s.st = stSafeStop then s
  else sei code s

/-! ## Holds and stops -/

/-- SP starts a contactor hold of 10 s if a contactor is commanded closed (R25, R58). A hold that already runs starts its
10 s anew at an entry to direct mode (DESIGN CHOICE, log entry 136). -/
def startHold (s : State) : State :=
  if anyClosed s then
    { s.setB F.SYS_STATE_HOLD true with
      sys := { s.sys with holdEnd := some (s.time + 10 * sec) },
      safe := { s.safe with holdRun := 0 } }
  else s

/-- The end of a stop: STANDBY from RUN, and the request is told (R46, R48, R655). A stop that no request started is
recorded with trigger 0x01 and the module as origin (DESIGN CHOICE, log entry 142). -/
def stopFinish (s : State) : State :=
  let c := s.sys.stop.bind (·.ctx)
  let s := if s.st = stRun then
      changeState stStandby 0x01 stStandby (match c with | some c => Ctx.origin c | none => inside) s
    else s
  stopDone stOk s

/-- The next step of a stop once the contactor before it is open (R412). -/
def stopAdvance (s : State) : State :=
  let waits (c : Nat) (s : State) : Bool := s.safe.openAt.any (fun e => e.1 == c)
  match s.sys.stop with
  | some x =>
    match x.phase with
    | .ramp => s
    | .openMp =>
      if waits 0 s then s
      else
        let s := openContactor 1 { s with sys := { s.sys with stop := some { x with phase := .openMn } } }
        if waits 1 s then s else stopFinish s
    | .openMn => if waits 1 s then s else stopFinish s
  | none => s

/-- Steps 2 and 3 of R48: main positive opens once |I| is below I_zero, else the stop waits for it. -/
def stopOpen (deadline : Option Nat) (c : Option Ctx) (s : State) : State :=
  let s := s.setB F.SYS_STATE_TRANSITION true
  if meanCurrent s < iZero s then
    let s := openContactor 0 (openContactor 2 s)
    stopAdvance { s with sys := { s.sys with stop := some ⟨.openMp, none, c⟩ } }
  else { s with sys := { s.sys with stop := some ⟨.ramp, deadline, c⟩ } }

/-- A hold ends by STATE_REQUEST STANDBY or after 10 s (R58). -/
def endHold (s : State) : State :=
  let s := raise C.HOLD_END ({ s with sys := { s.sys with holdEnd := none } }.setB F.SYS_STATE_HOLD false)
  stopOpen none none s

/-! ## Direct mode -/

/-- A block's pending commit and shadow are discarded (R81). -/
def discardShadow (b : Block) (s : State) : State :=
  let s := (s.setB (shPending b) false)
  { s with
    shadow := s.shadow.filter (fun e => blockOf e.1 != some b)
    sys := { s.sys with cleanTok := tabSet s.sys.cleanTok (blockIdx b) (s.get (shToken b)) } }

def discardShadows (s : State) : State := allBlocks.foldl (fun s b => discardShadow b s) s

/-- The open transfer closes (R591). -/
def closeXfer (s : State) : State :=
  ({ s with fwu := { s.fwu with xfer := none } }.setB F.FWU_STATUS_XFER_OPEN false).set F.FWU_STATUS_XFER_TYPE 0

/-- A new SUP image has failed while UNCONFIRMED is set (R592, R593). -/
def supFail (s : State) : State :=
  if s.flag F.FWU_STATUS_UNCONFIRMED then { s with fwu := { s.fwu with failed := true, confirmAt := none } } else s

/-- Entry to direct mode with a cause (R24, R25, R81, R512, R591, R592). -/
def enterDirect (cause : Nat) (s : State) : State :=
  if s.direct then s
  else
    let s := if s.st = stRecovery then s else closeXfer s
    let s := if cause = 2 ∨ cause = 3 then supFail s else s
    let s := (s.setB F.SYS_MODE_DIRECT true).set F.SYS_MODE_DIRECT_CAUSE cause
    let s := ptpStop { s with sys := { s.sys with supRuns := false } }
    let s := loopOpen 0x0B (abandonClose (eisAbandon 0x7 (recipeEnd 6 s)))
    let s := discardShadows s
    let s := causeRec C.DIRECT_ENTER sevFault (u8 cause) s
    if s.st = stSafeStop ∨ s.st = stIsolated ∨ s.st = stRecovery then s
    else abandonMoves (changeState stStandby 0x0F cause inside (startHold s))

end Sys2Proof.Machine
end

