-- ==== Sys2Proof/Machine/Flags.lean ====
section
/-!
DEFINITION. The levels and status bits that hardware derives from the rest of the state, brought up to date at the
end of every command: the interrupt summary and nIRQ, PWM_EN and the low-side switches, SAFE_OK, HB_OK, and the counts that
status words mirror. Every meaning ends in `finish`.
-/

namespace Sys2Proof.Machine

/-- The unmasked causes of a group (R90). -/
def unmasked (s : State) (g : Nat) : Nat :=
  s.get (F.INT_CAUSE_CAUSE g) &&& (0xFF ^^^ s.get (F.INT_MASK_MASK g))

/-- INT_SUMMARY: bit g for each group g with an unmasked cause (R90). -/
def summary (s : State) : Nat := bitsOf ((List.range 16).map (fun g => unmasked s g != 0))

/-- The level of nIRQ: low while enabled with a cause in the summary, but released during a rearm (R90, R91). -/
def irqLow (s : State) : Bool :=
  s.flag F.INT_CTRL_GLOBAL_EN && s.get F.INT_SUMMARY_GROUP != 0 && decide (s.sys.rearmEnd ≤ s.time)

def settleInt (s : State) : State :=
  let s := s.set F.INT_SUMMARY_GROUP (summary s)
  { s with sys := { s.sys with nirqLow := irqLow s } }

/-- Queue, session and authorisation counts (R485, R489); recorder counts (R582, R583). -/
def settleCounts (s : State) : State :=
  let slots := s.cmd.slots
  let s := (((s.set F.CMD_QUEUE_PRIO_USED (slots.countP (·.reserved))).set F.CMD_QUEUE_NORMAL_USED
    (slots.countP (fun x => !x.reserved))).set F.CMD_QUEUE_SESSIONS s.cmd.sessions.length)
  let s := s.set F.AUTH_STATUS_AUTH_SESS (s.cmd.sessions.countP (liveAuth s.time))
  let s := s.set F.EVR_STATUS_BUF_FILL s.evr.buffer.length
  (s.set F.EVR_HELD_SAFETY s.evr.safety.length).set F.EVR_HELD_GENERAL s.evr.general.length

/-- The ZSL turns a low side off while its matrix is not clear (R411). -/
def settleLow (c : Nat) (s : State) : State :=
  if s.flag (konLs c) && !lowSideOk s then
    let s := if energised s c then deEnergise c s else s
    s.setB (konLs c) false
  else s

/-- SP's request for PWM_EN (R394). -/
def pwmRequest (s : State) : Bool :=
  (s.st == stRun || s.st == stSafeStop) && s.flag F.SAFE_STATUS_SET_VALID && s.flag (konFb 0) && s.flag (konFb 1) &&
    !latched s

/-- SAFE_OK: both isolation latches clear and no demand present (R396). -/
def safeOk (s : State) : Bool :=
  !s.flag F.SAFE_STATUS_SP_LATCH && !s.flag F.SAFE_STATUS_ZSL_LATCH && !siDemanding s 0 && !siDemanding s 1 &&
    s.safe.scs.isNone && s.safe.scsDemand.isNone && !s.flag F.SAFE_STATUS_AUX_OC_LATCH

/-- The ZSL's and SP's outputs (R39, R394, R396, R411): when PWM_EN falls the loop opens with code 0x01 (R306). -/
def settleSafe (s : State) : State :=
  let s := (s.setB (siDemandFld 0) (siDemanding s 0)).setB (siDemandFld 1) (siDemanding s 1)
  let s := settleLow 2 (settleLow 1 (settleLow 0 s))
  let s := if pwmRequest s && matrixClear s then s else loopOpen 0x01 s
  let s := (s.setB F.SAFE_STATUS_PWM_EN_REQ (pwmRequest s)).setB F.SAFE_STATUS_HB_OK (s.safe.spBeat && s.safe.zslBeat)
  let s := s.setB F.CTL_STATUS_PWM_EN (pwmRequest s && matrixClear s)
  s.setB F.SAFE_STATUS_SAFE_OK (safeOk s)

def settle (s : State) : State := settleInt (settleCounts (settleSafe s))

/-- The end of every command: its next state. -/
def finish (s : State) : Host.Outcome State Fault Refusal := .next (settle s)

end Sys2Proof.Machine
end

