-- ==== Sys2Proof/Machine/Recorder.lean ====
section
/-!
DEFINITION. The event recorder (chapter 17): writing buffered records to MRAM, reading, clearing.
-/

namespace Sys2Proof.Machine

/-- One more than a sequence number, modulo 2³², with 0 skipped (R572). -/
def seqNext (n : Nat) : Nat := if (n + 1) % 2 ^ 32 = 0 then 1 else (n + 1) % 2 ^ 32

/-- How far a sequence number lies behind the newest (R572). -/
def seqAge (s : State) (n : Nat) : Nat := (s.evr.newest + 2 ^ 32 - n) % 2 ^ 32

/-- Merge two lists of held records, both oldest first, by age. -/
def mergeHeld (s : State) : Nat → List (Nat × Rec) → List (Nat × Rec) → List (Nat × Rec)
  | 0, _, _ => []
  | _ + 1, [], b => b
  | _ + 1, a, [] => a
  | k + 1, x :: a, y :: b =>
    if seqAge s y.1 ≤ seqAge s x.1 then x :: mergeHeld s k a (y :: b) else y :: mergeHeld s k (x :: a) b

/-- All held records in sequence order. -/
def heldRecs (s : State) : List (Nat × Rec) :=
  mergeHeld s (s.evr.safety.length + s.evr.general.length + 1) s.evr.safety s.evr.general

/-- EVR_OLDEST and EVR_NEWEST (R583): 0 when none is held. -/
def markEnds (s : State) : State :=
  let o := match s.evr.safety, s.evr.general with
    | [], [] => 0
    | x :: _, [] => x.1
    | [], y :: _ => y.1
    | x :: _, y :: _ => if seqAge s y.1 ≤ seqAge s x.1 then x.1 else y.1
  let empty := s.evr.safety.isEmpty && s.evr.general.isEmpty
  (s.set F.EVR_OLDEST_VALUE o).set F.EVR_NEWEST_VALUE (if empty then 0 else s.evr.newest)

/-- EVR_NEAR_FULL (R578): general records newer than EVR_MARK reach the threshold; armed again below 90 % of it. With the mark
at 0 nothing has been collected, and none is newer than a mark that no record has reached (DESIGN CHOICE, log entry 166). -/
def checkNear (s : State) : State :=
  let mark := s.get F.EVR_MARK_MARK
  let n := s.evr.general.countP (fun e => mark == 0 || decide (seqAge s e.1 < seqAge s mark ∧ seqAge s mark < 2 ^ 31))
  let thr := s.get F.EVR_CFG_NEAR_THR
  if thr ≤ n ∧ s.evr.nearArmed then raise C.EVR_NEAR_FULL { s with evr := { s.evr with nearArmed := false } }
  else if 10 * n < 9 * thr then { s with evr := { s.evr with nearArmed := true } }
  else s

/-- A record is stored under the next number; its slot is a free one or that of the record R573 names. -/
def storeSafety (n : Nat) (r : Rec) (l : List (Nat × Rec)) : List (Nat × Rec) :=
  (if l.length < 4096 then l else l.drop 1) ++ [(n, r)]

/-- The oldest buffered record is written to MRAM (R572, R573). -/
def writeOne (s : State) : State :=
  match s.evr.buffer with
  | [] => s
  | r :: t =>
    let n := seqNext s.evr.newest
    let s := { s with evr := { s.evr with buffer := t } }
    if r.sev = sevSafety then
      markEnds { s with evr := { s.evr with newest := n, safety := storeSafety n r s.evr.safety } }
    else if s.evr.general.length < 61440 then
      checkNear (markEnds { s with evr := { s.evr with newest := n, general := s.evr.general ++ [(n, r)] } })
    else if s.evr.general.any (fun e => decide (e.2.sev ≤ r.sev)) then
      let g := s.evr.general.eraseP (fun e => decide (e.2.sev ≤ r.sev))
      checkNear (markEnds { s with evr := { s.evr with newest := n, general := g ++ [(n, r)] } })
    else countDrop r.sev s

/-- RECORD_WRITE (R570): every 0.5 ms; writing pauses during a clear (R579), records created before step 6 of a start-up
wait in the buffer (R576), and records created after the flush of a power-fail warning stay in RAM while the warning
stands (R575). -/
def execRecordWrite (s : State) : Host.Outcome State Fault Refusal :=
  let s := s.tick tkRecord 125000
  finish (if s.evr.clear.isSome || !s.flag F.EVR_STATUS_READY || s.flag F.FEED_STATUS_PF_WARN then s else writeOne s)

/-- The 64 bytes of a record with its number and CRC (R565). -/
def recBytes (n : Nat) (r : Rec) : List Byte :=
  let b := u32 n ++ u32 r.opSec ++ u32 r.pwrCycles ++ u32 r.sysNs ++ u64 r.sysSec ++ u8 r.sev ++ u8 r.source ++
    u16 r.code ++ (r.payload ++ List.replicate 32 (0 : Byte)).take 32
  b ++ u32 (crc32c b)

/-- The records an EVR_READ with first number `f` and count `n` returns (R577). -/
def readRecs (s : State) (f n : Nat) : List (Nat × Rec) :=
  let h := heldRecs s
  if f = 0 then h.take n
  else if seqAge s f < 2 ^ 31 then (h.filter (fun e => decide (seqAge s e.1 ≤ seqAge s f))).take n
  else []

/-- How many numbers lie from `a` to `b`, 0 skipped (R572). -/
def seqSpan (a b : Nat) : Nat := let d := (b + 2 ^ 32 - a) % 2 ^ 32 + 1; if b < a then d - 1 else d

/-- The reply of EVR_READ (R491, R577). -/
def readReply (s : State) (f n : Nat) : List Byte :=
  let l := readRecs s f n
  let oldest := s.get F.EVR_OLDEST_VALUE
  match l.head?, l.getLast? with
  | some a, some z =>
    let start := if f = 0 then a.1 else f
    let gap := seqSpan start z.1 != l.length
    u8 l.length ++ u8 (b2n gap) ++ u16 0 ++ u32 (seqNext z.1) ++ (l.map (fun e => recBytes e.1 e.2)).flatten
  | _, _ =>
    let gap := f != 0 && oldest != 0 && seqAge s f < 2 ^ 31 && decide (seqAge s oldest < seqAge s f)
    u8 0 ++ u8 (b2n gap) ++ u16 0 ++ u32 f

/-- EVR_READ's answer now (R577), within what RCP-1 carries (R466). -/
def answerRead (c : Ctx) (f n : Nat) (s : State) : State :=
  let p := readReply s f n
  if c.v1 && 255 < p.length then replyRange c 0x0900 4 s else replyOk c 0x0900 p s

/-- A clear under way stops without its record (R581): EVR_CLEAR has failed, and the reads that waited for it are answered
(DESIGN CHOICE, log entry 166). -/
def clearStop (s : State) : State :=
  match s.evr.clear with
  | none => s
  | some x =>
    let s := reply x.ctx 0x0902 stInternal [] ({ s with evr := { s.evr with clear := none } }.setB F.EVR_STATUS_CLEAR_BUSY
      false)
    x.waiting.foldl (fun s w => answerRead w.1 w.2.1 w.2.2 s) s

/-- The buffer is written to MRAM without the rate limit (R575); a clear under way stops (R581). -/
def flushRecs : Nat → State → State
  | 0, s => s
  | k + 1, s => flushRecs k (writeOne s)

def flushAll (s : State) : State :=
  let s := clearStop s
  flushRecs s.evr.buffer.length s

def doEvrRead (c : Ctx) (f n : Nat) (s : State) : State :=
  if !s.flag F.EVR_STATUS_READY then replyBusy c 0x0900 100 s
  else if n < 1 ∨ 15 < n then replyRange c 0x0900 4 s
  else match s.evr.clear with
    | some x => { s with evr := { s.evr with clear := some { x with waiting := x.waiting ++ [(c, f, n)] } } }
    | none => answerRead c f n s

/-- EVR_READ (R577). -/
def execEvrRead (c : Ctx) (first : BitVec 32) (count : BitVec 8) (s : State) : Host.Outcome State Fault Refusal :=
  finish (withCmd c 0x0900 (doEvrRead c first.toNat count.toNat) s)

def doEvrStatus (c : Ctx) (s : State) : State :=
  replyOk c 0x0901 (u32 (s.get F.EVR_OLDEST_VALUE) ++ u32 (s.get F.EVR_NEWEST_VALUE) ++
    u32 (s.evr.safety.length + s.evr.general.length) ++
    ((List.range 5).map (fun i => u32 (s.get (F.EVR_DROP_VALUE i)))).flatten) s

/-- EVR_STATUS (R491). -/
def execEvrStatus (c : Ctx) (s : State) : Host.Outcome State Fault Refusal :=
  finish (withCmd c 0x0901 (doEvrStatus c) s)

def doEvrClear (c : Ctx) (mask : Nat) (s : State) : State :=
  if mask % 16 = 0 then replyRange c 0x0902 0 s
  else if s.evr.clear.isSome then replyBusy c 0x0902 100 s
  else
    { s with evr := { s.evr with clear := some ⟨mask, s.evr.newest, c, []⟩ } }.setB F.EVR_STATUS_CLEAR_BUSY true

/-- EVR_CLEAR (R579): the clear starts; its reply comes at completion. -/
def execEvrClear (c : Ctx) (mask : BitVec 8) (s : State) : Host.Outcome State Fault Refusal :=
  finish (withCmd c 0x0902 (doEvrClear c mask.toNat) s)

/-- Is a general-area record released by a clear (R579)? -/
def released (s : State) (x : Clear) (e : Nat × Rec) : Bool :=
  x.mask / 2 ^ e.2.sev % 2 == 1 && decide (seqAge s x.newest ≤ seqAge s e.1)

/-- The clear completes (R579, R580). -/
def clearDone (s : State) : State :=
  match s.evr.clear with
  | none => s
  | some x =>
    let gone := s.evr.general.filter (released s x)
    let kept := s.evr.general.filter (fun e => !released s x e)
    let s := { s with evr := { s.evr with clear := none, general := kept } }
    let s := checkNear (markEnds (s.setB F.EVR_STATUS_CLEAR_BUSY false))
    let lo := match gone.head? with | some e => e.1 | none => 0
    let hi := match gone.getLast? with | some e => e.1 | none => 0
    let s := causeRec C.EVR_CLEARED sevSafety (u8 x.mask ++ u8 (Ctx.transport x.ctx) ++ u16 0 ++
      u32 x.ctx.session.toNat ++ u32 lo ++ u32 hi ++ u32 gone.length) s
    let s := replyOk x.ctx 0x0902 [] s
    x.waiting.foldl (fun s w => answerRead w.1 w.2.1 w.2.2 s) s

/-- EVR_CLEAR_DONE (R580); without a clear nothing happens. -/
def execEvrClearDone (s : State) : Host.Outcome State Fault Refusal := finish (clearDone s)

/-- The DROP_SUMMARY record of a management tick (R574). -/
def dropSummary (s : State) : State :=
  if s.evr.dropsSince.any (· != 0) ∧ s.evr.buffer.length < 128 then
    let p := (s.evr.dropsSince.map u32).flatten
    addRec sevWarning 0x0F 0x0000 p { s with evr := { s.evr with dropsSince := [0, 0, 0, 0, 0] } }
  else s

end Sys2Proof.Machine
end

