-- ==== Sys2Proof/Machine/WriteGuard.lean ====
section
/-!
DEFINITION. Which register writes may take effect (R27, R45, R554), how a refused one is logged (R74), and the results
a written word can have.
-/

namespace Sys2Proof.Machine

/-- What became of one written word. -/
inductive WRes where
  | ok | locked | range | forbids | loopClosed | auth
  | busy (hint : Nat)
  | incons (detail : Nat)
  deriving DecidableEq, Repr

/-- The RCP status and payload of a refused word (R467, R468); `off` is the byte offset for RANGE. -/
def wresStatus (off : Nat) : WRes → Nat × List Byte
  | .ok => (stOk, [])
  | .locked => (stLocked, [])
  | .range => (stRange, u16 off)
  | .forbids => (stForbids, [])
  | .loopClosed => (stLoopClosed, [])
  | .auth => (stAuth, [])
  | .busy h => (stBusy, u16 h)
  | .incons d => (stIncons, u8 d)

/-- Words a host may write in direct mode over RCP (R27): interrupt masks, INT_CTRL, SYS_SNAP, CTL_CTRL with only
FB_ACK, and BAL_CFG where POLICY becomes OFF and nothing else changes. -/
def directWord (s : State) (a : Nat) (v : Word) : Bool :=
  (decide (0x1100 ≤ a) && decide (a < 0x1180) && a % 8 == 4) || a == 0x1004 || a == 0x50 ||
    (a == 0x20040 && v == 2) || (a == 0x14000 && v == (s.word 0x14000 &&& ~~~(3 : Word)))

/-- A write of a locked or write-once field is rejected: WRITE_REJECTED and its record (R74). -/
def writeRejected (addr : Nat) (o : Origin) (s : State) : State :=
  causeRec C.WRITE_REJECTED sevInfo (u32 addr ++ originBytes o) s

/-- TWS_CFG and TWS_ADDR as they are in force (R552). -/
def twsCfg (s : State) : Word := match s.bus.twsOld with | some x => x.1 | none => s.word 0x41000
def twsAddr (s : State) : Word := match s.bus.twsOld with | some x => x.2 | none => s.word 0x41004

/-- May a write through a path take effect now? Over RCP the states of REG_WRITE and R27 decide; through the window
direct mode, RECOVERY, BOOT and WIN_EN do (R27, R554). -/
def writeAdmitted (p : Path) (a : Nat) (v : Word) (s : State) : Bool :=
  match p with
  | .rcp _ => s.awake && (!s.direct || directWord s a v)
  | .win => s.awake && !s.direct && bitOf (twsCfg s) 1

/-- A window write in direct mode raises DIRECT_REJECT (R27). -/
def windowNote (p : Path) (s : State) : State :=
  match p with
  | .win => if s.direct && (s.awake || s.st == stRecovery) then raise C.DIRECT_REJECT s else s
  | .rcp _ => s

/-- A register-write event with its own row: its effect where the write is admitted. -/
def withWrite (p : Path) (a : Nat) (v : Word) (f : State → State × WRes) (s : State) : State :=
  if writeAdmitted p a v s then (f s).1 else windowNote p s

/-- Store a word that a host may change freely, with its CONFIG_WRITE record (R71, R569). -/
def storeWord (o : Origin) (a : Nat) (v : Word) (s : State) : State :=
  configRec o a v (s.word a) (s.setWord a v)

end Sys2Proof.Machine
end

