-- ==== Sys2Proof/Machine/Can.lean ====
section
/-!
DEFINITION. The CAN channels (chapter 16, R530 to R550): receive and transmit objects with their owners, the order of
transmission, error counters and bus-off.
-/

namespace Sys2Proof.Machine

/-! ## Channels and fields -/

def canBase : CanCh → Nat
  | .cana => 0x40000
  | .canb => 0x40800

/-- A field of a channel at an offset from its base. -/
def canFld (ch : CanCh) (off lo n : Nat) : Fld := ⟨canBase ch + off, lo, n⟩

def canChan (s : State) (ch : CanCh) : CanChan :=
  match ch with
  | .cana => s.bus.cana
  | .canb => s.bus.canb

def setCan (ch : CanCh) (x : CanChan) (s : State) : State :=
  match ch with
  | .cana => { s with bus := { s.bus with cana := x } }
  | .canb => { s with bus := { s.bus with canb := x } }

def canEn (s : State) (ch : CanCh) : Bool := s.flag (canFld ch 0 0 1)
def canListen (s : State) (ch : CanCh) : Bool := s.flag (canFld ch 0 1 1)
def canFdEn (s : State) (ch : CanCh) : Bool := s.flag (canFld ch 0 2 1)
def canBusOff (ch : CanCh) : Fld := canFld ch 0x24 2 1
def canNoAck (ch : CanCh) : Fld := canFld ch 0x24 3 1
def canAckRun (ch : CanCh) : Fld := canFld ch 0x24 8 8

/-- Does the channel take part in the bus: powered, past the load of its configuration at start-up step 6, on, and not
bus-off? -/
def canOn (s : State) (ch : CanCh) : Bool :=
  hostPowered s && s.sys.svcWait.isNone && canEn s ch && !s.flag (canBusOff ch)

/-- Bit of an object in a pair of status words, LO at `off` (R549), and in a single word (R550). -/
def rxBit (ch : CanCh) (off j : Nat) : Fld := canFld ch (off + 4 * (j / 32)) (j % 32) 1
def rxNew (ch : CanCh) (j : Nat) : Fld := rxBit ch 0x200 j
def rxLost (ch : CanCh) (j : Nat) : Fld := rxBit ch 0x208 j
def txPend (ch : CanCh) (i : Nat) : Fld := canFld ch 0x38C i 1
def txDone (ch : CanCh) (i : Nat) : Fld := canFld ch 0x394 i 1
def txFail (ch : CanCh) (i : Nat) : Fld := canFld ch 0x398 i 1

/-! ## Owned objects (R537) -/

/-- IDE and ID of an owner's identifier word. -/
def ownerWord (w : Word) : Bool × Nat := (bitOf w 31, fieldOf w 0 29)

/-- The owner's identifier of receive object 63, while it is owned. -/
def rxOwner (s : State) (ch : CanCh) : Option (Bool × Nat) :=
  match ch with
  | .cana => if s.get F.DISP_CFG_SOURCE / 2 = 1 then some (ownerWord (s.word F.DISP_CAN_ID_ID.addr)) else none
  | .canb => if s.flag F.THM_CHL_EN then some (ownerWord (s.word F.THM_CHL_RXID_ID.addr)) else none

/-- The owner's identifier of transmit object 31, while it is owned. -/
def txOwner (s : State) (ch : CanCh) : Option (Bool × Nat) :=
  match ch with
  | .cana => none
  | .canb => if s.flag F.THM_CHL_EN then some (ownerWord (s.word F.THM_CHL_TXID_ID.addr)) else none

/-- Enable, IDE and ID of an object word (R548). -/
def objWord (w : Word) : Option (Bool × Nat) := if bitOf w 31 then some (bitOf w 30, fieldOf w 0 29) else none

def rxIdent (s : State) (ch : CanCh) (j : Nat) : Option (Bool × Nat) :=
  match (if j = 63 then rxOwner s ch else none) with
  | some o => some o
  | none => objWord (s.word (canBase ch + 0x100 + 4 * j))

def txIdent (s : State) (ch : CanCh) (i : Nat) : Option (Bool × Nat) :=
  match (if i = 31 then txOwner s ch else none) with
  | some o => some o
  | none => objWord (s.word (canBase ch + 0x300 + 4 * i))

def rxOwned (s : State) (ch : CanCh) (j : Nat) : Bool := j == 63 && (rxOwner s ch).isSome
def txOwned (s : State) (ch : CanCh) (i : Nat) : Bool := i == 31 && (txOwner s ch).isSome

/-- An owned object word reads the owner's identifier; other words as they are. -/
def canRead (s : State) (a : Nat) (w : Word) : Word :=
  let put (o : Option (Bool × Nat)) : Word :=
    match o with
    | some (ide, id) => withField (withField w 30 1 (b2n ide)) 0 29 id
    | none => w
  if a = 0x401FC then put (rxOwner s .cana)
  else if a = 0x409FC then put (rxOwner s .canb)
  else if a = 0x40B7C then put (txOwner s .canb)
  else w

/-! ## Receiving (R535, R536) -/

/-- The object that takes a frame; the owner's comes first. -/
def rxMatch (s : State) (ch : CanCh) (ide : Bool) (id : Nat) : Option Nat :=
  if rxOwner s ch = some (ide, id) then some 63
  else (List.range 64).find? (fun j => !rxOwned s ch j && rxIdent s ch j == some (ide, id))

/-- A frame is stored in an object (R535). -/
def rxStore (ch : CanCh) (j : Nat) (f : CanFrame) (s : State) : State :=
  let lost := s.flag (rxNew ch j)
  let s := setCan ch { canChan s ch with rx := tabSet (canChan s ch).rx j f } s
  let s := s.setB (rxNew ch j) true
  let s := if lost then
      let s := s.setB (rxLost ch j) true
      if rxOwned s ch j then s else raise C.CAN_LOST s
    else s
  if s.flag (canFld ch (0x100 + 4 * j) 29 1) then raise (match ch with | .cana => C.CANA_RX | .canb => C.CANB_RX) s else s

/-- A frame with CMD_CAN_RXID goes to the reassembler and takes no object (R471). -/
def isRcpFrame (s : State) (ch : CanCh) (ide : Bool) (id : Nat) : Bool :=
  ch == .cana && s.flag F.CMD_CAN_RXID_EN && s.flag F.CMD_CAN_RXID_IDE == ide && s.get F.CMD_CAN_RXID_ID == id

/-- REC after a frame received without error, as ISO 11898-1 has it (R541; PRESUMED, log entry 51): one less; from above 127
back to a value from 119 to 127 that the standard leaves open. -/
def recGood (s : State) (r : Nat) : Nat × State :=
  if r = 0 then (0, s)
  else if r ≤ 127 then (r - 1, s)
  else
    let f := s.fresh
    (119 + f.1 % 9, f.2)

/-- TEC, REC and the states that depend on them (R541, R547). -/
def canStatus (ch : CanCh) (s : State) : State :=
  let x := canChan s ch
  let s := (s.set (canFld ch 0x24 24 8) (min 255 x.tec)).set (canFld ch 0x24 16 8) (min 255 x.rec_)
  (s.setB (canFld ch 0x24 0 1) (decide (96 ≤ x.tec ∨ 96 ≤ x.rec_))).setB (canFld ch 0x24 1 1)
    (decide (127 < x.tec ∨ 127 < x.rec_))

/-- A frame has come in without error; a listening channel counts nothing (R540). -/
def canGood (ch : CanCh) (s : State) : State :=
  if canListen s ch then s
  else
    let r := recGood s (canChan s ch).rec_
    canStatus ch (setCan ch { canChan r.2 ch with rec_ := r.1 } r.2)

/-- A data frame has come in without error. -/
def canIn (ch : CanCh) (ide : Bool) (id : Nat) (f : CanFrame) (s : State) : State :=
  let s := canGood ch s
  if isRcpFrame s ch ide id then s
  else match rxMatch s ch ide id with
    | some j => rxStore ch j f s
    | none => s

/-- CAN_FRAME_RECEIVE (R535): remote frames are acknowledged and discarded, and with FD_EN at 0 an FD frame is a protocol exception
(R531). -/
def execCanFrameReceive (ch : CanCh) (ide : Bool) (id : BitVec 29) (rtr fdf brs esi : Bool) (data : List Byte)
    (s : State) : Host.Outcome State Fault Refusal :=
  finish (if !canOn s ch || (fdf && !canFdEn s ch) then s
  else if rtr then canGood ch s
  else canIn ch ide id.toNat ⟨data.length, fdf, brs, esi, data, s.time⟩ s)

/-- Word `w` of a frame's data. -/
def dataWord (f : CanFrame) (w : Nat) : Word := BitVec.ofNat 32 (numAt f.data (4 * w) 4)

/-- A write of CANx_RX_SEL copies the object into the window and clears NEW and LOST (R536). -/
def rxSelect (ch : CanCh) (o : Origin) (v : Word) (s : State) : State × WRes :=
  let j := fieldOf v 0 6
  let s := storeWord o (canBase ch + 0x210) (v &&& 0x3F) s
  let lost := s.flag (rxLost ch j)
  let s := (s.setB (rxNew ch j) false).setB (rxLost ch j) false
  let b := canBase ch
  match (canChan s ch).rx.lookup j with
  | some f =>
    let hdr := BitVec.ofNat 32 (2 ^ 31 + 2 ^ 30 * b2n lost + 2 ^ 29 * b2n f.fdf + 2 ^ 28 * b2n f.brs + 2 ^ 27 * b2n f.esi +
      f.len % 256)
    let s := (s.setWord (b + 0x240) hdr).set64 (canFld ch 0x244 0 32) (canFld ch 0x248 0 32) f.at_
    ((List.range 16).foldl (fun s w => s.setWord (b + 0x250 + 4 * w) (dataWord f w)) s, .ok)
  | none =>
    let s := ((s.setWord (b + 0x240) 0).setWord (b + 0x244) 0).setWord (b + 0x248) 0
    ((List.range 16).foldl (fun s w => s.setWord (b + 0x250 + 4 * w) 0) s, .ok)

/-- CAN_RX_SELECT (R536). -/
def execCanRxSelect (p : Path) (ch : CanCh) (value : BitVec 32) (s : State) : Host.Outcome State Fault Refusal :=
  finish (withWrite p (canBase ch + 0x210) value (rxSelect ch (Path.origin p) value) s)

/-! ## Transmitting (R538, R539) -/

/-- The rank of an identifier in arbitration: the lower wins (R539). -/
def arbKey (ide : Bool) (id : Nat) : Nat :=
  if ide then id / 2 ^ 18 * 2 ^ 19 + 2 ^ 18 + id % 2 ^ 18 else id % 2 ^ 11 * 2 ^ 19

/-- The pending object whose frame would win. -/
def txOffer (s : State) (ch : CanCh) : Option Nat :=
  ((List.range 32).foldl (fun (best : Option (Nat × Nat)) i =>
    match (if s.flag (txPend ch i) then txIdent s ch i else none) with
    | some (ide, id) =>
      let k := arbKey ide id
      (match best with | some (_, b) => if k < b then some (i, k) else best | none => some (i, k))
    | none => best) none).map (·.1)

/-- With nothing of the channel on the bus, the best pending frame goes into arbitration (DEDUCED, log entry 50). -/
def txNext (ch : CanCh) (s : State) : State :=
  let x := canChan s ch
  if x.cur.isSome || !canOn s ch || canListen s ch then s 
  else
    let i := txOffer s ch
    setCan ch { x with cur := i, curId := i.bind (txIdent s ch), aborted := false } s

def oneShot (s : State) (ch : CanCh) (i : Nat) : Bool := !txOwned s ch i && s.flag (canFld ch (0x300 + 4 * i) 29 1)

/-- An object fails: TX_FAIL sets and PEND clears. -/
def txDrop (ch : CanCh) (i : Nat) (s : State) : State :=
  let s := (s.setB (txPend ch i) false).setB (txFail ch i) true
  let x := canChan s ch
  if x.cur = some i then setCan ch { x with cur := none, aborted := false } s else s

/-- An attempt ends without success: a ONE_SHOT object fails, an aborted one is not retried, any other stays pending. -/
def txRetry (ch : CanCh) (s : State) : State :=
  let x := canChan s ch
  match x.cur with
  | none => s
  | some i =>
    let s := if oneShot s ch i then txDrop ch i s
      else if x.aborted then s.setB (txPend ch i) false else s
    txNext ch (setCan ch { canChan s ch with cur := none, aborted := false } s)

/-- Is LEN a valid CAN length (R538)? -/
def lenOk (fdf : Bool) (n : Nat) : Bool := if fdf then n ≤ 64 && fdLen n == n else decide (n ≤ 8)

/-- A frame is put into a transmit object: PEND sets. -/
def txPut (ch : CanCh) (i : Nat) (f : CanFrame) (s : State) : State :=
  let s := setCan ch { canChan s ch with tx := tabSet (canChan s ch).tx i f } s
  txNext ch (s.setB (txPend ch i) true)

/-- A write of 1 to CANx_TX_CMD.LOAD (R538). -/
def txLoad (ch : CanCh) (o : Origin) (v : Word) (s : State) : State × WRes :=
  if bitOf v 0 then
    let b := canBase ch
    let i := s.get (canFld ch 0x380 0 5)
    let n := s.get (canFld ch 0x384 0 8)
    let fdf := s.flag (canFld ch 0x384 8 1)
    if (txIdent s ch i).isNone || txOwned s ch i || s.flag (txPend ch i) || !lenOk fdf n || (fdf && !canFdEn s ch) then
      (writeRejected (b + 0x388) o s, .locked)
    else
      let d := ((List.range 16).map (fun w => u32 (s.word (b + 0x3A0 + 4 * w)).toNat)).flatten.take n
      (txPut ch i ⟨n, fdf, s.flag (canFld ch 0x384 9 1), false, d, 0⟩ s, .ok)
  else (s, .ok)

/-- CAN_TX_LOAD (R538). -/
def execCanTxLoad (p : Path) (ch : CanCh) (value : BitVec 32) (s : State) : Host.Outcome State Fault Refusal :=
  finish (withWrite p (canBase ch + 0x388) value (txLoad ch (Path.origin p) value) s)

/-- A 1 written to an ABORT bit (R539). -/
def txAbortOne (ch : CanCh) (v : Word) (s : State) (i : Nat) : State :=
  if bitOf v i && s.flag (txPend ch i) then
    let x := canChan s ch
    if x.cur = some i then setCan ch { x with aborted := true } s else txDrop ch i s
  else s

def txAbort (ch : CanCh) (v : Word) (s : State) : State × WRes := ((List.range 32).foldl (txAbortOne ch v) s, .ok)

/-- CAN_TX_ABORT (R539). -/
def execCanTxAbort (p : Path) (ch : CanCh) (value : BitVec 32) (s : State) : Host.Outcome State Fault Refusal :=
  finish (withWrite p (canBase ch + 0x390) value (txAbort ch value) s)

/-- What leaves the channel; bit rate switching only while BRS_EN is 1. -/
def txSend (ch : CanCh) (i : Nat) (s : State) : State :=
  match (canChan s ch).curId, (canChan s ch).tx.lookup i with
  | some (ide, id), some f => s.send (.can ch ide id f.fdf (f.brs && s.flag (canFld ch 0 3 1)) f.data)
  | _, _ => s

/-- The transmission on the bus ends without error (R539, R541, R543). -/
def txComplete (ch : CanCh) (s : State) : State :=
  let x := canChan s ch
  match x.cur with
  | none => s
  | some i =>
    let s := txSend ch i s
    let s := (s.setB (txPend ch i) false).setB (txDone ch i) true
    let s := (s.set (canAckRun ch) 0).setB (canNoAck ch) false
    txNext ch (canStatus ch (setCan ch { canChan s ch with cur := none, aborted := false, tec := x.tec - 1 } s))

/-- CAN_TX_COMPLETE (R539). -/
def execCanTxComplete (ch : CanCh) (s : State) : Host.Outcome State Fault Refusal :=
  finish (if canOn s ch then txComplete ch s else s)

/-- CAN_ARBITRATION_LOST (R539). -/
def execCanArbitrationLost (ch : CanCh) (s : State) : Host.Outcome State Fault Refusal :=
  finish (if canOn s ch && (canChan s ch).cur.isSome then txRetry ch (s.set (canAckRun ch) 0) else s)

/-! ## Errors and bus-off (R541 to R543) -/

/-- The channel goes bus-off: ONE_SHOT objects fail, the others stay pending. -/
def canOff (ch : CanCh) (s : State) : State :=
  let s := setCan ch { canChan s ch with cur := none, aborted := false, released := false } s
  let s := (s.setB (canBusOff ch) true).bump (canFld ch 0x2C 0 32) 1
  let s := (List.range 32).foldl (fun s i =>
    if s.flag (txPend ch i) && oneShot s ch i then txDrop ch i s else s) s
  causeRec C.CAN_BUS_OFF sevWarning [] s

/-- TEC after an error as transmitter: 8 more, but an ACK error of an error-passive channel that sees no dominant bit
in its passive flag changes nothing (R543). -/
def tecBad (x : CanChan) (lec : Nat) (dominant : Bool) : Nat :=
  if lec = 3 ∧ (127 < x.tec ∨ 127 < x.rec_) ∧ dominant = false then x.tec else x.tec + 8

/-- An ACK error is counted; the 64th in a row sets NO_ACK (R543). -/
def ackCount (ch : CanCh) (lec : Nat) (s : State) : State :=
  if lec = 3 then
    let n := min 255 (s.get (canAckRun ch) + 1)
    let s := s.set (canAckRun ch) n
    if 64 ≤ n ∧ s.flag (canNoAck ch) = false then causeRec C.CAN_NO_ACK sevWarning [] (s.setB (canNoAck ch) true)
    else s
  else s.set (canAckRun ch) 0

/-- CAN_ERROR (R541): an error as transmitter or as receiver with its LEC code; `dominant` says whether a dominant bit
was seen during, or right after, the error flag, which costs a receiver 8 in place of 1 (ISO 11898-1, PRESUMED, log entry 51). A
listening channel counts nothing (R540). -/
def canError (ch : CanCh) (tx : Bool) (lec : Nat) (dominant : Bool) (s : State) : State :=
  let s := s.set (canFld ch 0x24 4 3) lec
  if canListen s ch then s
  else
    let s := s.bump (canFld ch 0x28 0 32) 1
    let x := canChan s ch
    let x' := if tx then { x with tec := tecBad x lec dominant } else { x with rec_ := x.rec_ + (if dominant then 8 else 1) }
    let s := canStatus ch (setCan ch x' s)
    let s := if tx then ackCount ch lec s else s
    if 255 < x'.tec then canOff ch s else if tx then txRetry ch s else s

/-- Bus-off ends: the counters are 0 again. -/
def canBack (ch : CanCh) (s : State) : State :=
  let s := setCan ch { canChan s ch with tec := 0, rec_ := 0, released := false } (s.setB (canBusOff ch) false)
  txNext ch (canStatus ch s)

/-- CAN_BUS_OFF_RECOVER (R542): 128 occurrences of 11 recessive bits; a held bus-off waits for BO_RECOVER first. -/
def execCanBusOffRecover (ch : CanCh) (s : State) : Host.Outcome State Fault Refusal :=
  finish (if s.flag (canBusOff ch) && (!s.flag (canFld ch 0 8 1) || (canChan s ch).released) then canBack ch s else s)

/-- A write of CANx_CTRL: TERM is stored, and a 1 to BO_RECOVER releases a held bus-off (R542, R547). -/
def canCtrl (ch : CanCh) (o : Origin) (v : Word) (s : State) : State × WRes :=
  let s := storeWord o (canBase ch + 0x20) (v &&& 0x100) s
  if bitOf v 0 && s.flag (canBusOff ch) then (setCan ch { canChan s ch with released := true } s, .ok) else (s, .ok)

/-- CAN_BO_RECOVER_WRITE (R542). -/
def execCanBoRecoverWrite (p : Path) (ch : CanCh) (value : BitVec 32) (s : State) : Host.Outcome State Fault Refusal :=
  finish (withWrite p (canBase ch + 0x20) value (canCtrl ch (Path.origin p) value) s)

/-! ## Re-initialise and commits (R65, R81, R544) -/

/-- The controller and its error counters are reset, bus-off ends, and every pending object fails; receive objects keep
their frames. -/
def canReinit (ch : CanCh) (s : State) : State :=
  let s := (List.range 32).foldl (fun s i => if s.flag (txPend ch i) then txDrop ch i s else s) s
  let s := s.setWord (canBase ch + 0x24) 0
  setCan ch { canChan s ch with tec := 0, rec_ := 0, cur := none, aborted := false, released := false } s

/-- A commit that disables or re-identifies pending objects drops their frames; `old` are the identifiers before. A
channel that is off or only listens has no frame of its own on the bus (R540, R544). -/
def canCommitted (ch : CanCh) (old : List (Option (Bool × Nat))) (s : State) : State :=
  let s := (List.range 32).foldl (fun s i =>
    if s.flag (txPend ch i) && txIdent s ch i != getAt old i none then txDrop ch i s else s) s
  let s := if canEn s ch && !canListen s ch then s else setCan ch { canChan s ch with cur := none, aborted := false } s
  txNext ch s

def canIdents (s : State) (ch : CanCh) : List (Option (Bool × Nat)) := (List.range 32).map (txIdent s ch)

end Sys2Proof.Machine
end

