-- ==== Sys2Proof/Machine/EstModel.lean ====
section
/-!
DEFINITION. The cell model (R217 to R220): open-circuit voltage, its slope, its inverse and its integral, and the
parameters at a temperature.
-/

namespace Sys2Proof.Machine

/-- Rational square root by integer square root at 10^-9 (DEDUCED, log entry 12). -/
def sqrtQ (x : Rat) : Rat := ((isqrt (x * 1000000000000000000).floor.toNat : Nat) : Rat) / 1000000000

def packOf (s : State) : Nat := s.get F.EST_PACK_PACK

/-! ## Open-circuit voltage (R219) -/

/-- A point of an OCV table at a temperature in °C: linear between columns 10 K apart from −20 °C, the nearest column
outside. -/
def ocvAtPoint (pack branch : Nat) (t : Rat) (i : Nat) : Rat :=
  let x := clampQ 0 7 ((t + 20) / 10)
  let c := min 6 x.floor.toNat
  let a := Config.ocvPoint pack branch c i
  let b := Config.ocvPoint pack branch (c + 1) i
  a + (b - a) * (x - ((c : Nat) : Rat))

/-- Both branches in the hysteresis state `h` (R219): an LFP pack has two. -/
def ocvPointH (pack : Nat) (t h : Rat) (i : Nat) : Rat :=
  let c := ocvAtPoint pack 0 t i
  if pack = 1 then
    let d := ocvAtPoint pack 1 t i
    (c + d) / 2 + h * (c - d) / 2
  else c

/-- The 1 % segment of a SOC in %. -/
def socSegment (soc : Rat) : Nat := min 99 soc.floor.toNat

/-- OCV(SOC, T, h) in mV. -/
def ocv (pack : Nat) (t h soc : Rat) : Rat :=
  let i := socSegment soc
  let a := ocvPointH pack t h i
  a + (ocvPointH pack t h (i + 1) - a) * (soc - ((i : Nat) : Rat))

/-- The slope S in mV per % (R219). -/
def ocvSlope (pack : Nat) (t h soc : Rat) : Rat :=
  let i := socSegment soc
  ocvPointH pack t h (i + 1) - ocvPointH pack t h i

/-- OCV⁻¹ by bisection over 0 to 100 % in `k` halvings (DEDUCED, log entry 42). -/
def ocvInvAux (pack : Nat) (t h v : Rat) : Nat → Rat → Rat → Rat
  | 0, lo, hi => (lo + hi) / 2
  | k + 1, lo, hi =>
    let m := (lo + hi) / 2
    if ocv pack t h m ≤ v then ocvInvAux pack t h v k m hi else ocvInvAux pack t h v k lo m

def ocvInv (pack : Nat) (t h v : Rat) : Rat := ocvInvAux pack t h v 30 0 100

/-- ∫ OCV dSOC from 0 to a SOC, mV·%: exact on the segments (R239). -/
def ocvArea (pack : Nat) (t h soc : Rat) : Rat :=
  let i := socSegment soc
  let whole := (List.range i).foldl (fun a j => a + (ocvPointH pack t h j + ocvPointH pack t h (j + 1)) / 2) 0
  whole + (ocvPointH pack t h i + ocv pack t h soc) / 2 * (soc - ((i : Nat) : Rat))

/-! ## Model impedance (R217) -/

/-- Z_m at `f` Hz in mΩ: Rs, the two RC sections R / (1 + j2πfτ), and W / √(j2πf) = W·(1 − j) / √(4πf). -/
def modelZ (m : Model) (f : Rat) : Phasor :=
  let w := 2 * Config.pi * f
  let rc (r tau : Rat) : Phasor := let d := 1 + w * tau * (w * tau); ⟨r / d, -(r * (w * tau)) / d⟩
  let a := rc m.rFast m.tauFast
  let b := rc m.rSlow m.tauSlow
  let z := m.w / sqrtQ (2 * w)
  ⟨m.rs + a.re + b.re + z, a.im + b.im - z⟩

/-! ## Parameters (R218, R220) -/

/-- The pack defaults. -/
def packModel (pack : Nat) : Model :=
  ⟨Config.packParam pack 0, Config.packParam pack 1, Config.packParam pack 2, Config.packParam pack 3,
    Config.packParam pack 4, Config.packParam pack 5, Config.packTemp pack, 0, 0, 0, 0⟩

def modelOf (s : State) (e : EstPos) : Model := e.fit.getD (packModel (packOf s))

/-- Temperatures in 0.1 °C as °C and in K. -/
def degC (t : Int) : Rat := (t : Rat) / 10
def kelvin (t : Int) : Rat := degC t + 5463 / 20

/-- The factor of parameter `x` from T_fit to T (R220). -/
def tempFactor (pack x : Nat) (tFit t : Int) : Rat :=
  if t = tFit then 1 else Config.exp (Config.packFactor pack x * (1 / kelvin t - 1 / kelvin tFit))

/-- Tracked Rs at T_FIT, and at a temperature, mΩ (R220, R223). -/
def rsAtFit (s : State) (e : EstPos) : Rat := e.rsTrack.getD (modelOf s e).rs

def rsAt (s : State) (e : EstPos) (t : Int) : Rat :=
  rsAtFit s e * tempFactor (packOf s) 0 (modelOf s e).tFit t

def rFastAt (s : State) (e : EstPos) (t : Int) : Rat :=
  (modelOf s e).rFast * tempFactor (packOf s) 1 (modelOf s e).tFit t

def rSlowAt (s : State) (e : EstPos) (t : Int) : Rat :=
  (modelOf s e).rSlow * tempFactor (packOf s) 2 (modelOf s e).tFit t

def wAt (s : State) (e : EstPos) (t : Int) : Rat := (modelOf s e).w * tempFactor (packOf s) 3 (modelOf s e).tFit t

/-- The decay of a section of time constant `tau` over `dt` seconds. -/
def decay (tau dt : Rat) : Rat := Config.exp (-dt / tau)

/-- A first-order section after `dt` seconds at a current of `i` A into `r` mΩ (R217). -/
def section1 (v i r tau dt : Rat) : Rat := let a := decay tau dt; a * v + (1 - a) * (i * r)

/-- V_w's five sections after `dt` seconds; and their sum. -/
def ladderStep (l : List Rat) (i w dt : Rat) : List Rat :=
  (List.range 5).map (fun k => section1 (getAt l k 0) i (w * Config.ladderGain k) (Config.ladderTau k) dt)

def ladderSum (l : List Rat) : Rat := l.foldl (· + ·) 0

end Sys2Proof.Machine
end

