-- ==== Sys2Proof/Machine/BootParts.lean ====
section
/-!
DEFINITION. What the resets leave of the parts of the single chapters (R56): flash, MRAM and write-once storage always,
and what keeps running in a warm reset.
-/

namespace Sys2Proof.Machine

/-- The boot record and the banks (R586, R592). -/
def keepFwu (f : Fwu) : Fwu :=
  { supA := f.supA, supB := f.supB, plnA := f.plnA, plnB := f.plnB, failed := f.failed }

/-- Learned wires and slots are in MRAM (R160, R242). -/
def keepAcq (a : Acq) : Acq := { wires := a.wires, highR := a.highR }
def keepEst (e : Est) : Est := { slotA := e.slotA, slotB := e.slotB }

/-- The instant of the last swap test is in MRAM, as its result is (R629, R635; DESIGN CHOICE, log entry 96). -/
def keepPwr (p : Pwr) : Pwr := { swapAt := p.swapAt }

/-- Transitions and the restart that the lanes, the engines and the supervisor share. -/
def restartCommon (unc : Bool) (s : State) : State :=
  { s with
    acq := keepAcq s.acq
    est := keepEst s.est
    sys := { s.sys with restore := some unc, svcWait := none } }

/-- A warm reset restarts the lanes, the engines and the supervisor. The readings, the mirror and the boards' assignment, SP's work,
the throttle with its timers (R368), the outputs (R446) and the CAN channels go on. -/
def restartParts (s : State) : State :=
  let cells := s.acq.cells
  let owLast := s.acq.owLast
  let s := restartCommon false s
  { s with
    acq := { s.acq with cells := cells, owLast := owLast }
    ring := { s.ring with
      cmds := [], late := [], wadiTest := none, still := none, enumCtx := none, enumWait := false, restoring := none }
    bal := { report := s.bal.report }
    thm := { temps := s.thm.temps, riseAt := s.thm.riseAt, fallAt := s.thm.fallAt }
    dio := { s.dio with warm := true }
    bus := { s.bus with win := [], twsOld := none, twlRun := false, twlCycle := false, twlCycled := false }
    fwu := { keepFwu s.fwu with confirmAt := s.fwu.confirmAt } }

/-- A power-on restarts every part. -/
def powerParts (s : State) : State :=
  let s := restartCommon true s
  { s with ring := {}, bal := {}, thm := {}, dio := {}, bus := {}, fwu := keepFwu s.fwu, pwr := keepPwr s.pwr }

/-- A wake restarts the ZMC; from SHIP the ZSL too, whose feeds are then found again. Boards have run on their own in
OASIS and report (R282). -/
def wakeParts (ship : Bool) (s : State) : State :=
  let s := restartCommon false s
  { s with
    ring := {}, bal := { reportDue := !ship }, thm := {}, dio := {}, bus := {}, fwu := keepFwu s.fwu,
    pwr := if ship then keepPwr s.pwr else s.pwr }

end Sys2Proof.Machine
end

