-- ==== Sys2Proof/Machine/Net.lean ====
section
/-!
DEFINITION. Ethernet and network time (chapter 15): the switch, IPv4 settings, the time map and its servo.
-/

namespace Sys2Proof.Machine

/-! ## Ports and switch -/

/-- The switch forwards: powered, its island running, and past step 2 of start-up (R29, R496). -/
def switchOn (s : State) : Bool := hostPowered s && !ethLost s

/-- LINK_CHANGE (R494, R521): a port's link goes up or down; a disabled port has no link, nor one while the ETH island is
lost (R29). At 1000 Mbit/s a link is full duplex. -/
def execLinkChange (p : EthPort) (up : Bool) (speed : BitVec 2) (duplex : Bool) (s : State) :
    Host.Outcome State Fault Refusal :=
  let i := portIdx p
  let up := up && s.flag (F.ETH_PHY_EN i) && switchOn s
  let was := s.flag (F.ETH_STAT_LINK i)
  let s := ((s.setB (F.ETH_STAT_LINK i) up).set (F.ETH_STAT_SPEED_ACT i) (if up then speed.toNat else 0)).setB
    (F.ETH_STAT_DUPLEX i) (up && (duplex || speed == 3))
  finish (if was != up then raise C.LINK_CHANGE s else s)

/-- Is the VLAN table empty (VLAN-transparent, R498)? -/
def vlanOff (s : State) : Bool := (List.range 16).all (fun i => !s.flag (F.ETH_VLAN_VALID i))

/-- The valid entry of a VID. -/
def vlanEntry (s : State) (vid : Nat) : Option Nat :=
  (List.range 16).find? (fun i => s.flag (F.ETH_VLAN_VALID i) && s.get (F.ETH_VLAN_VID i) == vid)

/-- A frame's priority and VLAN after the ingress rules (R498). -/
def ingressTag (s : State) (i : Nat) (tag : Option (BitVec 3 × BitVec 12)) : Nat × Nat :=
  match tag with
  | none => (s.get (F.ETH_PVID_PCP_DEF i), s.get (F.ETH_PVID_PVID i))
  | some (p, v) => (p.toNat, if v = 0 then s.get (F.ETH_PVID_PVID i) else v.toNat)

/-- The module's own MAC addresses (chapter 20). -/
def ownMac (s : State) (d : BitVec 48) : Bool :=
  d.toNat == join64 (s.get F.ID_MAC1_LO_MAC_LO) (s.get F.ID_MAC1_HI_MAC_HI) ||
    d.toNat == join64 (s.get F.ID_MAC2_LO_MAC_LO) (s.get F.ID_MAC2_HI_MAC_HI)

/-- A drop counter advances; NET_DROP is raised for the drops R529 names. -/
def netDrop (f : Fld) (note : Bool) (s : State) : State :=
  let s := s.bump f 1
  if note then raise C.NET_DROP s else s

/-- A frame count of the present second (R501). -/
def countIn (now limit : Nat) (e : Nat × Nat) : Bool × (Nat × Nat) :=
  let e := if e.1 = now then e else (now, 0)
  if e.2 < limit then (true, (now, e.2 + 1)) else (false, e)

/-- An address that has not aged out (R495). -/
def freshMac (s : State) (m : Mac) : Bool := decide (s.time < m.seen + 300 * sec)

/-- Learn the source address of a frame: up to 1,024 addresses that have not aged out (R495). -/
def learnMac (a : BitVec 48) (port : Nat) (s : State) : State :=
  let rest := s.net.macs.filter (fun m => m.addr != a && freshMac s m)
  if rest.length < 1024 then { s with net := { s.net with macs := ⟨a, port, s.time⟩ :: rest } } else s

/-- The egress of a frame on one port: full queue, or forwarding with the tag the port's VLAN membership asks for; the CPU
port with VID 0 is untagged (R498 to R500). -/
def egress (len : Nat) (dst src : BitVec 48) (raw : Option (Nat × Nat)) (pcp vid : Nat) (full : BitVec 3) (q : Nat)
    (s : State) : State :=
  if full.getLsbD q then netDrop F.ETH_DROP_QUEUE_VALUE true s
  else
    let tag := match vlanEntry s vid with
      | some e =>
        let plain := s.get (F.ETH_VLAN_UNTAG e) / 2 ^ q % 2 == 1 || (q == 2 && s.get F.ETH_CPU_VID == 0)
        if plain then none else some (pcp, vid)
      | none => raw
    s.send (.eth q len dst src tag)

/-- A frame for the CPU port (R497, R499, R501). -/
def toCpu (i len : Nat) (dst src : BitVec 48) (raw : Option (Nat × Nat)) (pcp vid : Nat) (ptp : Bool)
    (full : BitVec 3) (s : State) : State :=
  let want := if s.get F.ETH_CPU_VID = 0 then s.get (F.ETH_PVID_PVID i) else s.get F.ETH_CPU_VID
  if s.st = stRecovery ∧ i = 1 then netDrop F.ETH_DROP_CPU_VALUE false s
  else if vid ≠ want then netDrop F.ETH_DROP_VLAN_VALUE false s
  else if ptp then egress len dst src raw pcp vid full 2 s
  else
    let r := countIn (s.time / sec) 20000 s.net.cpu
    let s := { s with net := { s.net with cpu := r.2 } }
    if r.1 then egress len dst src raw pcp vid full 2 s else netDrop F.ETH_DROP_CPU_VALUE true s

/-- The member ports of a frame's VLAN (R498). -/
def members (s : State) (vid : Nat) : Nat :=
  if vlanOff s then 7 else match vlanEntry s vid with | some e => s.get (F.ETH_VLAN_MEMBER e) | none => 0

/-- The frames of PTP end at the CPU of a boundary clock (R510). -/
def ptpEnds (s : State) : Bool := s.get F.PTP_CFG_PROFILE != 0 && s.get F.PTP_CFG_ROLE == 2 && s.st != stRecovery

/-- The group address of the relay, which every switch takes to its CPU port and never forwards (R594). -/
abbrev relayMac : BitVec 48 := 0x03485A000001

/-- Forward a frame that passed ingress: to the port of a known address, to the CPU for its own, else flooded, as are
multicast and broadcast frames (R495); never out of the port it came in on. -/
def forward (i len : Nat) (dst src : BitVec 48) (raw : Option (Nat × Nat)) (pcp vid : Nat) (ptp : Bool)
    (full : BitVec 3) (s : State) : State :=
  let known := if dst.getLsbD 40 then none else s.net.macs.find? (fun m => m.addr == dst && freshMac s m)
  let all := [0, 1, 2].filter (fun q => q != i && members s vid / 2 ^ q % 2 == 1)
  let outs := if ownMac s dst || dst == relayMac || (ptp && ptpEnds s) then all.filter (· == 2)
    else match known with
      | some m => all.filter (· == m.port)
      | none => all
  outs.foldl (fun s q => if q = 2 then toCpu i len dst src raw pcp vid ptp full s
    else if s.flag (F.ETH_STAT_LINK q) then egress len dst src raw pcp vid full q s else s) s

def frameIn (i len : Nat) (dst src : BitVec 48) (tag : Option (BitVec 3 × BitVec 12)) (ptp : Bool)
    (full : BitVec 3) (s : State) : State :=
  let t := ingressTag s i tag
  let raw := tag.map (fun x => (x.1.toNat, x.2.toNat))
  let refused := !vlanOff s && members s t.2 / 2 ^ i % 2 == 0
  if !switchOn s || !s.flag (F.ETH_STAT_LINK i) then s
  else if 1522 < len then netDrop F.ETH_DROP_SIZE_VALUE false s
  else if refused then netDrop F.ETH_DROP_VLAN_VALUE true s
  else if dst.getLsbD 40 && !ptp then
    let r := countIn (s.time / sec) 10000 (tabGet s.net.storm i (0, 0))
    let s := { s with net := { s.net with storm := tabSet s.net.storm i r.2 } }
    if r.1 then forward i len dst src raw t.1 t.2 ptp full (learnMac src i s)
    else netDrop F.ETH_DROP_STORM_VALUE true s
  else forward i len dst src raw t.1 t.2 ptp full (learnMac src i s)

/-- ETH_FRAME_INGRESS (R494 to R501). `full` says which egress queues of the frame's class are full; how queues drain
is line timing (DESIGN CHOICE, log entry 31). The rate limits count the frames of each whole second of TIME (DEDUCED, log entry 165). -/
def execEthFrameIngress (p : EthPort) (len : Nat) (dst src : BitVec 48) (tag : Option (BitVec 3 × BitVec 12))
    (ptp : Bool) (full : BitVec 3) (s : State) : Host.Outcome State Fault Refusal :=
  finish (frameIn (portIdx p) len dst src tag ptp full s)

/-- MAC_ADDRESS_AGE_OUT (R495): 300 s after it was last seen. -/
def execMacAddressAgeOut (addr : BitVec 48) (s : State) : Host.Outcome State Fault Refusal :=
  finish (match s.net.macs.find? (fun m => m.addr == addr) with
    | some m =>
      let s := s.at (m.seen + 300 * sec)
      { s with net := { s.net with macs := s.net.macs.filter (fun x => x.addr != addr) } }
    | none => s)

/-! ## IPv4 -/

/-- Close every numbered session on UDP (R502). -/
def closeUdp (s : State) : State :=
  (s.cmd.sessions.filter (fun x => match x.src with | .udp _ _ => true | _ => false)).foldl
    (fun s x => closeSession x.id s) s

/-- The IPv4 settings of the registers are in force: the static ones, or a DHCP client without a lease that tries at once
(R502, R524). -/
def useIp (s : State) : State :=
  let dhcp := s.flag F.ETH_IP_CFG_DHCP
  let v (f : Fld) : Nat := if dhcp then 0 else s.get f
  let s := { s with net := { s.net with
    ip := v F.ETH_IP_VALUE, mask := v F.ETH_MASK_VALUE, gw := v F.ETH_GW_VALUE, dhcp := dhcp, dhcpAt := s.time } }
  s.set F.ETH_IP_ACT_VALUE s.net.ip

/-- The IPv4 settings apply together, and the sessions on the old address close (R502). -/
def applyIp (s : State) : State := closeUdp (useIp s)

/-- IP_APPLY (R502): a write of 1 to ETH_IP_CFG.APPLY. -/
def execIpApply (p : Path) (s : State) : Host.Outcome State Fault Refusal :=
  finish (withWrite p 0x4304C (s.word 0x4304C ||| 2) (fun s => (applyIp s, .ok)) s)

/-- DHCP_RETRY (R502): without a lease the client tries every 30 s; a lease gives the address. -/
def execDhcpRetry (lease : Option (BitVec 32 × BitVec 32 × BitVec 32)) (s : State) :
    Host.Outcome State Fault Refusal :=
  finish (if s.net.dhcp && s.get F.ETH_IP_ACT_VALUE == 0 && switchOn s then
    let s := s.at s.net.dhcpAt
    match lease with
    | some (ip, mask, gw) =>
      { s with net := { s.net with ip := ip.toNat, mask := mask.toNat, gw := gw.toNat } }.set F.ETH_IP_ACT_VALUE
        ip.toNat
    | none => { s with net := { s.net with dhcpAt := s.time + 30 * sec } }
  else s)

/-! ## The map and the servo -/

/-- The sync interval in TIME counts (R508). -/
def syncInterval (s : State) : Nat :=
  let l : Int := if s.get F.PTP_CFG_PROFILE = 2 then 0 else s.getI F.PTP_INTV_LOG_SYNC
  if 0 ≤ l then sec * 2 ^ l.toNat else sec / 2 ^ (-l).toNat

/-- N is stepped (R516, R519). -/
def stepTime (n : Nat) (s : State) : State :=
  raise C.TIME_STEP ((mapReplace n s.net.rho s).bump F.PTP_STEP_CNT_VALUE 1)

/-- The servo's new rate at a sample (R514): ρ_I ← ρ_I − KI·θ/T, ρ = clamp(ρ_I − KP·θ/T, ±200 ppm). -/
def servo (theta : Int) (t : Rat) (s : State) : State :=
  let ki := ((s.get F.PTP_SERVO_KI : Nat) : Rat) / 65536
  let kp := ((s.get F.PTP_SERVO_KP : Nat) : Rat) / 65536
  let i := s.net.rhoI - ki * theta / t
  let rho := clampQ (-1 / 5000) (1 / 5000) (i - kp * theta / t)
  let s := { s with net := { s.net with rhoI := i } }
  mapReplace (networkNs s s.time) rho s

/-- The state rules at a sample (R515). -/
def servoState (theta : Int) (s : State) : State :=
  let st := s.get F.PTP_STATUS_STATE
  let ok := decide (theta.natAbs ≤ s.get F.PTP_THRESH_LOCK_NS)
  let far := decide (s.get F.PTP_THRESH_UNLOCK_NS < theta.natAbs)
  let lock := if ok then s.net.lockRun + 1 else 0
  let un := if far then s.net.unlockRun + 1 else 0
  let s := { s with net := { s.net with lockRun := lock, unlockRun := un } }
  if st = 3 then
    if 3 ≤ un then
      raise C.PTP_UNLOCK ({ s with net := { s.net with lockRun := 0, unlockRun := 0 } }.set F.PTP_STATUS_STATE 2)
    else { s with net := { s.net with lastLocked := some s.time, rates := (s.net.rho :: s.net.rates).take 64 } }
  else if 8 ≤ lock then
    let s := (s.set F.PTP_STATUS_STATE 3).set F.PTP_STATUS_SOURCE 1
    raise C.PTP_LOCK { s with net := { s.net with
      lastLocked := some s.time, unlockRun := 0, stepRun := 0, rates := (s.net.rho :: s.net.rates).take 64 } }
  else s.set F.PTP_STATUS_STATE 2

/-- The supervisor handles PTP messages (R497, R512). -/
def ptpRuns (s : State) : Bool := switchOn s && supActs s && s.st != stRecovery

/-- An offset sample (R514 to R516). The interval of a first sample has no predecessor: a free value (DESIGN CHOICE, log entry 3). -/
def offsetSample (theta : Int) (delay : Nat) (s : State) : State :=
  if s.get F.PTP_STATUS_STATE = 0 then s
  else
    let r := match s.net.lastSample with
      | some t => ((s.time - t : Nat), s)
      | none => let f := s.fresh; (f.1 + 1, f.2)
    let t : Rat := ((max r.1 1 * 4 : Nat) : Rat)
    let s := { r.2 with net := { r.2.net with lastSample := some s.time } }
    let s := (s.setI F.PTP_OFFSET_VALUE theta).set F.PTP_DELAY_VALUE delay
    let lim := s.get F.PTP_STEP_STEP_NS
    let big := lim != 0 && decide (lim < theta.natAbs)
    let run : Nat := if big then s.net.stepRun + 1 else 0
    let s := { s with net := { s.net with stepRun := run } }
    let step := big && (s.get F.PTP_STATUS_STATE != 3 || decide (3 ≤ run))
    let s := if step then
        let n := ((networkNs s s.time : Int) - theta).toNat
        let s := stepTime n { s with net := { s.net with stepRun := 0 } }
        addRec sevNotice 0x0E 0x0004 (s32 (-theta)) s
      else servo theta t s
    updateValid (servoState theta (s.set F.PTP_HOLD_S_VALUE 0))

/-- PTP_OFFSET_SAMPLE (R514): a sample available at raw TIME `at_`. -/
def execPtpOffsetSample (at_ : Nat) (theta : Int) (delay : BitVec 32) (s : State) :
    Host.Outcome State Fault Refusal :=
  finish (if ptpRuns s then offsetSample theta delay.toNat (s.at at_) else s)

/-- The state of a port that BMCA gives; 0 where it is no PTP port (R527). -/
def portState (en : Fld) (v : BitVec 4) (s : State) : Nat := if s.flag en then v.toNat else 0

/-- PTP_ANNOUNCE (R515, R527, R528): the outcome of BMCA after an Announce message: the grandmaster, the port states and
the time properties. -/
def execPtpAnnounce (p : EthPort) (gm : BitVec 64) (port1 port2 : BitVec 4) (utc : BitVec 16)
    (utcValid ptpScale : Bool) (s : State) : Host.Outcome State Fault Refusal :=
  let en := s.flag (match p with | .eth1 => F.PTP_CFG_PORT1_EN | .eth2 => F.PTP_CFG_PORT2_EN)
  finish (if ptpRuns s && s.get F.PTP_CFG_PROFILE != 0 && en then
    let old := s.get64 F.PTP_GM_LO_VALUE F.PTP_GM_HI_VALUE
    let s := s.set64 F.PTP_GM_LO_VALUE F.PTP_GM_HI_VALUE gm.toNat
    let s := { s with net := { s.net with lastAnnounce := some s.time } }
    let s := (s.set F.PTP_STATUS_PORT1_STATE (portState F.PTP_CFG_PORT1_EN port1 s)).set F.PTP_STATUS_PORT2_STATE
      (portState F.PTP_CFG_PORT2_EN port2 s)
    let s := s.setI F.PTP_UTC_VALUE utc.toInt
    let s := (s.setB F.PTP_STATUS_UTC_VALID utcValid).setB F.PTP_STATUS_PTP_TS ptpScale
    if old ≠ gm.toNat then raise C.GM_CHANGE s else s
  else s)

/-- PTP_SYNC_TIMEOUT (R515): 4 sync intervals without a usable sample. -/
def execPtpSyncTimeout (s : State) : Host.Outcome State Fault Refusal :=
  finish (match s.net.lastSample with
    | some t => if s.get F.PTP_STATUS_STATE = 3 then enterHoldover (s.at (t + 4 * syncInterval s)) else s
    | none => s)

/-- The announce receipt timeout in TIME counts (R508, R525). -/
def announceLimit (s : State) : Nat :=
  if s.get F.PTP_CFG_PROFILE = 2 then 3 * sec
  else s.get F.PTP_INTV_ANN_TMO * (sec * 2 ^ s.get F.PTP_INTV_LOG_ANN)

/-- ANNOUNCE_TIMEOUT (R515): no Announce message for the announce receipt timeout. -/
def execAnnounceTimeout (s : State) : Host.Outcome State Fault Refusal :=
  finish (match s.net.lastAnnounce with
    | some t =>
      let s := s.at (t + announceLimit s)
      enterHoldover { s with net := { s.net with lastAnnounce := none } }
    | none => s)

/-- HOLD_MAX_EXPIRY (R517): HOLD_MAX seconds after the last LOCKED sample. -/
def execHoldMaxExpiry (s : State) : Host.Outcome State Fault Refusal :=
  finish (match s.net.lastLocked with
    | some t =>
      if s.get F.PTP_STATUS_STATE = 3 then s else updateValid (s.at (t + s.get F.PTP_HOLDMAX_HOLD_MAX * sec))
    | none => s)

/-- A write of PTP_CFG or PTP_INTV restarts the PTP ports; one of PTP_CFG also sends a LOCKED servo to HOLDOVER, any other
to FREE or OFF (R512, R513, R515, and DEDUCED, log entry 165). -/
def ptpCfgWrite (o : Origin) (a : Nat) (v : Word) (s : State) : State × WRes :=
  if a = 0x44000 then
    let prof := fieldOf v 0 2
    if prof = 3 ∨ (prof = 2 ∧ bitOf v 3 = false) then (s, .range)
    else
      let s := storeWord o a (v &&& 0x00FF0373) s
      let s := ptpPorts (enterHoldover s)
      let s := if prof = 0 then s.set F.PTP_STATUS_STATE 0
        else if s.get F.PTP_STATUS_STATE = 4 then s else s.set F.PTP_STATUS_STATE 1
      let net := { s.net with lastSample := none, lastAnnounce := none, lockRun := 0, unlockRun := 0, stepRun := 0 }
      (updateValid { s with net := net }, .ok)
  else (ptpPorts (storeWord o a v s), .ok)

/-- PTP_CFG_WRITE (R513). -/
def execPtpCfgWrite (p : Path) (addr value : BitVec 32) (s : State) : Host.Outcome State Fault Refusal :=
  finish (if addr = 0x44000 ∨ addr = 0x44004 then
    withWrite p addr.toNat value (ptpCfgWrite (Path.origin p) addr.toNat value) s else s)

/-- A write of 1 to PTP_SET_CTRL.GO (R519). -/
def timeSetGo (o : Origin) (s : State) : State × WRes :=
  let st := s.get F.PTP_STATUS_STATE
  let ok := decide (st ≤ 2) && !(s.get F.PTP_STATUS_SOURCE == 1 && s.flag F.PTP_STATUS_VALID)
  if !ok then (writeRejected 0x440CC o s, .locked)
  else if 1000000000 ≤ s.get F.PTP_SET_NS_VALUE then (s, .range)
  else
    let secs := s.get64 F.PTP_SET_SEC_LO_VALUE F.PTP_SET_SEC_HI_VALUE
    let ns := s.get F.PTP_SET_NS_VALUE
    let s := stepTime (secs * 1000000000 + ns) s
    let s := updateValid (s.set F.PTP_STATUS_SOURCE 2)
    (addRec sevNotice 0x0E 0x0010 (u64 secs ++ u32 ns ++ originBytes o) s, .ok)

/-- TIME_SET_GO (R519). -/
def execTimeSetGo (p : Path) (s : State) : Host.Outcome State Fault Refusal :=
  finish (withWrite p 0x440CC 1 (timeSetGo (Path.origin p)) s)

/-- A read of PTP_TIME_NS latches the seconds and privileged-time words (R507). -/
def latchTime (s : State) : State :=
  let n := networkNs s s.time
  let s := (s.set F.PTP_TIME_NS_NS (n % 1000000000)).setB F.PTP_TIME_NS_VALID (timeValid s)
  let s := s.set64 F.PTP_TIME_SEC_LO_VALUE F.PTP_TIME_SEC_HI_VALUE (n / 1000000000)
  s.set64 F.PTP_PRIV_LO_VALUE F.PTP_PRIV_HI_VALUE (n / 4)

/-- TIME_READ_LATCH (R507). -/
def execTimeReadLatch (s : State) : Host.Outcome State Fault Refusal :=
  finish (if hostPowered s then latchTime s else s)

/-- The management tick's count of seconds in HOLDOVER (R528). -/
def holdSeconds (s : State) : State :=
  if s.get F.PTP_STATUS_STATE = 4 then s.set F.PTP_HOLD_S_VALUE ((s.time - s.net.holdSince) / sec) else s

/-- The restart of the raw counter at power-on, brown-out and wake (R503, R517). -/
def timeRestart (s : State) : State :=
  let s := { s with
    time := 0
    net := { s.net with
      rhoI := 0, rho := 0, lockRun := 0, unlockRun := 0, stepRun := 0, rates := [], lastSample := none,
      lastAnnounce := none, lastLocked := none, holdSince := 0 }
    sys := { s.sys with ticks := [] } }
  let s := ((s.set64 F.PTP_MAP_RBASE_LO_VALUE F.PTP_MAP_RBASE_HI_VALUE 0).set64 F.PTP_MAP_NBASE_LO_VALUE
    F.PTP_MAP_NBASE_HI_VALUE 0).set F.PTP_MAP_RATE_VALUE 0
  let s := ((s.set F.PTP_STATUS_SOURCE 0).setB F.PTP_STATUS_VALID false).set F.PTP_RATE_VALUE 0
  s.set F.PTP_STATUS_STATE (if s.get F.PTP_CFG_PROFILE = 0 then 0 else 1)

end Sys2Proof.Machine
end

