-- ==== Sys2Proof/Machine/Images.lean ====
section
/-!
DEFINITION. Images and banks (chapter 18, R586 to R589, R592): headers, verification, the choice of banks at start-up,
and the entry to RECOVERY (R604).
-/

namespace Sys2Proof.Machine

/-- The open-wire tests end with the frames; requests get what has been found (DESIGN CHOICE, log entry 151). -/
def testsCut (s : State) : State :=
  let l := s.acq.owReqs
  let s := { s with acq := { s.acq with tests := [], owReqs := [] } }.setB F.MEAS_STATUS_OW_BUSY false
  l.foldl (fun s x => notifyOpt (some x.ctx) 0x0200 stOk (x.broken.dedup.map u16).flatten s) s

/-- Enumeration starts (R118): readings are invalid until it is done, and no frames run (R65). ADDRESS with number 1 goes
out at port A (R119). -/
def enumStart (c : Option Ctx) (s : State) : State :=
  let bad (x : Cell) : Cell :=
    if x.tagScan = 4 ∧ x.tagPrec = 4 then x else { x with tagScan := 4, tagPrec := 4, seq := x.seq + 1 }
  let s := { s with
    ring := { s.ring with
      enumCtx := c, enumWait := false, still := none, cmds := [], late := [], t0 := none, endBack := true,
      restoring := none, enumFrom := s.time, tokenB := false },
    acq := { s.acq with cells := s.acq.cells.map (fun (e : Nat × Cell) => (e.1, bad e.2)) } }
  let s := ((s.setB F.CVL_STATUS_ENUM_BUSY true).set F.CVL_STATUS_MODE 0).set F.CVL_STATUS_GEN 0
  let s := testsCut (s.setB F.MEAS_STATUS_PREC_ACTIVE false)
  s.send (.packet 0 (addressPacket 0x3F 1))

/-! ## Banks -/

/-- Numbers of the banks: SUP A, SUP B, PLN A, PLN B, and 4 for the RAM of a rescue image. -/
def getBank (s : State) (b : Nat) : Bank :=
  match b with
  | 0 => s.fwu.supA
  | 1 => s.fwu.supB
  | 2 => s.fwu.plnA
  | 3 => s.fwu.plnB
  | _ => s.fwu.rescue

def setBank (b : Nat) (x : Bank) (s : State) : State :=
  match b with
  | 0 => { s with fwu := { s.fwu with supA := x } }
  | 1 => { s with fwu := { s.fwu with supB := x } }
  | 2 => { s with fwu := { s.fwu with plnA := x } }
  | 3 => { s with fwu := { s.fwu with plnB := x } }
  | _ => { s with fwu := { s.fwu with rescue := x } }

/-- VALID bit and version word of a bank (R610, R612). -/
def bankValid (b : Nat) : Fld := ⟨0x51004, b, 1⟩
def bankVer (b : Nat) : Fld := ⟨0x51014 + 4 * b, 0, 32⟩

/-- The active bit of type 1 SUP or 2 PLN, and the number of its active and of its inactive bank. -/
def actFld (typ : Nat) : Fld := if typ = 1 then F.FWU_BANKS_ACT_SUP else F.FWU_BANKS_ACT_PLN
def actBank (s : State) (typ : Nat) : Nat := 2 * (typ - 1) + s.get (actFld typ)
def idleBank (s : State) (typ : Nat) : Nat := 2 * (typ - 1) + (1 - s.get (actFld typ))

/-- The fuse count an image of a type is held against (R589). -/
def fuseFld (typ : Nat) : Fld := if typ = 2 then F.FWU_BANKS_FUSE_PLN else F.FWU_BANKS_FUSE_SUP

/-- Header fields of an image (R587): offset and length. A delivered image has them all 0 (DESIGN CHOICE, log entry 56). -/
def imgNum (x : Bank) (off n : Nat) : Nat := if x.factory then 0 else numAt x.bytes off n
def imgVersion (x : Bank) : Nat := imgNum x 0x08 4
def imgArb (x : Bank) : Nat := imgNum x 0x0C 1

/-- The first check of R588 that an image of a type fails, 0 for none. The transfer check is the caller's. -/
def checkImage (s : State) (typ : Nat) (x : Bank) : Nat :=
  let l := x.bytes
  let head := decide (256 ≤ l.length) && l.take 4 == [0x48, 0x5A, 0x49, 0x4D] && numAt l 4 2 == 1 && numAt l 6 1 == typ &&
    decide (numAt l 7 1 ≤ 3) && numAt l 0x10 4 + 256 == l.length
  let part := numAt l 0x14 4
  let id := s.word 0x800
  let partOk := part / 65536 == fieldOf id 16 16 && decide (part / 256 % 256 ≤ fieldOf id 8 8) && part % 256 == 0
  if x.factory then (if x.bad then 7 else 0)
  else if !head then 2
  else if !partOk then 6
  else if !Config.ed25519 (numAt l 7 1) (l.take 0xC0) ((l.drop 0xC0).take 64) then 4
  else if bvBytes 64 (Config.sha512 (l.drop 256)) != (l.drop 0x20).take 64 then 3
  else if imgArb x < s.get (fuseFld typ) then 5
  else if x.bad then 7
  else 0

def verifies (s : State) (typ b : Nat) : Bool := checkImage s typ (getBank s b) == 0

/-! ## The choice of banks (R592) -/

def fallback (typ b : Nat) (s : State) : State :=
  let s := s.set (actFld typ) (b % 2)
  addRec sevFault 0x10 0x0011 (u8 typ ++ u8 (b % 2) ++ u32 (imgVersion (getBank s b))) s

/-- A chosen bank has verified: its VALID bit and version show it. -/
def markValid (b : Nat) (s : State) : State :=
  (s.setB (bankValid b) true).set (bankVer b) (imgVersion (getBank s b))

/-- A bank that has failed verification. -/
def markInvalid (b : Nat) (s : State) : State := (s.setB (bankValid b) false).set (bankVer b) 0

/-- The bank of one type; none where neither verifies. -/
def chooseBank (typ : Nat) (s : State) : Option State :=
  let a := actBank s typ
  let o := idleBank s typ
  let back := typ == 1 && s.flag F.FWU_STATUS_UNCONFIRMED && s.fwu.failed
  let clear (s : State) : State :=
    if back then
      { s with fwu := { s.fwu with failed := false, confirmAt := none } }.setB F.FWU_STATUS_UNCONFIRMED false
    else s
  if back && verifies s typ o then some (clear (markValid o (fallback typ o s)))
  else if verifies s typ a then some (clear (markValid a s))
  else if verifies s typ o then some (clear (markValid o (fallback typ o (markInvalid a s))))
  else none

/-- Step 4: both types (R52). -/
def chooseBanks (s : State) : Option State :=
  match chooseBank 1 s with
  | none => none
  | some s =>
    match chooseBank 2 s with
    | none => none
    | some s => some (s.set F.SYS_BOOT_BANK (s.get F.FWU_BANKS_ACT_SUP))

/-- PACK_REV follows the PLN image that runs (R258). -/
def packRevShow (s : State) : State := s.set F.EST_PACK_PACK_REV (Config.packRev (getBank s (actBank s 2)).bytes % 256)

/-! ## RECOVERY (R54, R604) -/

/-- The module answers RCP again: a lock-out that ran at the reset starts afresh (R483). -/
def answerRcp (s : State) : State :=
  if s.cmd.lockPending then
    { s with cmd := { s.cmd with lockPending := false, lockEnd := some (s.time + 60 * sec) } }.setB F.AUTH_STATUS_LOCKOUT
      true
  else s

/-- The address of the CPU port in RECOVERY: 169.254.74.20 (R605). -/
abbrev linkLocalIp : Nat := 0xA9FE4A14

/-- The ROM enters RECOVERY: ring off, direct mode with cause 0x01 (R24), one record; the CPU port takes the link-local
address (R605). -/
def enterRecovery (cause : Nat) (s : State) : State :=
  let s := { s with sys := { s.sys with supRuns := false, recoveryReq := false, svcWait := none, holdEnd := none } }
  let s := openAll ((s.setB F.SYS_STATE_HOLD false).set F.ETH_IP_ACT_VALUE linkLocalIp)
  let s := ((s.set F.CVL_STATUS_MODE 0).set F.CVL_STATUS_GEN 0).setB F.CVL_STATUS_ENUM_BUSY false
  let s := changeState stRecovery 0x09 cause inside s
  let s := addRec sevWarning 0x10 0x0013 (u8 cause ++ u8 (s.get F.SYS_BOOT_FAIL_COUNT)) s
  enterDirect 1 (answerRcp s)

end Sys2Proof.Machine
end

