-- ==== Sys2Proof/Machine/Boot.lean ====
section
/-!
DEFINITION. Resets and starts (R52 to R58, R66, R81, R95): what each reset keeps, warm reset, wake, power-on, and a
failed boot.
-/

namespace Sys2Proof.Machine

/-- What a reset leaves of a word: the fields whose keep level reaches the reset's, the others at their reset
values (R56; levels in RegMap). -/
def keepWord (level a : Nat) (w : Word) : Word :=
  match findReg a with
  | some r => r.flds.foldl (fun acc f =>
      if level ≤ f.keep then withField acc f.lo (f.hi - f.lo + 1) (fieldOf w f.lo (f.hi - f.lo + 1)) else acc)
      (resetWord a)
  | none => 0

/-- Every register after a reset; all shadows are discarded, so each equals its active set at the token that stands
then (R81, R146). -/
def resetRegs (level : Nat) (s : State) : State :=
  let regs := (s.regs.map (fun e => (e.1, keepWord level e.1 e.2))).filter (fun e => e.2 != resetWord e.1)
  let s := { s with regs := regs, shadow := [] }
  { s with sys := { s.sys with cleanTok := allBlocks.map (fun b => (blockIdx b, s.get (shToken b))) } }

/-- Requests in flight are lost without a reply (R57, R58): what runs for them goes on or ends as the reset has it, and
nobody is told. -/
def forgetRequests (s : State) : State :=
  { s with
    sys := { s.sys with
      runCtx := none, sleep := none, snapCtx := [], stop := s.sys.stop.map (fun x => { x with ctx := none }) }
    ctl := { s.ctl with closeCtx := [] }
    eis := { s.eis with
      meas := s.eis.meas.map (fun m => { m with ctx := none }), pulse := s.eis.pulse.map (fun p => { p with ctx := none })
      closing := s.eis.closing.map (fun m => { m with ctx := none }) }
    disp := { s.disp with run := s.disp.run.map (fun r => { r with ctx := none }) }
    safe := { s.safe with
      scsCtx := [], rearm := none, test := s.safe.test.map (fun t => { t with ctx := none }) }
    evr := { s.evr with clear := none } }

/-- A lock-out that runs at a reset is kept in MRAM (R483); sessions, commands and mailbox contents are lost (R58). -/
def resetCmd (s : State) : State :=
  let run := s.cmd.lockPending || s.cmd.lockEnd.any (fun t => decide (s.time < t))
  { s with cmd := { keys := s.cmd.keys, failStreak := s.cmd.failStreak, lockPending := run } }

/-- The restart of engines and supervisor common to every reset: nothing of the supervisor's and the engines' work
survives but what MRAM and the always-powered parts keep. The zero instant of the start-up that follows is that of the
reset, a warm one too (DESIGN CHOICE, log entry 139: R52 gives zero instants for power and wakes only). -/
def restartCore (s : State) : State :=
  let s := resetCmd s
  { s with
    sys := { s.sys with
      supRuns := false, runCtx := none, stop := none, sleep := none, posts := [], commitBy := [], commitAt := [],
      snapCtx := [],
      snapReq := false, rearmEnd := 0, bootZero := s.time, bootWait := 0 }
    safe := { s.safe with zslOld := none }
    ctl := { fb := s.ctl.fb, coulomb := s.ctl.coulomb, eChg := s.ctl.eChg, eDis := s.ctl.eDis,
             meanStr := s.ctl.meanStr, meanAux := s.ctl.meanAux, meanV := s.ctl.meanV }
    eis := { result := s.eis.result, steps := s.eis.steps }
    disp := { recipes := s.disp.recipes, grades := s.disp.grades }
    net := { s.net with macs := s.net.macs } }

/-- A hand-over that has not yet changed the owner is cut (R600, result 6). -/
def handoverCut (s : State) : State :=
  if s.fwu.ho.isSome then
    ({ s with fwu := { s.fwu with ho := none } }.set F.FWU_LAST_HO_RES 6).set F.FWU_STATUS_HO_STATE 0
  else s

/-! ## Start-up (R52 to R54) -/

/-- Step 5: the demands that the ZSL registered before the supervisor ran get their causes and records (R44). -/
def reportBoot (s : State) : State :=
  s.sys.bootDemands.foldl (fun s code => demandReport code s) { s with sys := { s.sys with bootDemands := [] } }

/-- Step 6: a latch of SP in MRAM or of the ZSL is read and set on both sides; LAST_CAUSE takes the demand of an OASIS
wake (R50, R52, R131). -/
def readLatches (s : State) : State :=
  let s := match s.sys.oasisDemand with | some code => noteDemand code s | none => s
  if s.flag F.SAFE_STATUS_SP_LATCH || s.flag F.SAFE_STATUS_ZSL_LATCH then setLatches s else s

/-- Step 5: the supervisor starts, RCP opens, and the PTP ports start afresh (R512); step 6: the recorder's index is complete (R576) and the latches are
read; the ring is enumerated, but where the hardware keep-alive scan runs it (R125). -/
def supStart (s : State) : State :=
  let s := answerRcp <| ptpPorts <| useIp { s with sys := { s.sys with supRuns := true, svcWait := none } }
  let s := readLatches (reportBoot (s.setB F.EVR_STATUS_READY true))
  let s := { s with safe := { s.safe with spBeat := true, zslBeat := true }, pwr := { s.pwr with loaded := true } }
  let s := lanesReady true (packRevShow s)
  if keepAliveRuns s then s else enumStart none s
where
  keepAliveRuns (s : State) : Bool := s.get F.CVL_STATUS_MODE == 3 && s.get F.CVL_STATUS_GEN != 0

/-- A failed boot is counted and recorded (R53, R568). -/
def bootCount (step : Nat) (s : State) : State :=
  let s := supFail (s.set F.SYS_BOOT_FAIL_COUNT (min 3 (s.get F.SYS_BOOT_FAIL_COUNT + 1)))
  addRec sevFault 0x00 0x0010 (u8 step ++ u8 (s.get F.SYS_BOOT_FAIL_COUNT)) s

/-- Steps 2 to 5 from the boot ROM on: a recovery condition, a wait for SERVICE_REQ, or the images; a boot that fails
for its images starts again at step 2, a boot restart (R56, R61). The first argument bounds the failures: the third enters
RECOVERY. -/
def romStart : Nat → Bool → State → State
  | 0, _, s => enterRecovery 2 s
  | n + 1, req, s =>
    if 3 ≤ s.get F.SYS_BOOT_FAIL_COUNT then enterRecovery 2 s
    else if s.sys.recoveryReq then enterRecovery 3 s
    else if req then { s with sys := { s.sys with svcWait := some s.time } }
    else
      match chooseBanks s with
      | some s => supStart s
      | none => romStart n req ((bootCount 4 s).setB F.SYS_RESET_CAUSE_WARM true)

/-- Banks that do not read without error. -/
def badBanks (bad : BitVec 4) (s : State) : State :=
  (List.range 4).foldl (fun s b => if bad.getLsbD b then setBank b { getBank s b with bad := true } s else s) s

/-- The islands that run on their own show it once the rails have settled (R42, R52); the Caravan clocks follow with the
links. -/
def clocksUp (s : State) : State :=
  let own := 0xF9F &&& (0xFFF ^^^ s.sys.clkLost)
  s.set F.SYS_CLK_STATUS_RUNNING (s.get F.SYS_CLK_STATUS_RUNNING ||| own)

/-- The boot ROM's checks of identity and calibration at step 2 (R644). -/
def wordsCrc (s : State) (a n : Nat) : Nat :=
  crc32c ((List.range n).map (fun i => u32 (s.word (a + 4 * i)).toNat)).flatten

def idCheck (s : State) : State :=
  (s.setB F.ID_STATUS_ID_OK (wordsCrc s 0x800 15 == s.get F.ID_CRC_VALUE)).setB F.ID_STATUS_CAL_OK
    (wordsCrc s 0xC00 128 == s.get F.ID_CAL_CRC_VALUE)

/-- A start-up from step 2. -/
def bootFrom (b : BootPins) (s : State) : State := romStart 4 b.svcReq (badBanks b.bad (idCheck (clocksUp s)))

/-! ## Warm resets -/

/-- Step 1 and 2 of a warm reset (R58), also of a recovery entry and a boot restart (R56, R57): flush, open the loop,
hold the contactors, restart; SP, the ZSL, TIME, the keep-alive scan and what R56 lists keep running. Requests in
flight are lost first, so that nothing that ends here replies. A hold that runs already keeps its end (DESIGN CHOICE,
log entry 137). -/
def warmRestart (hold : Bool) (s : State) : State :=
  let s := flushAll (ptpStop (handoverCut (forgetRequests s)))
  let s := loopOpen 0x0B (abandonClose (recipeEnd 6 s))
  let s := if hold && !(s.flag F.SYS_STATE_HOLD) then startHold s else s
  let old := s.st
  let s := restartParts (restartCore (resetRegs 1 s))
  let s := if s.get F.CVL_STATUS_MODE = 0 then s else s.set F.CVL_STATUS_MODE 3
  let s := s.set F.SYS_STATE_STATE old
  s.setB F.SYS_RESET_CAUSE_WARM true

/-- A boot that fails after step 5 (R53): as a warm reset, then from step 2. -/
def bootFail (step : Nat) (b : BootPins) (s : State) : State := bootFrom b (warmRestart true (bootCount step s))

/-- A warm reset (R58): BOOT, the images of the active banks, and steps 5 to 9. -/
def warmReset (b : BootPins) (s : State) : State :=
  let s := changeState stBoot 0x12 0 inside (warmRestart true s)
  match chooseBanks (badBanks b.bad s) with
  | some s => supStart s
  | none => romStart 4 b.svcReq (bootCount 4 s)

/-! ## Power-on and wake -/

/-- The ZSL and SP after a power-on or a wake from SHIP: all contactors released, latches as MRAM keeps them
(R50, R66). -/
def safePower (s : State) : State := { s with safe := {} }

/-- Power-on and brown-out reset (R56): level 4 keeps only MRAM and write-once storage; the power-cycle count advances
(R565). After a brown-out the module stays in reset until a feed is present. -/
def powerReset (brownOut : Bool) (s : State) : State :=
  let s := powerParts (safePower (restartCore (resetRegs 4 s)))
  let s := timeRestart s
  let s := { s with
    eis := {}
    disp := { recipes := s.disp.recipes }
    ctl := { coulomb := s.ctl.coulomb, eChg := s.ctl.eChg, eDis := s.ctl.eDis }
    net := {}
    evr := { s.evr with buffer := [], clear := none }
    sys := { s.sys with
      powered := !brownOut, pwrCycles := s.sys.pwrCycles + 1, bootZero := 0, holdEnd := none, wakeAt := none,
      clkLost := 0, bootDemands := [], oasisDemand := none, ticks := [] } }
  let s := (s.setB F.SYS_RESET_CAUSE_POR (!brownOut)).setB F.SYS_RESET_CAUSE_BROWNOUT brownOut
  s.set F.SYS_STATE_STATE stBoot

/-- What a wake from OASIS leaves of chapter 12's state: SP restarts with the ZMC, the ZSL's latches and its safety-input
logic go on (R56, R66). -/
def keepZsl (x : Safe) : Safe := { bothOpen0 := x.bothOpen0, bothOpen1 := x.bothOpen1, backupAt := x.backupAt }

/-- A wake from SHIP or OASIS into BOOT with its source (R46, R49, R51, R56, R95): the ZMC restarts, from SHIP the ZSL
too, and start-up runs. -/
def wake (b : BootPins) (src : Nat) (s : State) : State :=
  let old := s.st
  let ship := old = stShip
  let s := resetRegs (if ship then 3 else 2) s
  let s := wakeParts ship (restartCore s)
  let s := { s with safe := if ship then {} else keepZsl s.safe }
  let s := timeRestart s
  let s := { s with
    eis := {}
    disp := { recipes := s.disp.recipes }
    net := {}
    evr := { s.evr with buffer := [], clear := none }
    sys := { s.sys with bootZero := 0, holdEnd := none, wakeAt := none, clkLost := 0, ticks := [] } }
  let s := (s.setB F.SYS_RESET_CAUSE_POR false).setB
    (if ship then F.SYS_RESET_CAUSE_WAKE_SHIP else F.SYS_RESET_CAUSE_WAKE_OASIS) true
  let s := (s.set F.SYS_AON_STATUS_WAKE_SRC src).set F.SYS_STATE_STATE old
  let s := changeState stBoot (if src = 4 then 0x0E else 0x06) (if src = 4 then s.sys.oasisDemand.getD 0 else src) inside
    s
  bootFrom b s

/-- A demand that the ZSL registers in OASIS (R46, R131): its latch sets, the contactors are already open, and the
module wakes, with SERVICE_REQ released (DEDUCED, log entry 57). -/
def oasisDemand (code : Nat) (s : State) : State :=
  let s := (s.setB F.SAFE_STATUS_ZSL_LATCH true).setB F.SYS_STATE_ISO_LATCH true
  wake ⟨false, 0⟩ 4 { s with sys := { s.sys with oasisDemand := some code } }

/-- An SEI demand in any state (R44, R46): in SHIP nothing watches, in OASIS the ZSL does. -/
def seiDemand (code : Nat) (s : State) : State :=
  if s.st = stShip || !s.sys.powered then s else if s.st = stOasis then oasisDemand code s else sei code s

end Sys2Proof.Machine
end

