-- ==== Sys2Proof/Machine/Safe.lean ====
section
/-!
DEFINITION. Protection and safety functions (chapter 12): SP's protection tick, the safety inputs, the contactors with
their tests and checks, and restart after isolation.
-/

namespace Sys2Proof.Machine

/-! ## Cell limits and the protection limit -/

/-- CELL_OV and CELL_UV in 0.01 mV. -/
def cellOv (s : State) : Int := 100 * (s.get F.SAFE_CELL_V_CELL_OV : Nat)
def cellUv (s : State) : Int := 100 * (s.get F.SAFE_CELL_V_CELL_UV : Nat)

/-- A limit run starts at its first reading beyond, goes on while every valid reading is beyond, and ends at one
within (R400). -/
def limitRun (beyond : Bool) (now n : Nat) (l : List (Nat × Nat)) : List (Nat × Nat) :=
  if beyond then (if l.any (fun e => e.1 == n) then l else tabSet l n now) else tabDel l n

/-- SP takes one valid chain reading of a position (R400). -/
def spReading (n : Nat) (v : Int) (s : State) : State :=
  { s with safe := { s.safe with
    ovRun := limitRun (decide (cellOv s < v)) s.time n s.safe.ovRun,
    uvRun := limitRun (decide (v < cellUv s)) s.time n s.safe.uvRun } }

/-- An invalid frame of a position does not count toward CELL_DEB: the start of its run moves on by the frame or scan
(R400). -/
def runSkip (s : State) (l : List (Nat × Int)) (run : List (Nat × Nat)) : List (Nat × Nat) :=
  let per := if isC1 s then 10 * ms else 15625
  run.map (fun (e : Nat × Nat) => if l.any (fun x => x.1 == e.1) then e else (e.1, e.2 + per))

/-- SP takes the valid readings of one frame: limit runs, and the highest and lowest for the taper (R400, R401). -/
def spFrame (l : List (Nat × Int)) (s : State) : State :=
  let s := { s with safe := { s.safe with ovRun := runSkip s l s.safe.ovRun, uvRun := runSkip s l s.safe.uvRun } }
  let s := l.foldl (fun s e => spReading e.1 e.2 s) s
  match l with
  | [] => s
  | e :: t =>
    let hi := t.foldl (fun m x => max m x.2) e.2
    let lo := t.foldl (fun m x => min m x.2) e.2
    { s with safe := { s.safe with
      hiSum := s.safe.hiSum + hi, loSum := s.safe.loSum + lo, hiLoN := s.safe.hiLoN + 1 } }

/-- SP takes a board's highest valid NTC at a mirror refresh, 0.1 °C (R400). -/
def spTemp (board : Nat) (t : Int) (s : State) : State :=
  let ot := signed 16 (s.get F.SAFE_CELL_T_CELL_OT)
  let n := if ot ≤ t then tabGet s.safe.otRun board 0 + 1 else 0
  { s with safe := { s.safe with otRun := if n = 0 then tabDel s.safe.otRun board else tabSet s.safe.otRun board n } }

/-- Has a run lasted CELL_DEB ms? -/
def runOver (s : State) (l : List (Nat × Nat)) : Bool :=
  l.any (fun e => decide (e.2 + s.get F.SAFE_CELL_DEB_CELL_DEB * ms ≤ s.time))

/-- Cell protection acts: a SAFE set is committed, in an awake state or during a hold (R44, R391). -/
def cellActs (s : State) : Bool :=
  s.flag F.SAFE_STATUS_SET_VALID && (s.awake || (s.st == stBoot && s.flag F.SYS_STATE_HOLD))

/-- The no-reading period in TIME counts (R113). -/
def noReadingPeriod (s : State) : Nat := if isC1 s then 30 * ms else 10 * ms

/-- The last sample instant of a valid reading, or ENUM_DONE where there was none (DEDUCED, log entry 34). -/
def lastReading (s : State) (n : Nat) : Nat := (getCell s n).lastValid.getD s.ring.enumAt

/-- Positions without a reading count as at a cell limit while a contactor is closed or a hold runs (R113). -/
def readingsCount (s : State) : Bool :=
  anyClosed s || s.flag (konFb 0) || s.flag (konFb 1) || s.flag (konFb 2) || s.flag F.SYS_STATE_HOLD

/-- Is a configured position without a valid reading for the period of R113? -/
def noReading (s : State) : Bool :=
  (positions s).any (fun n => decide (lastReading s n + noReadingPeriod s ≤ s.time))

/-- The cell checks of a protection tick (R113, R391, R400). -/
def cellCheck (s : State) : State :=
  let ov := runOver s s.safe.ovRun
  let uv := runOver s s.safe.uvRun
  let ot := s.safe.otRun.any (fun e => decide (2 ≤ e.2))
  let no := readingsCount s && noReading s
  let s := s.setB F.SAFE_STATUS_CELL_LIMIT ((s.flag F.SAFE_STATUS_SET_VALID && (ov || uv || ot)) || no)
  if cellActs s && ov then sei 0x05 s
  else if cellActs s && uv then sei 0x06 s
  else if cellActs s && ot then sei 0x07 s
  else if no then sei 0x08 s
  else s

/-- A hardware limit in A (R36). -/
def hwChg (s : State) : Rat := ((s.get F.SAFE_HWLIM_CHG_HWLIM : Nat) : Rat) / 1000
def hwDis (s : State) : Rat := ((s.get F.SAFE_HWLIM_DIS_HWLIM : Nat) : Rat) / 1000

/-- The taper factor k from a margin in mV (R401). -/
def taper (s : State) (margin : Rat) : Rat :=
  let dv := s.get F.SAFE_CELL_DEB_TAPER_DV
  if dv = 0 then 1 else clampQ 0 1 (margin / (dv : Rat))

/-- The protection limits of a tick (R401), in A. Without a valid reading in the tick the taper is 1 (DEDUCED, log entry 23). -/
def protLimits (s : State) : Rat × Rat :=
  let n := s.safe.hiLoN
  let hi : Rat := (s.safe.hiSum : Rat) / (n : Rat) / 100
  let lo : Rat := (s.safe.loSum : Rat) / (n : Rat) / 100
  let kc := if n = 0 then 1 else taper s ((cellOv s : Rat) / 100 - hi)
  let kd := if n = 0 then 1 else taper s (lo - (cellUv s : Rat) / 100)
  let dc := if s.safe.softOv then hwChg s * ((s.get F.SAFE_DERATE_DERATE_CHG : Nat) : Rat) / 100 else hwChg s
  let dd := if s.safe.softUv then hwDis s * ((s.get F.SAFE_DERATE_DERATE_DIS : Nat) : Rat) / 100 else hwDis s
  (minQ (minQ (hwChg s * kc) dc) (if s.safe.cold then 0 else hwChg s), minQ (hwDis s * kd) dd)

def protUpdate (s : State) : State :=
  let l := protLimits s
  let s := (s.set F.SAFE_PLIM_CHG_VALUE (roundQ (l.1 * 1000)).toNat).set F.SAFE_PLIM_DIS_VALUE
    (roundQ (l.2 * 1000)).toNat
  { s with safe := { s.safe with hiSum := 0, loSum := 0, hiLoN := 0 } }

/-! ## Current: means, envelope, SCS, hold -/

/-- The 1 ms means of the tick that ends (R398). -/
def rollMeans (s : State) : State :=
  let n := s.ctl.sumN
  if n = 0 then s
  else { s with ctl := { s.ctl with
    meanStr := s.ctl.sumStr / (n : Rat), meanAux := s.ctl.sumAux / (n : Rat), meanV := s.ctl.sumV / (n : Rat),
    sumStr := 0, sumAux := 0, sumV := 0, sumN := 0 } }

/-- ENV_TOL in A. -/
def envTol (s : State) : Rat := (s.get F.SAFE_ENV_ENV_TOL : Nat)

/-- The hardware limit of the direction of the current (R425). -/
def hwDirection (s : State) : Rat :=
  let i := if s.flag F.CTL_FB_ISD_OK then s.ctl.meanStr else s.ctl.meanAux
  if 0 ≤ i then hwChg s else hwDis s

/-- The current envelope of a tick (R391, R425). -/
def envCheck (s : State) : State :=
  let out := decide (hwDirection s + envTol s < meanMax s)
  let n := if out then s.safe.envRun + 1 else 0
  let s := { s with safe := { s.safe with envRun := n } }
  if s.flag F.SAFE_STATUS_SET_VALID ∧ s.awake ∧ s.get F.SAFE_ENV_ENV_T ≤ n then startScs 0x09 0x0E 0x09 s else s

/-- E(t) of R398, `k` ticks after t_d, in A. -/
def scsEnvelope (s : State) (x : Scs) (k : Nat) : Rat :=
  let rate := ((s.get F.SAFE_SCS_SCS_RATE : Nat) : Rat) / 10
  if k ≤ 2 then x.id + envTol s
  else maxQ (envTol s) (x.id + envTol s - 4 / 5 * rate * ((k : Rat) - 2))

/-- SP's watch over an SCS at a tick after t_d (R398). -/
def scsCheck (s : State) : State :=
  match s.safe.scs with
  | none => s
  | some x =>
    let k := s.safe.tick - x.td
    if k = 0 then s
    else
      let m := meanMax s
      let low := if m < iZero s then x.low + 1 else 0
      let s := { s with safe := { s.safe with scs := some { x with low := low } } }
      if 2 ≤ low then sei 0x0B s
      else if scsEnvelope s x k < m then sei 0x0C s
      else if 200 ≤ k then sei 0x0C s
      else s

/-- A registered demand begins its SCS at this tick (R398). -/
def scsTake (s : State) : State :=
  match s.safe.scsDemand with
  | some code => startScs code 0x0E code { s with safe := { s.safe with scsDemand := none } }
  | none => s

/-- The current watch of a contactor hold (R58): |I| at or above I_zero for 10 ms. -/
def holdCheck (s : State) : State :=
  if s.flag F.SYS_STATE_HOLD then
    let n := if iZero s ≤ meanCurrent s then s.safe.holdRun + 1 else 0
    let s := { s with safe := { s.safe with holdRun := n } }
    if 10 ≤ n then sei 0x13 s else s
  else s

/-! ## Precharge (R321) -/

/-- I_0 = V_str / R_PRE in A. -/
def preI0 (s : State) : Rat := s.ctl.meanV / (((s.get F.CTL_PRE_R_PRE : Nat) : Rat) / 10)

def preFail (result : Nat) (s : State) : State :=
  let s := { s with ctl := { s.ctl with pre := none } }.set F.CTL_STATUS_PRE_RESULT result
  let s := addRec sevWarning 0x08 0x0010 (u8 result) (openAll s)
  runDone stForbids (changeState stStandby 0x0B result inside s)

def preDone (s : State) : State :=
  let s := { s with ctl := { s.ctl with pre := none } }.set F.CTL_STATUS_PRE_RESULT 1
  closeContactor 0 (raise C.PRECHARGE_DONE s)

/-- CE0's judgement of precharge at a protection tick. -/
def preCheck (s : State) : State :=
  match s.ctl.pre with
  | none => s
  | some p =>
    let m := absQ s.ctl.meanStr
    let seen := p.seen || decide (preI0 s / 4 ≤ m)
    let s := { s with ctl := { s.ctl with pre := some { p with seen := seen } } }
    if s.flag F.CTL_FB_PRIMARY_LOST then preFail 4 s
    else if s.time < p.tp + 10 * ms then s
    else if !seen then preFail 2 s
    else if m ≤ (1 - ((s.get F.CTL_PRE_PRE_THR : Nat) : Rat) / 100) * preI0 s then preDone s
    else if p.tp + s.get F.CTL_PRE_PRE_TMAX * (100 * ms) ≤ s.time then preFail 3 s
    else s

/-! ## Stops -/

/-- A controlled stop not complete within 5 s enters SAFE_STOP as a supervisor's SCS request (R48, R390). -/
def stopTimeout (s : State) : State :=
  match s.sys.stop with
  | some x =>
    match x.deadline with
    | some t => if s.st = stRun then startScs 0x11 0x0D 0 (s.at t) else s
    | none => s
  | none => s

/-- A stop that waits for |I| < I_zero (R48). -/
def stopCheck (s : State) : State :=
  match s.sys.stop with
  | some x =>
    match x.phase with
    | .ramp =>
      if !s.flag F.CTL_STATUS_CLOSED && decide (meanCurrent s < iZero s) then stopOpen x.deadline x.ctx s
      else if x.deadline.any (fun t => decide (t ≤ s.time)) then stopTimeout s
      else s
    | _ => s
  | none => s

/-! ## Safety inputs -/

/-- T_DISC of an input (R423). -/
def tDisc (s : State) (i : Nat) : Nat := s.get (if i = 0 then F.SAFE_SI_DISC_T_DISC0 else F.SAFE_SI_DISC_T_DISC1)
def discCnt (i : Nat) : Fld := if i = 0 then F.SAFE_SI_STATUS_DISC_CNT0 else F.SAFE_SI_STATUS_DISC_CNT1

/-- The latch of a discrepancy fault (R407). -/
def discLatch (i : Nat) (s : State) : State :=
  if s.flag (siDisc i) then s
  else
    let s := { s.setB (siDisc i) true with
      safe := if i = 0 then { s.safe with bothOpen0 := false } else { s.safe with bothOpen1 := false } }
    causeRec C.SI_DISCREPANCY sevFault (u8 i) s

/-- The discrepancy count of an input at a tick, and the release of its latch (R406, R407). The 9-bit count stays at its
highest value (DEDUCED, log entry 162). -/
def discCheck (i : Nat) (s : State) : State :=
  if siUsed s i then
    let a := s.flag (siChan (2 * i))
    let b := s.flag (siChan (2 * i + 1))
    let n := if a == b then 0 else min 511 (s.get (discCnt i) + 1)
    let s := s.set (discCnt i) n
    let both := !a && !b
    let s := { s with safe := if i = 0 then { s.safe with bothOpen0 := s.safe.bothOpen0 || both }
      else { s.safe with bothOpen1 := s.safe.bothOpen1 || both } }
    let s := if n = tDisc s i + 1 then discLatch i s else s
    if s.flag (siDisc i) && a && b && (if i = 0 then s.safe.bothOpen0 else s.safe.bothOpen1) then
      s.setB (siDisc i) false
    else s
  else s

/-- A safety input begins to demand (R390, R399, R404): SEI, or in SCS mode the demand to SP with the ZSL's backup. -/
def siDemand (i : Nat) (s : State) : State :=
  let s := raise C.SI_DEMAND s
  if siMode s i && (s.st == stRun || s.st == stSafeStop) then
    let s := { s with safe := { s.safe with backupAt := some (s.safe.backupAt.getD (s.time + 405 * ms / 2)) } }
    demandScs (1 + i) s
  else seiDemand (1 + i) s

/-- The inputs that demand now and did not before are taken up (R404). -/
def newDemands (old s : State) : State :=
  [0, 1].foldl (fun s i => if siDemanding s i && !siDemanding old i then siDemand i s else s) s

/-- The ZSL takes its part of the committed SAFE set (R419). -/
def zslTake (s : State) : State := { s with safe := { s.safe with zslOld := none } }

/-- A channel changes; a demand that it starts is taken up (R404, R405). -/
def chanChange (ch : Nat) (f : State → State) (s : State) : State :=
  let i := ch / 2
  let was := siDemanding s i
  let s := f s
  if siDemanding s i && !was && s.st != stShip then siDemand i s else s

/-- SAFETY_INPUT_OPEN (R404): the channel has been off for 2.0 ms. -/
def execSafetyInputOpen (ch : SiCh) (s : State) : Host.Outcome State Fault Refusal :=
  finish (chanChange (chIdx ch) (fun s => s.setB (siChan (chIdx ch)) false) s)

/-- SAFETY_INPUT_RELEASE (R404): the channel has been on for 10 ms. -/
def execSafetyInputRelease (ch : SiCh) (s : State) : Host.Outcome State Fault Refusal :=
  finish (s.setB (siChan (chIdx ch)) true)

/-- TEST_PULSE_FAULT (R405): with test pulses enabled, a channel's fault is recorded and it counts as open. -/
def execTestPulseFault (ch : SiCh) (s : State) : Host.Outcome State Fault Refusal :=
  let k := chIdx ch
  let on := siTp s (k / 2) && s.st != stShip
  finish (if on && !s.flag (siTpf k) then
    chanChange k (fun s => causeRec C.TEST_PULSE_FAULT sevFault (u8 k) (s.setB (siTpf k) true)) s
  else s)

/-- TEST_PULSE_FAULT_CLEAR (R405): 1 s of correct pulses while the channel reads on. -/
def execTestPulseFaultClear (ch : SiCh) (s : State) : Host.Outcome State Fault Refusal :=
  let k := chIdx ch
  finish (if s.flag (siChan k) then s.setB (siTpf k) false else s)

/-- DISCREPANCY_FAULT (R406): the counter has reached T_DISC + 1. -/
def execDiscrepancyFault (si1 : Bool) (s : State) : Host.Outcome State Fault Refusal :=
  let i := if si1 then 1 else 0
  finish (if siUsed s i ∧ tDisc s i + 1 ≤ s.get (discCnt i) then discLatch i s else s)

/-! ## Coil test pulses (R414) -/

/-- The pulse SP schedules at this tick of its second. -/
def pulseStart (c : Nat) (s : State) : State :=
  if s.safe.tick % 1000 = 100 + 333 * c ∧ energised s c ∧ s.flag (konCmd c) ∧ s.safe.pulse = none then
    let high := s.safe.tick / 1000 % 2 = 0
    let s := s.setB (if high then konHs c else konLs c) false
    { s with safe := { s.safe with pulse := some ⟨c, high, s.time + 400 * us, false⟩ } }
  else s

/-- COIL_TEST_PULSE_END (R414, R415): `off` says whether the switch had turned off. A failed switch latches its fault,
and SEI follows through the other. -/
def execCoilTestPulseEnd (off : Bool) (s : State) : Host.Outcome State Fault Refusal :=
  finish (match s.safe.pulse with
    | none => s
    | some p =>
      let s := { s.at p.endAt with safe := { s.safe with pulse := none } }
      if off then
        if p.offDemand then s else s.setB (if p.high then konHs p.c else konLs p.c) true
      else
        let s := s.setB (if p.high then konTpfHs p.c else konTpfLs p.c) true
        sei 0x10 (raise C.TEST_PULSE_FAULT s))

/-! ## Contactors -/

/-- Confirmation of a close (R412, R434). -/
def closeDone (c : Nat) (s : State) : State :=
  match s.safe.test with
  | some t =>
    if t.c = c ∧ t.phase = .closing then
      { s with safe := { s.safe with
        test := some { t with phase := .holding, since := s.time, closeMs := s.get (F.KON_TIME_LOW c) } } }
    else s
  | none =>
    if s.st = stPrecharge then
      if c = 1 then closeContactor 2 s
      else if c = 2 then { s with ctl := { s.ctl with pre := some ⟨s.time, false⟩ } }
      else openContactor 2 s
    else s

/-- The last step of precharge waits for the precharge contactor to show open (R412); one that has not done so leaves the
state PRECHARGE (DEDUCED, log entry 162). -/
def preOpened (c : Nat) (s : State) : State :=
  if s.st = stPrecharge ∧ c = 2 ∧ s.flag (konFb 0) ∧ s.flag (konCmd 0) ∧ s.flag (konCmd 2) = false then
    runDone stOk (changeState stRun 0x0A 0 inside s)
  else s

/-- A contactor shows open, or its 100 ms have run out (R412, R434). -/
def openDone (c : Nat) (welded : Bool) (s : State) : State :=
  match s.safe.test with
  | some t =>
    if t.c = c ∧ t.phase = .opening then
      { s with safe := { s.safe with test := some (if welded then { t with welded := true }
        else { t with openMs := some (s.get (F.KON_TIME_HIGH c)) }) } }
    else s
  | none =>
    if s.sys.stop.isSome then stopAdvance s
    else if welded then s
    else preOpened c s

/-- A contactor's auxiliary contact shows closed (`fb`) or open. A confirmed close is no longer a failed one (R430). -/
def confirmSet (c : Nat) (fb : Bool) (s : State) : State :=
  let s := s.setB (konFb c) fb
  if fb then
    match s.safe.closeAt.lookup c with
    | some t =>
      let s := (s.set (F.KON_TIME_LOW c) ((s.time - t) / ms)).setB (konFail c) false
      closeDone c { s with safe := { s.safe with closeAt := tabDel s.safe.closeAt c } }
    | none => s
  else
    match s.safe.openAt.lookup c with
    | some t =>
      let s := s.set (F.KON_TIME_HIGH c) ((s.time - t) / ms)
      openDone c false { s with safe := { s.safe with openAt := tabDel s.safe.openAt c } }
    | none => preOpened c s

/-- CONTACTOR_CONFIRM (R409, R412): the auxiliary contact of contactor `k` closes or opens; KON_CFG.FB_POL says which
shows the main contact closed. -/
def execContactorConfirm (k : Contactor) (closed : Bool) (s : State) : Host.Outcome State Fault Refusal :=
  let c := conIdx k
  let pol := s.flag ⟨0x31000, c, 1⟩
  let fb := closed != pol
  finish (if hostPowered s then confirmSet c fb s else s)

/-- The end of a contactor test with its result (R433, R434). -/
def testEnd (t : ConTest) (result : Nat) (s : State) : State :=
  let s := { s with safe := { s.safe with test := none } }
  let s := if result = 0 then
      let s := (s.setB (konFail t.c) false).setB (konWeld t.c) false
      let s := if t.channel ≠ 2 then s.setB (konTpfHs t.c) false else s
      if t.channel ≠ 1 then s.setB (konTpfLs t.c) false else s
    else s
  notifyOpt t.ctx 0x0800 stOk (u8 result ++ u16 t.closeMs ++ u16 (t.openMs.getD 0)) s

/-- CLOSE_FAIL (R413): a close not confirmed within 100 ms. -/
def execCloseFail (k : Contactor) (s : State) : Host.Outcome State Fault Refusal :=
  let c := conIdx k
  finish (match s.safe.closeAt.lookup c with
    | none => s
    | some t =>
      let s := openAll (s.at (t + 100 * ms))
      let s := addRec sevFault 0x0B 0x0010 (u8 c) (s.setB (konFail c) true)
      match s.safe.test with
      | some x => testEnd x 1 s
      | none =>
        let s := { s with ctl := { s.ctl with pre := none } }
        if s.st = stPrecharge ∨ s.st = stRun then runDone stForbids (changeState stStandby 0x0C c inside s) else s)

/-- DROP_OUT (R413): a contactor commanded closed has shown open for 20 ms. -/
def execDropOut (k : Contactor) (s : State) : Host.Outcome State Fault Refusal :=
  let c := conIdx k
  finish (if s.flag (konCmd c) && !s.flag (konFb c) && !(s.safe.closeAt.any (fun e => e.1 == c)) then sei 0x0F s
    else s)

/-- A contactor that has not shown open sets WELD_c (R416). -/
def weldSet (c : Nat) (s : State) : State := causeRec C.WELD_SUSPECT sevSafety (u8 c) (s.setB (konWeld c) true)

/-- WELD_SUSPECT (R416): 100 ms after de-energisation the auxiliary contact still shows closed. -/
def execWeldSuspect (k : Contactor) (s : State) : Host.Outcome State Fault Refusal :=
  let c := conIdx k
  finish (match s.safe.openAt.lookup c with
    | none => s
    | some t =>
      let s := s.at (t + 100 * ms)
      openDone c true (weldSet c { s with safe := { s.safe with openAt := tabDel s.safe.openAt c } }))

/-! ## Contactor test and summary (R433, R434) -/

def doContactorTest (c : Ctx) (k channel : Nat) (s : State) : State :=
  if 2 < k then replyRange c 0x0800 0 s
  else if 2 < channel then replyRange c 0x0800 1 s
  else if s.safe.test.isSome then replyBusy c 0x0800 1000 s
  else if [0, 1, 2].any (fun x => x != k && s.flag (konFb x)) then replyIncons c 0x0800 0 s
  else
    let s := replyAccepted c 0x0800 s
    closeContactor k { s with safe := { s.safe with test := some ⟨k, channel, .closing, s.time, 0, none, false, some c⟩ } }

/-- CONTACTOR_TEST (R433, R434). -/
def execContactorTest (c : Ctx) (k channel : BitVec 8) (s : State) : Host.Outcome State Fault Refusal :=
  finish (withCmd c 0x0800 (doContactorTest c k.toNat channel.toNat) s)

/-- CONTACTOR_TEST_HOLD_END (R434): after 1 s the contactor opens through the named channel. -/
def execContactorTestHoldEnd (s : State) : Host.Outcome State Fault Refusal :=
  finish (match s.safe.test with
    | some t =>
      if t.phase = .holding then
        let s := s.at (t.since + sec)
        let s := openVia t.c (t.channel ≠ 2) (t.channel ≠ 1) s
        { s with safe := { s.safe with test := some { t with phase := .opening, since := s.time } } }
      else s
    | none => s)

/-- CONTACTOR_TEST_DONE (R434): 200 ms after the open the remaining switch turns off and the test completes. -/
def execContactorTestDone (s : State) : Host.Outcome State Fault Refusal :=
  finish (match s.safe.test with
    | some t =>
      if t.phase = .opening then
        let s := openContactor t.c (s.at (t.since + 200 * ms))
        testEnd t (if t.welded then 2 else 0) s
      else s
    | none => s)

/-- The words of SAFE_SUMMARY are latched together at a protection tick (R433). -/
def latchSummary (s : State) : State :=
  { s with safe := { s.safe with summary := [0x30080, 0x30084, 0x31004, 0x30088].map s.word } }

def doSafeSummary (c : Ctx) (s : State) : State :=
  replyOk c 0x0801 (((List.range 4).map (fun i => u32 (getAt s.safe.summary i 0).toNat)).flatten) s

/-- SAFE_SUMMARY (R433). -/
def execSafeSummary (c : Ctx) (s : State) : Host.Outcome State Fault Refusal :=
  finish (withCmd c 0x0801 (doSafeSummary c) s)

/-! ## Demands with rows of their own -/

/-- SCS_TIMEOUT (R398): the 200th tick after t_d. -/
def execScsTimeout (s : State) : Host.Outcome State Fault Refusal :=
  finish (if s.safe.scs.isSome then sei 0x0C s else s)

/-- ZSL_SCS_BACKUP (R399): a coil still energised 202.5 ms after the ZSL registered an SCS-mode demand; SP's channel follows
with the code of an SCS that took too long (DEDUCED, log entry 162). -/
def execZslScsBackup (s : State) : Host.Outcome State Fault Refusal :=
  finish (match s.safe.backupAt with
    | some t =>
      let s := { s.at t with safe := { s.safe with backupAt := none } }
      if holds s 0 || holds s 1 || holds s 2 then sei 0x0C s else s
    | none => s)

/-- AUX_OVERCURRENT (R395): I_AUX crosses AUX_OC; with AUX_OC at 0 no threshold is set. -/
def execAuxOvercurrent (s : State) : Host.Outcome State Fault Refusal :=
  finish (if zslAuxOc s = 0 ∨ s.st = stShip then s
    else seiDemand 0x04 (raise C.AUX_OVERCURRENT (s.setB F.SAFE_STATUS_AUX_OC_LATCH true)))

/-- CELL_LIMIT (R400): a run of a position beyond CELL_OV (`high`) or CELL_UV reaches CELL_DEB ms. -/
def execCellLimit (pos : Nat) (high : Bool) (s : State) : Host.Outcome State Fault Refusal :=
  finish (match (if high then s.safe.ovRun else s.safe.uvRun).lookup pos with
    | some t =>
      let s := s.at (t + s.get F.SAFE_CELL_DEB_CELL_DEB * ms)
      if cellActs s then sei (if high then 0x05 else 0x06) (s.setB F.SAFE_STATUS_CELL_LIMIT true) else s
    | none => s)

/-- ENVELOPE_EXCEEDED (R425): the run outside the envelope has reached ENV_T ticks. -/
def execEnvelopeExceeded (s : State) : Host.Outcome State Fault Refusal :=
  finish (if s.flag F.SAFE_STATUS_SET_VALID ∧ s.awake ∧ s.get F.SAFE_ENV_ENV_T ≤ s.safe.envRun then
    startScs 0x09 0x0E 0x09 s else s)

/-! ## Restart after isolation (R46, R418) -/

/-- All demand causes cleared (R46): each used input released, the tone present, no thermal shutdown held. -/
def causesClear (s : State) : Bool :=
  !siDemanding s 0 && !siDemanding s 1 && s.flag F.CVL_WADI_TONE && !s.flag F.THM_STATUS_SHUT_LATCH

/-- Steps 2 to 4 of R418; only ISOLATED has this way out (R46). -/
def isoEvaluate (o : Origin) (c : Option Ctx) (s : State) : State :=
  let s := { s with safe := { s.safe with rearm := none } }
  if s.st = stIsolated ∧ causesClear s then
    let s := ((s.setB F.SAFE_STATUS_SP_LATCH false).setB F.SAFE_STATUS_ZSL_LATCH false).setB F.SYS_STATE_ISO_LATCH
      false
    let s := (s.setB F.SAFE_STATUS_AUX_OC_LATCH false).setB F.CVL_WADI_LOST_LATCH false
    let s := addRec sevSafety 0x0B 0x0012 (u8 (s.get F.SAFE_STATUS_LAST_CAUSE) ++ originBytes o) s
    let s := changeState stStandby (if o.transport = 6 then 0x03 else 0x02) 0 o s
    match c with | some c => replyOk c 0x0013 (u8 s.st) s | none => s
  else match c with | some c => replyForbids c 0x0013 s | none => s

/-- R418: WADI_REARM is broadcast; the evaluation follows with the tone, or 20 ms later without it. -/
def isoReset (o : Origin) (c : Option Ctx) (s : State) : State :=
  let s := boardCast 0x07 [] s
  if s.flag F.CVL_WADI_TONE then isoEvaluate o c s
  else { s with safe := { s.safe with rearm := some (s.time + 20 * ms, o, c) } }

/-- The end of the 20 ms wait (R132). -/
def rearmCheck (s : State) : State :=
  match s.safe.rearm with
  | some (t, o, c) => if s.flag F.CVL_WADI_TONE || decide (t ≤ s.time) then isoEvaluate o c s else s
  | none => s

/-- RST_LOCAL_PULSE (R417, R418): a valid pulse in ISOLATED. -/
def execRstLocalPulse (s : State) : Host.Outcome State Fault Refusal :=
  finish (if s.st = stIsolated then isoReset ⟨0, 6⟩ none s else s)

/-- RST_LONG (R417): a level held beyond 3.0 s is ignored and recorded. -/
def execRstLong (s : State) : Host.Outcome State Fault Refusal :=
  finish (if hostPowered s then addRec sevWarning 0x0B 0x0011 [] s else s)

/-- ISOLATION_RESET (R418, R63). -/
def execIsolationReset (c : Ctx) (s : State) : Host.Outcome State Fault Refusal :=
  finish (withCmd c 0x0013 (isoReset (Ctx.origin c) (some c)) s)

/-! ## The protection tick -/

/-- SP's work at a protection tick (R401), in awake states and in BOOT. -/
def protectionWork (s : State) : State :=
  let s := rollMeans { s with safe := { s.safe with tick := s.safe.tick + 1 } }
  if s.awake || s.st == stBoot then
    let s := discCheck 1 (discCheck 0 s)
    let s := protUpdate (cellCheck s)
    let s := scsCheck (scsTake (envCheck s))
    let s := stopCheck (preCheck (holdCheck s))
    rearmCheck (pulseStart 2 (pulseStart 1 (pulseStart 0 s)))
  else s

/-! ## The safety parameter set (R419 to R421) -/

/-- I_FS in A. -/
def iFs (s : State) : Nat := s.get F.CTL_ISENSE_I_FS

/-- The cross-field and range checks of a SAFE commit (R420), on the shadow set seen as a state. -/
def safeChecks (s : State) : Bool :=
  let ov := s.get F.SAFE_CELL_V_CELL_OV
  let uv := s.get F.SAFE_CELL_V_CELL_UV
  let ot := s.getI F.SAFE_CELL_T_CELL_OT
  let tcm := s.getI F.SAFE_CELL_T_T_CHG_MIN
  let cot := signed 16 (s.get F.SAFE_CMP_T_CMP_OT)
  let cov := s.get F.SAFE_CMP_V_CMP_OV
  let cuv := s.get F.SAFE_CMP_V_CMP_UV
  let hc := s.get F.SAFE_HWLIM_CHG_HWLIM
  let hd := s.get F.SAFE_HWLIM_DIS_HWLIM
  let mx := max hc hd
  let oc := s.get F.SAFE_AUXOC_AUX_OC
  let rate := s.get F.SAFE_SCS_SCS_RATE
  let iz := s.get F.SAFE_SCS_I_ZERO
  let tol := s.get F.SAFE_ENV_ENV_TOL
  let et := s.get F.SAFE_ENV_ENV_T
  let d0 := s.get F.SAFE_SI_DISC_T_DISC0
  let d1 := s.get F.SAFE_SI_DISC_T_DISC1
  let deb := s.get F.SAFE_CELL_DEB_CELL_DEB
  decide (ov ≠ 0 ∧ uv ≠ 0 ∧ uv < ov ∧ s.get F.EST_VLIM_V_MAX ≤ ov ∧ uv ≤ s.get F.EST_VLIM_V_MIN) &&
  decide (ov + 20 ≤ cov ∧ 0 < cuv ∧ cuv + 20 ≤ uv ∧ ot + 20 ≤ cot) &&
  decide (hc ≠ 0 ∧ hd ≠ 0 ∧ 20 * mx ≤ 19 * (1000 * iFs s)) &&
  decide (11 * mx ≤ 10 * (1000 * oc) ∧ oc ≤ s.get F.CTL_ISENSE_AUX_FS) &&
  decide (mx ≤ 120 * (100 * rate)) && decide (iz < 10 * tol) &&
  decide (10 ≤ d0 ∧ d0 ≤ 500 ∧ 10 ≤ d1 ∧ d1 ≤ 500 ∧ 400 ≤ ot ∧ ot ≤ 900 ∧ -300 ≤ tcm ∧ tcm ≤ 200) &&
  decide (s.get F.SAFE_CELL_DEB_TAPER_DV ≤ 500 ∧ 1 ≤ deb ∧ deb ≤ 20 ∧ s.get F.SAFE_DERATE_DERATE_CHG ≤ 100 ∧
    s.get F.SAFE_DERATE_DERATE_DIS ≤ 100 ∧ 1 ≤ tol ∧ tol ≤ 1000 ∧ 1 ≤ et ∧ et ≤ 100 ∧ 10 ≤ rate ∧ rate ≤ 10000 ∧
    1 ≤ iz ∧ iz ≤ 500)

/-- May a SAFE set be committed now (R419)? -/
def safeCommitState (s : State) : Bool :=
  (s.st == stCommission || s.st == stStandby || s.st == stTest || s.st == stIsolated) &&
    !anyClosed s && !s.flag (konFb 0) && !s.flag (konFb 1) && !s.flag (konFb 2) && !s.flag F.SYS_STATE_HOLD

/-- CRC-32C of the SAFE words (R421). -/
def safeCrc (s : State) : Nat :=
  crc32c ((List.range 14).map (fun i => u32 (s.word (0x30000 + 4 * i)).toNat)).flatten

/-- A committed SAFE set is active (R421). -/
def safeActive (o : Origin) (s : State) : State :=
  let old := s.get F.SAFE_PARAM_CRC_VALUE
  let new := safeCrc s
  let s := (s.setB F.SAFE_STATUS_SET_VALID true).set F.SAFE_PARAM_CRC_VALUE new
  causeRec C.PARAM_CHANGED sevSafety (u32 old ++ u32 new ++ originBytes o) s

end Sys2Proof.Machine
end

