-- ==== Sys2Proof/Machine/Eis.lean ====
section
/-!
DEFINITION. In-service impedance (chapter 6): excitation and headroom, sweeps and measurements, the result table, and
load steps.
-/

namespace Sys2Proof.Machine

/-! ## Tones and amplitude -/

/-- The bin numbers k_t of the 24 tones (R185). -/
def toneBin : List Nat :=
  [1, 3, 5, 7, 11, 17, 27, 43, 69, 109, 173, 271, 381, 543, 779, 1117, 1609, 2297, 3299, 4723, 6771, 9713, 13931, 19979]

/-- Raw TIME counts of a sweep (R192). -/
abbrev sweepCounts : Nat := 2500000000

/-- A_rms in A (R187). -/
def armsOf (s : State) (mode : Nat) : Rat :=
  let amp := if mode = 2 then s.get F.EIS_AMP_AMP_DED else s.get F.EIS_AMP_AMP_INS
  minQ (((amp : Nat) : Rat) / 1000 * cMin s) 20

/-- Is the measurement injecting? -/
def injecting (m : Meas) : Bool := m.phase == .settling || m.phase == .sweeping

/-- Σ_t sin(2π·f_t·τ + φ_t) at a raw TIME (R185, R186): tone t makes k_t turns in a sweep. -/
def toneSum (time : Nat) : Rat :=
  ((List.range 24).map (fun t =>
    Config.sinTurn (((getAt toneBin t 0 * (time % sweepCounts) : Nat) : Rat) / ((sweepCounts : Nat) : Rat) + Config.phase t))).sum

/-- √2 · A_tone · Σ_t sin(…) with A_tone = A_rms / √24, within its bound of 1.70 × A_rms (R186). -/
def toneWave (aRms : Rat) (time : Nat) : Rat :=
  clampQ (-(17 / 10) * aRms) (17 / 10 * aRms) (aRms * sqrtQ (1 / 12) * toneSum time)

/-- i_exc now, in A (R186). -/
def excitation (s : State) : Rat :=
  match s.eis.meas with
  | some m => if injecting m then toneWave m.aRms s.time else 0
  | none => 0

/-- The STEP pulse now, in A (R205). -/
def pulseNow (s : State) : Rat :=
  match s.eis.pulse with
  | some p => if s.time < p.endAt then p.amp else 0
  | none => 0

/-- The headroom condition (R188). -/
def headroomOk (s : State) (a : Rat) : Bool :=
  decide (s.ctl.clamped + 17 / 10 * a ≤ 9 / 10 * s.ctl.limChg) &&
    decide (-(9 / 10 * s.ctl.limDis) ≤ s.ctl.clamped - 17 / 10 * a)

/-- Does the dispatch request, in A, lie within ±0.01C (R202)? -/
def restingRequest (s : State) (req : Rat) : Bool := decide (absQ req ≤ cMin s / 100)

/-- Codes of EIS_STATUS.STATE. -/
def phaseCode : MeasPhase → Nat
  | .waiting => 1 | .settling => 2 | .sweeping => 3 | .paused => 4

/-- The measurement goes on in a phase. -/
def setMeas (m : Meas) (s : State) : State :=
  let s := { s with eis := { s.eis with meas := some m } }
  let s := ((s.set F.EIS_STATUS_STATE (phaseCode m.phase)).set F.EIS_STATUS_MODE m.mode).set
    F.EIS_STATUS_SWEEPS_DONE m.done
  eisLanes (injecting m) s

/-! ## Headroom at the outer-loop sample (R189, R190, R194 code 0x6) -/

/-- Is this instant a sweep boundary that has not been taken yet? -/
def boundaryDue (s : State) : Bool :=
  s.time % sweepCounts == 0 && s.sys.ticks.lookup tkSweep != some s.time

/-- The excitation pauses; the sweep in progress is incomplete, unless the pause takes effect in the next (R193). -/
def pauseMeas (m : Meas) (s : State) : State :=
  let late := if boundaryDue s then some m.phase else none
  let s := setMeas { m with phase := .paused, late := late, okSince := none, armed := false } s
  let s := s.bump F.EIS_INC_CNT_VALUE 1
  causeRec C.HEADROOM_PAUSE sevInfo [] (raise C.SWEEP_INCOMPLETE s)

/-- A measurement at an outer-loop sample, with the dispatch request in A. -/
def measSample (req : Rat) (s : State) : State :=
  match s.eis.meas with
  | none => s
  | some m =>
    if m.mode = 2 ∧ !restingRequest s req then eisAbandon 0x6 s
    else if injecting m then (if headroomOk s m.aRms then s else pauseMeas m s)
    else if m.phase = .paused then
      if headroomOk s m.aRms then
        match m.okSince with
        | some _ => s
        | none => { s with eis := { s.eis with meas := some { m with okSince := some s.time } } }
      else { s with eis := { s.eis with meas := some { m with okSince := none, armed := false } } }
    else s

/-- HEADROOM_RESUME (R190): the condition has held for 1 s. -/
def execHeadroomResume (s : State) : Host.Outcome State Fault Refusal :=
  finish (match s.eis.meas with
    | some m =>
      match m.okSince with
      | some t =>
        let s := s.at (t + sec)
        { s with eis := { s.eis with meas := some { m with armed := true } } }
      | none => s
    | none => s)

/-! ## Samples (R151, R195, R196) -/

/-- CE0's primary current samples are kept for 2.1 s: a step is evaluated 20 ms after t90 + 1 s (R203, R204). -/
abbrev curKeep : Nat := 525000000

/-- Samples at sample instants are kept for 11 s: a sweep, and its last frame (R192, R109). -/
abbrev sampleKeep : Nat := 2750000000

/-- CE0 takes a primary current sample in A, and notes whether it injects (R196, R203). -/
def currentTake (i : Rat) (s : State) : State :=
  let inj := s.eis.meas.any injecting
  { s with eis := { s.eis with
    cur := (s.time, i) :: s.eis.cur.takeWhile (fun x => decide (s.time ≤ x.1 + curKeep))
    injAt := if inj then some s.time else s.eis.injAt } }

/-- i_str at a sample instant (R196): the samples before it through the branch of its whole or half microsecond. The taps
are a free value, and there are 1,000 of them (DESIGN CHOICE, log entry 152). -/
def decimate (s : State) (tS : Nat) : Rat :=
  let l := (s.eis.cur.dropWhile (fun x => decide (tS < x.1))).take 1000
  (l.mapIdx (fun k x => Config.filterTap (tS / 125 % 2) k * x.2)).sum

/-- The string current at the sample instant of the readings that arrive (R196). -/
def stringTake (tS : Nat) (s : State) : State :=
  { s with eis := { s.eis with
    str := (tS, decimate s tS) :: s.eis.str.takeWhile (fun x => decide (tS ≤ x.1 + sampleKeep)) } }

/-- A lane takes a STREAM sample of a position (R151). -/
def laneTake (n : Nat) (x : Sample) (s : State) : State :=
  let l := (tabGet s.eis.lanes n []).takeWhile (fun y => decide (x.t ≤ y.t + sampleKeep))
  { s with eis := { s.eis with lanes := tabSet s.eis.lanes n (x :: l) } }

/-- The entries of a list in rising order of their instants at each of the given instants, none where it has none. -/
def alignAt {α : Type} (t : α → Nat) : List Nat → List α → List (Option α)
  | [], _ => []
  | i :: is, l =>
    match l.dropWhile (fun x => decide (t x < i)) with
    | [] => none :: alignAt t is []
    | x :: r => if t x = i then some x :: alignAt t is r else none :: alignAt t is (x :: r)

/-- The sample instants of the 160,000 frames of the sweep from a boundary (R108, R192). -/
def sweepInstants (b : Nat) : List Nat := (List.range 160000).map (fun m => b + 1500 + 15625 * m)

/-- At each place the last value known up to it, with its place. -/
def lastKnown : Nat → Option (Nat × Rat) → List (Option Rat) → List (Option (Nat × Rat))
  | _, _, [] => []
  | k, p, none :: l => p :: lastKnown (k + 1) p l
  | k, _, some x :: l => some (k, x) :: lastKnown (k + 1) (some (k, x)) l

/-- A gap between two known values, by linear interpolation; before the first or after the last, that value (R197; the
ends DESIGN CHOICE, log entry 152). -/
def between (m : Nat) : Option (Nat × Rat) → Option (Nat × Rat) → Rat
  | some (i, x), some (j, y) => if i = j then x else x + (y - x) * ((m - i : Nat) : Rat) / ((j - i : Nat) : Rat)
  | some (_, x), none => x
  | none, some (_, y) => y
  | none, none => 0

/-- The list with its gaps filled (R197). -/
def fillGaps (l : List (Option Rat)) : List Rat :=
  let top := l.length - 1
  let back := ((lastKnown 0 none l.reverse).map (fun p => p.map (fun x => (top - x.1, x.2)))).reverse
  ((lastKnown 0 none l).zip back).mapIdx (fun m p => between m p.1 p.2)

/-- The list without its least-squares straight line (R198). -/
def detrend (l : List Rat) : List Rat :=
  let n : Rat := (l.length : Nat)
  let c := (n - 1) / 2
  let mean := l.sum / n
  let sxx := ((List.range l.length).map (fun m => (((m : Nat) : Rat) - c) * (((m : Nat) : Rat) - c))).sum
  let sxy := (l.mapIdx (fun m x => (((m : Nat) : Rat) - c) * x)).sum
  l.mapIdx (fun m x => x - mean - sxy / sxx * (((m : Nat) : Rat) - c))

/-! ## Counting a sweep (R197 to R199) -/

def Phasor.norm2 (z : Phasor) : Rat := z.re * z.re + z.im * z.im

def addPhasor (a b : Phasor) : Phasor := ⟨a.re + b.re, a.im + b.im⟩

/-- a · b*. -/
def mulConj (a b : Phasor) : Phasor := ⟨a.re * b.re + a.im * b.im, a.im * b.re - a.re * b.im⟩

def zeroPhasor : Phasor := ⟨0, 0⟩

/-- X_j of a sweep without its line (R198): its complex rms amplitude at j × 0.1 Hz. -/
def binOf (j : Nat) (x : List Rat) : Phasor :=
  let n : Rat := (x.length : Nat)
  let k := sqrtQ 2 / n
  let turn (m : Nat) : Rat := ((j * m : Nat) : Rat) / n
  ⟨k * (x.mapIdx (fun m v => v * Config.cosTurn (turn m))).sum, -(k * (x.mapIdx (fun m v => v * Config.sinTurn (turn m))).sum)⟩

/-- Does a bin lie within 1 Hz of a harmonic of a frequency of `f` bins? -/
def nearHarmonic (f j : Nat) : Bool := decide (f ≤ j + 10) && (decide (j % f ≤ 10) || decide (f ≤ j % f + 10))

/-- The noise bins of a tone bin (R198): the four nearest even bins, the lower on ties, without bin 0 and those near a
harmonic of 50 Hz or 60 Hz. -/
def noiseBins (k : Nat) : List Nat :=
  let near := ((List.range 20).map (fun d => [k - (2 * d + 1), k + (2 * d + 1)])).flatten
  (near.filter (fun j => j != 0 && !nearHarmonic 500 j && !nearHarmonic 600 j)).take 4

/-- The sums of one tone after one more sweep of voltage `v` (mV) and cell current `i` (A): the tone bin and its four noise
bins. -/
def accTone (t : Nat) (v i : List Rat) (a : ToneAcc) : ToneAcc :=
  let k := getAt toneBin t 0
  let vk := binOf k v
  let ik := binOf k i
  let noise := (noiseBins k).map (fun j => (binOf j v, binOf j i))
  { vi := addPhasor a.vi (mulConj vk ik)
    ii := a.ii + Phasor.norm2 ik
    nvv := noise.foldl (fun r x => r + Phasor.norm2 x.1) a.nvv
    nvi := noise.foldl (fun r x => addPhasor r (mulConj x.1 x.2)) a.nvi
    nii := noise.foldl (fun r x => r + Phasor.norm2 x.2) a.nii }

/-- TEMP over two spans of time. -/
def addTemp (a b : TempAcc) : TempAcc :=
  if a.n = 0 then b else if b.n = 0 then a else ⟨a.n + b.n, a.sum + b.sum, min a.lo b.lo, max a.hi b.hi⟩

/-- A position's counted sweep: its samples by frame, the string current (A), and TEMP during it (R195, R197). -/
def accPos (l : List (Option Sample)) (iStr : List Rat) (temp : TempAcc) (a : PosAcc) : PosAcc :=
  let v := detrend (fillGaps (l.map (fun x => x.bind (fun y => if y.valid then some ((y.v : Rat) / 1000) else none))))
  let ib : List Rat := l.map (fun x => match x with | some y => y.i | none => 0)
  let i := detrend ((iStr.zip ib).map (fun p => p.1 - p.2))
  { nv := a.nv + 1
    tones := (List.range 24).map (fun t => accTone t v i (getAt a.tones t {}))
    temp := addTemp a.temp temp
    bal := a.bal || ib.any (· != 0) }

/-- Invalid samples of a position sweep (R197): a frame without a sample is one. -/
def invalidCount (l : List (Option Sample)) : Nat := l.countP (fun x => !x.any (fun y => y.valid))

/-- A position sweep counts unless more than 16 of its samples were invalid (R197) or its lane restarted (R209). -/
def countPos (d : DueSweep) (iStr : List Rat) (p : State × List (Nat × PosAcc)) (n : Nat) :
    State × List (Nat × PosAcc) :=
  let lane := n / 72
  let l := alignAt (fun x : Sample => x.t) (sweepInstants d.from_) (tabGet p.1.eis.lanes n []).reverse
  if d.lost.contains lane then p
  else if 16 < invalidCount l then (p.1.bump (F.DSP_LANE_GAPS_COUNT lane) 1, p.2)
  else (p.1, tabSet p.2 n (accPos l iStr (tabGet d.temps n {}) (tabGet p.2 n {})))

/-- The lanes demodulate a complete sweep whose last frame has arrived (R195 to R199). -/
def demodulate (m : Meas) (s : State) : Meas × State :=
  match m.due with
  | none => (m, s)
  | some d =>
    let l := alignAt (fun x : Nat × Rat => x.1) (sweepInstants d.from_) s.eis.str.reverse
    let i := fillGaps (l.map (fun x => x.map (fun y => y.2)))
    let x := detrend i
    let r := (positions s).foldl (countPos d i) (s, m.acc)
    ({ m with
       due := none
       iSum := m.iSum + i.sum / ((i.length : Nat) : Rat)
       iiStr := (List.range 24).map (fun t => getAt m.iiStr t 0 + Phasor.norm2 (binOf (getAt toneBin t 0) x))
       acc := r.2 }, r.1)

/-- The lanes take up a complete sweep of the running measurement, and of one that waits for its publication. -/
def lanesDue (s : State) : State :=
  let s := match s.eis.meas with
    | some m => let r := demodulate m s; { r.2 with eis := { r.2.eis with meas := some r.1 } }
    | none => s
  match s.eis.closing with
  | some m => let r := demodulate m s; { r.2 with eis := { r.2.eis with closing := some r.1 } }
  | none => s

/-- Is a complete sweep still to be demodulated? -/
def sweepDue (s : State) : Bool := s.eis.meas.any (fun m => m.due.isSome) || s.eis.closing.any (fun m => m.due.isSome)

/-- The readings of the frame that started at `tF` have arrived: those of a sweep's last frame complete it (R109). -/
def framesDue (tF : Nat) (s : State) : State := if sweepDue s && (tF + 15625) % sweepCounts == 0 then lanesDue s else s

/-- A sweep is complete at this boundary and counts (R192); its samples are demodulated once its last frame is in. -/
def countSweep (m : Meas) (s : State) : Meas :=
  { m with
    done := m.done + 1
    tStart := if m.done = 0 then s.time - sweepCounts else m.tStart
    tEnd := s.time
    due := some ⟨s.time - sweepCounts, m.temps, m.lostLanes⟩
    temps := []
    lostLanes := [] }

/-! ## Results (R199, R200, R206) -/

/-- The square root of a rational, rounded half away from zero. -/
def sqrtRound (x : Rat) : Nat := (isqrt (4 * x).floor.toNat + 1) / 2

/-- The entry of a tone without data (R206). -/
def noTone : Tone := ⟨0x7FFFFFFF, 0x7FFFFFFF, 0, 0, 4, zeroPhasor, 0⟩

/-- The result entry of one tone; `low` says that LOW_AMP holds (R199, R200). -/
def toneOf (seed pos t cohMin : Nat) (low : Bool) (nv : Nat) (a : ToneAcc) : Tone :=
  let lowF : Nat := if low then 2 else 0
  if a.ii = 0 then
    let re := signed 32 (Config.noCurrent seed pos t 0)
    let im := signed 32 (Config.noCurrent seed pos t 1)
    let unc := Config.noCurrent seed pos t 2 % 65536
    ⟨re, im, unc, Config.noCurrent seed pos t 3 % 251, Config.noCurrent seed pos t 4 % 2 + lowF,
      ⟨(re : Rat) / 1000, (im : Rat) / 1000⟩, ((unc * unc : Nat) : Rat) / 1000000⟩
  else
    let re := a.vi.re / a.ii
    let im := a.vi.im / a.ii
    let z2 := re * re + im * im
    let var := (a.nvv - 2 * (re * a.nvi.re + im * a.nvi.im) + z2 * a.nii) / (4 * (nv : Rat))
    let unc := sqrtRound (var / a.ii * 1000000)
    let p := z2 * a.ii / (nv : Rat)
    let coh : Rat := if p + var = 0 then 1 else p / (p + var)
    let lowC : Bool := decide (coh < ((cohMin : Nat) : Rat) / 250)
    ⟨roundQ (re * 1000), roundQ (im * 1000), min unc 0xFFFF, (roundQ (coh * 250)).toNat, b2n lowC + lowF,
      ⟨re, im⟩, var / a.ii⟩

/-- LOW_AMP of a tone (R200): the string current below half of A_tone. -/
def lowAmp (m : Meas) (t : Nat) : Bool :=
  decide (getAt m.iiStr t 0 / (m.done : Rat) < m.aRms * m.aRms / 24 / 4)

/-- Internal SOC of a position at the measurement midpoint (R206). -/
def socAtMid (m : Meas) (pos : Nat) : Nat :=
  let mid := (m.tStart + m.tEnd) / 2
  match m.socHist.find? (fun e => decide (e.1 ≤ mid)) with
  | some e => tabGet e.2 pos 0
  | none => 0

/-- The row of one position; one without a counted sweep holds no data. -/
def rowOf (seed : Nat) (m : Meas) (pos : Nat) : Option ZRow :=
  let a := tabGet m.acc pos {}
  if a.nv = 0 then none
  else
    let tones := (List.range 24).map (fun t => toneOf seed pos t m.cohMin (lowAmp m t) a.nv (getAt a.tones t {}))
    let span := (a.temp.hi - a.temp.lo).toNat
    some {
      temp := roundQ (a.temp.sum / ((a.temp.n : Nat) : Rat))
      span := min span 255
      nv := a.nv
      soc := socAtMid m pos
      flags := bitsOf [false, decide (a.nv < m.n), decide (20 < span), a.bal]
      validTones := tones.countP (fun x => x.flags == 0)
      tones := tones }

/-- The complete result of a measurement. -/
def resultOf (m : Meas) (s : State) : ZResult :=
  let rows := (positions s).filterMap (fun p => (rowOf s.free m p).map (fun r => (p, r)))
  { mode := m.mode
    n := m.n
    tStart := m.tStart
    tEnd := m.tEnd
    aRms := (roundQ (m.aRms * 1000)).toNat
    iMean := roundQ (m.iSum / (m.done : Rat) * 1000)
    iAch := (List.range 24).map (fun t => sqrtRound (getAt m.iiStr t 0 / (m.done : Rat) * 1000000))
    rows := rows
    ctx := m.ctx
    lowCoh := rows.any (fun r => r.2.tones.any (fun t => t.flags % 2 == 1)) }

/-- The Nth sweep is complete: the measurement waits for its publication (R192, R207). -/
def measDone (m : Meas) (s : State) : State :=
  let s := eisLanes false { s with eis := { s.eis with meas := none, closing := some m } }
  (s.set F.EIS_STATUS_STATE 5).set F.EIS_STATUS_SWEEPS_DONE m.done

/-! ## Boundaries (R192, R201) -/

/-- The measurement starts at this boundary (R187, R190, R192); its configuration is read now. -/
def measStart (m : Meas) (s : State) : State :=
  let n := if m.n = 0 then s.get F.EIS_CFG_N_AVG else m.n
  let a := armsOf s m.mode
  let s := s.set F.EIS_ARMS_VALUE (roundQ (a * 1000)).toNat
  let s := { s with eis := { s.eis with lastStart := some s.time } }
  let soc := (positions s).map (fun p => (p, (getEst s p).socInt))
  let phase := if headroomOk s a then MeasPhase.settling else MeasPhase.paused
  setMeas { m with
    n := n, phase := phase, startAt := some s.time, timeout := s.get F.EIS_TIMEOUT_TIMEOUT,
    cohMin := s.get F.EIS_COH_COH_MIN, aRms := a, socHist := [(s.time, soc)] } s

/-- A measurement passes a boundary. -/
def measBoundary (m : Meas) (s : State) : State :=
  match m.phase with
  | .waiting => if m.reqAt + ms ≤ s.time then measStart m s else s
  | .settling => setMeas { m with phase := .sweeping, lostLanes := [], temps := [] } s
  | .sweeping =>
    let m := countSweep m s
    if m.n ≤ m.done then measDone m s else setMeas m s
  | .paused =>
    let m := if m.late = some .sweeping then countSweep m s else m
    let m : Meas := { m with late := none, lostLanes := [], temps := [] }
    if decide (m.n ≤ m.done) && m.startAt.isSome then measDone m s
    else if m.armed then setMeas { m with phase := .settling, armed := false, okSince := none } s
    else setMeas m s

/-- Does an automatic IN_SERVICE measurement start at this boundary (R201, R372)? -/
def autoStart (s : State) : Bool :=
  s.flag F.EIS_CFG_AUTO && s.st == stRun && s.flag F.CTL_STATUS_CLOSED && !s.flag F.EIS_STATUS_UNAVAIL &&
    !s.flag F.THM_STATUS_DIE_HOT && s.eis.meas.isNone && s.eis.pulse.isNone &&
    s.eis.closedAt.any (fun t => decide (t + 10 * sec ≤ s.time)) &&
    s.eis.lastStart.all (fun t => decide (t + s.get F.EIS_INTERVAL_INTERVAL * sec ≤ s.time))

/-- SWEEP_BOUNDARY (R192): a measurement starts, a settling sweep ends or a sweep is counted; automatic starts are
considered. -/
def execSweepBoundary (s : State) : Host.Outcome State Fault Refusal :=
  let s := lanesDue (s.tick tkSweep sweepCounts)
  finish (match s.eis.meas with
    | some m => measBoundary m s
    | none =>
      if autoStart s then measStart { mode := 1, n := 0, phase := .waiting, ctx := none, reqAt := s.time } s else s)

/-- At an estimation tick the internal SOC is noted for the midpoint, and TEMP while a sweep runs (R206). -/
def measSoc (s : State) : State :=
  match s.eis.meas with
  | some m =>
    if m.startAt.isSome then
      let soc := (positions s).map (fun p => (p, (getEst s p).socInt))
      let one (t : Int) : TempAcc := ⟨1, (t : Rat), t, t⟩
      let temps := if m.phase = .sweeping then
          (positions s).map (fun p => (p, addTemp (tabGet m.temps p {}) (one (getCell s p).temp)))
        else m.temps
      { s with eis := { s.eis with meas := some { m with socHist := (s.time, soc) :: m.socHist, temps := temps } } }
    else s
  | none => s

/-- EIS_TIMEOUT (R194 code 0x3). -/
def execEisTimeout (s : State) : Host.Outcome State Fault Refusal :=
  finish (match s.eis.meas with
    | some m =>
      match m.startAt with
      | some t => eisAbandon 0x3 (s.at (t + m.timeout * sec))
      | none => s
    | none => s)

/-! ## Publication (R207) -/

/-- The result is written to the table; its rows are refitted (R208). -/
def publishResult (r : ZResult) (s : State) : State :=
  let s := s.bump F.EIS_RESULT_SEQ_VALUE 1
  let seq := s.get F.EIS_RESULT_SEQ_VALUE
  let s := { s with eis := { s.eis with result := some (seq, r), refit := true } }
  let s := causeRec C.SWEEP_DONE sevInfo [] s
  if r.lowCoh then raise C.LOW_COHERENCE s else s

/-- A completed result is published, or held while HOLD is 1; the end of its measurement is reported. -/
def publishReady (m : Meas) (s : State) : State :=
  let r := resultOf m s
  let s := { s with free := s.free + 1, eis := { s.eis with closing := none } }
  let hold := s.flag F.EIS_CTRL_HOLD
  let s := if hold then
      let s := if s.eis.held.isSome then raise C.RESULT_OVERRUN s else s
      raise C.SWEEP_DONE ({ s with eis := { s.eis with held := some r } }.setB F.EIS_STATUS_PENDING true)
    else publishResult r s
  let code := if hold then 2 else 1
  let s := s.set F.EIS_STATUS_LAST_END code
  let s := if s.eis.meas.isSome then s else
    ((s.set F.EIS_STATUS_STATE 0).set F.EIS_STATUS_MODE 0).set F.EIS_STATUS_SWEEPS_DONE 0
  notifyOpt r.ctx 0x0210 stOk (u32 (s.get F.EIS_RESULT_SEQ_VALUE) ++ u8 code) s

/-- RESULT_PUBLISH (R207). -/
def execResultPublish (s : State) : Host.Outcome State Fault Refusal :=
  finish (match (lanesDue s).eis.closing with
    | some m => publishReady m (lanesDue s)
    | none => s)

/-- HOLD is cleared: a held result is published (R207). -/
def holdRelease (s : State) : State :=
  match s.eis.held with
  | some r => publishResult r ({ s with eis := { s.eis with held := none } }.setB F.EIS_STATUS_PENDING false)
  | none => s

/-- EIS_HOLD_RELEASE (R207, R212): EIS_CTRL.HOLD is written 0. -/
def execEisHoldRelease (p : Path) (s : State) : Host.Outcome State Fault Refusal :=
  finish (withWrite p 0x12014 0 (fun s => (holdRelease (storeWord (Path.origin p) 0x12014 0 s), .ok)) s)

/-! ## Load steps (R203 to R205) -/

/-- The entries with an instant in [a, b). -/
def spanOf {α : Type} (t : α → Nat) (a b : Nat) (l : List α) : List α := l.filter (fun x => decide (a ≤ t x ∧ t x < b))

def meanQ (l : List Rat) : Rat := l.sum / ((l.length : Nat) : Rat)

/-- Mean string current of the primary samples in [a, b), A. -/
def meanIn (l : List (Nat × Rat)) (a b : Nat) : Rat := meanQ ((spanOf (fun x : Nat × Rat => x.1) a b l).map (fun x => x.2))

/-- The mean of the string current over the second from `a`, if every 1 ms mean lies within ±1 % of it, or within ±0.050 A
(R203 conditions 1 and 3). -/
def steadyFrom (l : List (Nat × Rat)) (a : Nat) : Option Rat :=
  let l := spanOf (fun x : Nat × Rat => x.1) a (a + sec) l
  let m := meanIn l a (a + sec)
  let tol := maxQ (absQ m / 100) (1 / 20)
  let ok (k : Nat) : Bool :=
    let w := spanOf (fun x : Nat × Rat => x.1) (a + k * ms) (a + (k + 1) * ms) l
    !w.isEmpty && decide (absQ (meanQ (w.map (fun x => x.2)) - m) ≤ tol)
  if (List.range 1000).all ok then some m else none

/-- Did no excitation run, did no measurement start, and did no dispatch change cut a pulse while the step's current was
watched (R203, R205)? -/
def stepQuiet (s : State) (t10 t90 : Nat) : Bool :=
  s.eis.injAt.all (fun t => decide (t + sec < t10)) &&
    s.eis.lastStart.all (fun b => decide (b < t10 ∨ t90 + sec ≤ b)) &&
    s.eis.closedAt.any (fun t => decide (t + sec ≤ t10)) &&
    s.eis.cutAt.all (fun c => decide (t90 + sec < c ∨ c + ms < t10)) && s.eis.stepAt.all (fun t => decide (t < t10))

/-- I_a and ΔI of the step from `t10` to `t90`, the last sample up to 10 % and the first from 90 % of it, if it qualifies
(R203). -/
def stepAt (s : State) (t10 t90 : Nat) : Option Rat :=
  if t10 + ms < t90 ∨ t90 ≤ t10 ∨ t10 < sec ∨ s.time < t90 + sec ∨ !stepQuiet s t10 t90 then none
  else
    match steadyFrom s.eis.cur (t10 - sec), steadyFrom s.eis.cur t90 with
    | some a, some b =>
      let d := b - a
      let part (i : Rat) : Rat := (i - a) / d
      let edge := s.eis.cur.filter (fun x => decide (t10 ≤ x.1 ∧ x.1 ≤ t90))
      let ok (x : Nat × Rat) : Bool :=
        if x.1 = t10 then decide (part x.2 ≤ 1 / 10)
        else if x.1 = t90 then decide (9 / 10 ≤ part x.2)
        else decide (1 / 10 < part x.2 ∧ part x.2 < 9 / 10)
      if cMin s / 20 ≤ absQ d ∧ d ≠ 0 ∧ edge.all ok then some d else none
    | _, _ => none

/-- A qualifying step among the samples kept that has not been evaluated: t10, t90 and ΔI. Its rows are due within 20 ms
of t90 + 1 s (R203, R204). -/
def stepFound (s : State) : Option (Nat × Nat × Rat) :=
  let ends := (s.eis.cur.map (fun x => x.1)).filter (fun t => decide (t + sec ≤ s.time ∧ s.time ≤ t + sec + 20 * ms))
  ends.findSome? (fun t90 =>
    let starts := (s.eis.cur.map (fun x => x.1)).filter (fun t => decide (t < t90 ∧ t90 ≤ t + ms))
    starts.findSome? (fun t10 => (stepAt s t10 t90).map (fun d => (t10, t90, d))))

/-- Are steps evaluated (R184, R203): STEP_EN or a STEP pulse, the loop closed, no excitation, a Caravan-2 ring? -/
def stepsOn (s : State) : Bool :=
  (s.flag F.EIS_CFG_STEP_EN || s.eis.pulse.isSome) && s.flag F.CTL_STATUS_CLOSED && !s.flag F.EIS_STATUS_UNAVAIL &&
    !s.eis.meas.any injecting

/-- Means of voltage (mV) and cell current (A) of a position over frames; none where one is invalid or none is there (R195,
R204). -/
def stepMeans (str : List (Nat × Rat)) (l : List Sample) : Option (Rat × Rat) :=
  if l.isEmpty || !l.all (fun x => x.valid) then none
  else some (meanQ (l.map (fun x => (x.v : Rat) / 1000)), meanQ (l.map (fun x => (str.lookup x.t).getD 0 - x.i)))

/-- A step resistance in 0.001 mΩ: (V_x - V_pre) / (I_x - I_pre), mV over A. -/
def stepR (seed pos which : Nat) (pre x : Rat × Rat) : Int :=
  if x.2 - pre.2 = 0 then signed 32 (Config.noCurrent seed pos 24 which)
  else roundQ ((x.1 - pre.1) / (x.2 - pre.2) * 1000)

/-- The STEP fields of a position, none where a frame of its windows is invalid (R204). -/
def stepRow (s : State) (t10 t90 seq : Nat) (di : Rat) (n : Nat) : Option StepRow :=
  let l := (tabGet s.eis.lanes n []).reverse
  let win (a b : Nat) : Option (Rat × Rat) := stepMeans s.eis.str (spanOf (fun x : Sample => x.t) a b l)
  let first := (l.filter (fun x => decide (t90 ≤ x.t))).take 2
  match win (t10 - 10 * ms) t10, (if first.length = 2 then stepMeans s.eis.str first else none),
      win (t10 + 19 * ms / 2) (t10 + 21 * ms / 2), win (t10 + 995 * ms) (t10 + 1005 * ms) with
  | some pre, some r0, some r10, some r1 =>
    some ⟨stepR s.free n 0 pre r0, stepR s.free n 1 pre r10, stepR s.free n 2 pre r1, seq, roundQ (di * 1000)⟩
  | _, _, _, _ => none

/-- A STEP result moves the tracked Rs: Rs ← 0.8·Rs + 0.2·R_OHM, with R_OHM referred to T_FIT (R220, R223). -/
def stepTrack (r : StepRow) (n : Nat) (s : State) : State :=
  let e := getEst s n
  let x := ((r.rOhm : Rat) / 1000) / tempFactor (packOf s) 0 (modelOf s e).tFit (getCell s n).temp
  setEst n { e with rsTrack := some (4 / 5 * rsAtFit s e + x / 5) } s

/-- A qualifying step updates its rows (R204), and the tracked Rs of their positions (R223; not in direct mode, R26). -/
def stepUpdate (t10 t90 : Nat) (di : Rat) (s : State) : State :=
  let s := s.bump F.EIS_STEP_SEQ_VALUE 1
  let seq := s.get F.EIS_STEP_SEQ_VALUE
  let rows := (positions s).filterMap (fun n => (stepRow s t10 t90 seq di n).map (fun r => (n, r)))
  let s := { s with
    free := s.free + 1
    eis := { s.eis with steps := rows.foldl (fun t (x : Nat × StepRow) => tabSet t x.1 x.2) s.eis.steps, stepAt := some t90 } }
  let s := if s.direct then s else rows.foldl (fun s (x : Nat × StepRow) => stepTrack x.2 x.1 s) s
  raise C.STEP_DONE s

/-- The step due is evaluated, if there is one. -/
def stepDue (s : State) : State :=
  match (if stepsOn s then stepFound s else none) with
  | some (t10, t90, di) => stepUpdate t10 t90 di s
  | none => s

/-- STEP_DONE (R203, R204): a load step is evaluated 1 s after t90. -/
def execStepDone (s : State) : Host.Outcome State Fault Refusal := finish (stepDue s)

/-- STEP_PULSE_END (R205): the pulse has ended after 2 s; its second edge is evaluated a second later, and the request is
told. The pulse counts as running until then (DESIGN CHOICE, log entry 154). -/
def execStepPulseEnd (s : State) : Host.Outcome State Fault Refusal :=
  finish (match s.eis.pulse with
    | none => s
    | some p => pulseStop (stepDue (s.at (p.endAt + sec))))

/-! ## Opcodes (R216) -/

/-- The dispatch request in A (R36, R335): 0 while the loop is open; the recipe's, the loss ramp's (R343), the ramped
setpoint in mode 0, or the output of the outer section. -/
def requestNow (s : State) : Rat :=
  if !s.flag F.CTL_STATUS_CLOSED then 0
  else match s.disp.run with
    | some r => r.req
    | none =>
      if s.disp.lossRamp then s.disp.lossReq
      else if s.get F.CTL_CFG_OUTER_MODE = 0 then s.disp.req / 1000
      else if s.disp.active.isNone then 0 else s.ctl.outerReq

def doEisStart (c : Ctx) (mode n : Nat) (s : State) : State :=
  if s.flag F.EIS_STATUS_UNAVAIL || !s.flag F.CTL_STATUS_CLOSED || (mode == 2 && !restingRequest s (requestNow s)) then
    replyForbids c 0x0210 s
  else if s.eis.meas.isSome || s.eis.closing.isSome || s.eis.pulse.isSome then replyBusy c 0x0210 100 s
  else if mode ≠ 1 ∧ mode ≠ 2 then replyRange c 0x0210 0 s
  else if 60 < n then replyRange c 0x0210 1 s
  else if s.get F.EIS_TIMEOUT_TIMEOUT < ((if n = 0 then s.get F.EIS_CFG_N_AVG else n) + 1) * 10 then
    replyIncons c 0x0210 0 s
  else
    setMeas { mode := mode, n := n, phase := .waiting, ctx := some c, reqAt := s.time } (replyAccepted c 0x0210 s)

/-- EIS_START (R192, R211, R216). -/
def execEisStart (c : Ctx) (mode n : BitVec 8) (s : State) : Host.Outcome State Fault Refusal :=
  finish (withCmd c 0x0210 (doEisStart c mode.toNat n.toNat) s)

def doEisStop (c : Ctx) (s : State) : State :=
  if s.flag F.EIS_STATUS_UNAVAIL then replyForbids c 0x0211 s else replyOk c 0x0211 [] (eisAbandon 0x4 s)

/-- EIS_STOP (R194, R216). -/
def execEisStop (c : Ctx) (s : State) : Host.Outcome State Fault Refusal :=
  finish (withCmd c 0x0211 (doEisStop c) s)

def doStepPulse (c : Ctx) (amp : Int) (s : State) : State :=
  let a : Rat := (amp : Rat) / 1000
  if s.flag F.EIS_STATUS_UNAVAIL || !s.flag F.CTL_STATUS_CLOSED || !restingRequest s (requestNow s) then
    replyForbids c 0x0212 s
  else if s.eis.meas.isSome || s.eis.closing.isSome || s.eis.pulse.isSome then replyBusy c 0x0212 100 s
  else if absQ a < cMin s / 20 ∨ 9 / 10 * s.ctl.limChg < s.ctl.clamped + a ∨
      s.ctl.clamped + a < -(9 / 10 * s.ctl.limDis) then replyRange c 0x0212 0 s
  else
    let s := replyAccepted c 0x0212 s
    { s with eis := { s.eis with pulse := some ⟨a, s.time + 2 * sec, c⟩ } }.set F.EIS_STATUS_MODE 3

/-- STEP_PULSE (R205, R216). -/
def execStepPulse (c : Ctx) (amp : BitVec 32) (s : State) : Host.Outcome State Fault Refusal :=
  finish (withCmd c 0x0212 (doStepPulse c amp.toInt) s)

end Sys2Proof.Machine
end

