-- ==== Sys2Proof/Machine/Disp.lean ====
section
/-!
DEFINITION. Dispatch and formation recipes (chapter 10): the setpoint mailbox, ramps, setpoint loss, limit entries and
the recipe engine.
-/

namespace Sys2Proof.Machine

/-! ## Controlled stop -/

/-- A controlled stop starts (R48): the reference ramps while the loop is closed, else the stop waits for the current
to fall. A close that is pending is abandoned (R310). -/
def controlledStop (c : Option Ctx) (s : State) : State :=
  let s := abandonClose s
  if s.flag F.CTL_STATUS_CLOSED then
    let s := s.setB F.SYS_STATE_TRANSITION true
    { s with
      ctl := { s.ctl with mode := .stopRamp }
      sys := { s.sys with stop := some ⟨.ramp, some (s.time + 5 * sec), c⟩ } }
  else stopOpen (some (s.time + 5 * sec)) c s

/-! ## The setpoint mailbox (R336 to R340) -/

/-- The first raw TIME count whose network time is `ns` or later (the map of R504). -/
def rawOfNs (s : State) (ns : Nat) : Nat :=
  let rb := s.get64 F.PTP_MAP_RBASE_LO_VALUE F.PTP_MAP_RBASE_HI_VALUE
  let nb := s.get64 F.PTP_MAP_NBASE_LO_VALUE F.PTP_MAP_NBASE_HI_VALUE
  let rate := s.getI F.PTP_MAP_RATE_VALUE
  ((rb : Int) - (((nb : Int) - ns) * 2 ^ 40).fdiv (4 * (2 ^ 40 + rate))).toNat

/-- The SYS_TIME in ns that APPLY_MS names: the instant nearest to the present (R340). -/
def applyNs (s : State) (applyMs : Nat) : Int :=
  let nowMs := networkNs s s.time / 1000000
  let d := signed 32 ((applyMs + 2 ^ 32 - nowMs % 2 ^ 32) % 2 ^ 32)
  ((nowMs : Int) + d) * 1000000

/-- Does DISP_CFG.SOURCE enable a path (1 Ethernet, 2 CANA)? -/
def pathOn (s : State) (path : Nat) : Bool := s.get F.DISP_CFG_SOURCE / path % 2 == 1

/-- The checks of R338 in their order: the reject code of a setpoint, or none. -/
def setpointReject (path : Nat) (b : List Byte) (s : State) : Option Nat :=
  let timed := numAt b 1 1 % 2 == 1
  if s.direct then some 7
  else if s.get F.SYS_MODE_PERSONALITY ≠ 1 ∨ !pathOn s path then some 1
  else if !(s.st == stStandby || s.st == stPrecharge || s.st == stRun) then some 3
  else if !(b.length == 8 || b.length == 16) || numAt b 1 1 / 2 != 0 then some 6
  else if numAt b 0 1 ≠ s.get F.CTL_CFG_OUTER_MODE then some 2
  else if timed && !timeValid s then some 4
  else if timed && (b.length != 16 ||
      decide (10000000000 < applyNs s (numAt b 12 4) - (networkNs s s.time : Int))) then some 5
  else none

/-- Is a setpoint stale (R339)? -/
def setpointStale (path : Nat) (b : List Byte) (s : State) : Bool :=
  let base := if path = 1 then s.disp.baseEth else s.disp.baseCan
  let d := base.map (fun x => (numAt b 2 2 + 65536 - x) % 65536)
  let late := numAt b 1 1 % 2 == 1 &&
    decide (applyNs s (numAt b 12 4) + (s.get F.DISP_LOSS_T_HOLD * 1000000 : Nat) < (networkNs s s.time : Int))
  d.any (fun x => decide (x = 0 ∨ 32767 < x)) || late

/-- The rate that RAMP names (R336); none for a step. -/
def rampOf (s : State) (ramp : Nat) : Option Nat :=
  let r := if ramp = 0 then s.get F.DISP_RAMP_DEF_RATE else ramp
  if ramp = 0xFFFFFFFF ∨ r = 0 then none else some r

/-- A newer setpoint is accepted (R339, R340, R343, R344). -/
def setpointAccept (path : Nat) (b : List Byte) (s : State) : State :=
  let timed := numAt b 1 1 % 2 == 1
  let at_ : Option Nat := if timed then some (rawOfNs s (applyNs s (numAt b 12 4)).toNat) else none
  let sp : Setpoint := ⟨numAt b 0 1, signed 32 (numAt b 4 4), rampOf s (numAt b 8 4), path, at_⟩
  let seq := numAt b 2 2
  let s := (s.bump F.DISP_SP_ACC_VALUE 1).setB F.DISP_STATUS_LATE false
  let s := (s.setB F.DISP_STATUS_LOST false).setB F.DISP_STATUS_PENDING timed
  { s with disp := { s.disp with
    baseEth := if path = 1 then some seq else s.disp.baseEth
    baseCan := if path = 2 then some seq else s.disp.baseCan
    lastAccept := s.time
    lateSeen := false
    lostSeen := false
    waiting := if timed then some sp else none
    incoming := if timed then s.disp.incoming else some sp } }

/-- A setpoint arrives by a path (R337 to R340). -/
def setpointIn (path : Nat) (b : List Byte) (s : State) : State :=
  match setpointReject path b s with
  | some code => (s.bump F.DISP_SP_REJ_VALUE 1).set F.DISP_STATUS_REJ_REASON code
  | none => if setpointStale path b s then s.bump F.DISP_SP_STALE_VALUE 1 else setpointAccept path b s

/-- SETPOINT (R337): opcode 0x0600 in an RCP-2 packet over UDP, without a reply; BAD_OPCODE in any other form. -/
def execSetpoint (c : Ctx) (bytes : List Byte) (s : State) : Host.Outcome State Fault Refusal :=
  finish (if rcpOpen c s then
      if isUdp c.src && !c.v1 then setpointIn 1 bytes (noteHeard s) else reply c 0x0600 stBadOp [] (noteHeard s)
    else s)

/-- SETPOINT_CAN_FRAME (R337): a CANA frame with the identifier of DISP_CAN_ID; receive object 63 takes it too. -/
def execSetpointCanFrame (bytes : List Byte) (s : State) : Host.Outcome State Fault Refusal :=
  finish (if canOn s .cana && (bytes.length ≤ 8 || canFdEn s .cana) then
    let f : CanFrame := { len := bytes.length, fdf := decide (8 < bytes.length), brs := false, data := bytes, at_ := s.time }
    let id := ownerWord (s.word F.DISP_CAN_ID_ID.addr)
    setpointIn 2 bytes (canIn .cana id.1 id.2 f s)
  else s)

/-! ## Activation and ramps (R340, R341, R344) -/

/-- The outer section's u history is the present request and its e history zero (R344, R309). -/
def outerReload (i : Rat) (s : State) : State :=
  let u := i / ((s.get F.CTL_ISENSE_I_FS : Nat) : Rat)
  { s with ctl := { s.ctl with outer := { u1 := u, u2 := u, u3 := u }, outerPend := none, outerReq := i } }

/-- A setpoint becomes active; one that repeats target and rate leaves a running ramp untouched. -/
def activate (sp : Setpoint) (s : State) : State :=
  let same := s.disp.active.any (fun a => a.value == sp.value && a.rate == sp.rate && a.kind == sp.kind) &&
    !s.disp.lossRamp
  let mode := s.get F.CTL_CFG_OUTER_MODE
  let i := s.disp.lossReq
  let s := if s.disp.lossRamp then
      let s := if mode = 0 then { s with disp := { s.disp with req := i * 1000 } } else outerReload i s
      { s with disp := { s.disp with lossRamp := false } }
    else s
  let s := { s with disp := { s.disp with active := some sp } }
  let s := ((s.setB F.DISP_STATUS_VALID true).set F.DISP_STATUS_KIND sp.kind).set F.DISP_STATUS_SRC_LAST sp.path
  let s := s.setI F.DISP_TARGET_VALUE sp.value
  if same then s
  else
    let s := pulseCut s
    match sp.rate with
    | none => { s with disp := { s.disp with req := (sp.value : Rat) } }.setB F.DISP_STATUS_RAMPING false
    | some _ => { s with disp := { s.disp with rampAt := s.time } }.setB F.DISP_STATUS_RAMPING true

/-- A timed setpoint becomes active, and PENDING clears. -/
def activateWaiting (s : State) : State :=
  match s.disp.waiting with
  | some sp => activate sp ({ s with disp := { s.disp with waiting := none } }.setB F.DISP_STATUS_PENDING false)
  | none => s

/-- TIMED_SETPOINT_APPLY (R340): the first outer-loop sample at or after its instant. -/
def execTimedSetpointApply (s : State) : Host.Outcome State Fault Refusal :=
  finish (match s.disp.waiting with
    | some sp =>
      match sp.applyAt with
      | some t => activateWaiting (s.at ((t + 2499) / 2500 * 2500))
      | none => s
    | none => s)

/-- One ramp step of 10 µs toward a target; the flag says that it is reached. -/
def rampStep (x target step : Rat) : Rat × Bool :=
  if absQ (target - x) ≤ step then (target, true)
  else if x < target then (x + step, false) else (x - step, false)

/-- Does a ramp move at this sample: one runs, and it began before (R341, R343)? -/
def rampMoves (s : State) : Bool := s.flag F.DISP_STATUS_RAMPING && decide (s.disp.rampAt < s.time)

/-- The loss ramp at an outer-loop sample (R343); with LOSS_ACTION a controlled stop follows. -/
def lossStep (s : State) : State :=
  if !rampMoves s then s
  else
    let r := rampStep s.disp.lossReq 0 (((s.get F.DISP_RAMP_LOSS_RAMP : Nat) : Rat) / 1000)
    let s := { s with disp := { s.disp with lossReq := r.1 } }
    if r.2 then
      let s := raise C.RAMP_DONE (s.setB F.DISP_STATUS_RAMPING false)
      if s.flag F.DISP_CFG_LOSS_ACTION && s.st == stRun && s.sys.stop.isNone then controlledStop none s else s
    else s

/-- The ramp of the active setpoint at an outer-loop sample (R341). -/
def reqStep (s : State) : State :=
  match s.disp.active with
  | some sp =>
    match sp.rate with
    | some rate =>
      if rampMoves s then
        let r := rampStep s.disp.req (sp.value : Rat) (((rate : Nat) : Rat) / 100000)
        let s := { s with disp := { s.disp with req := r.1 } }
        if r.2 then raise C.RAMP_DONE (s.setB F.DISP_STATUS_RAMPING false) else s
      else s
    | none => s
  | none => s

/-- DISP_REQ (R335, R357): 0 while the loop is open, else the recipe's request, the loss ramp's in OUTER_MODE 0, or the
ramped setpoint, which in modes 1 to 3 stands still during a loss ramp (DEDUCED, log entry 159). -/
def shownRequest (s : State) : Rat :=
  if !s.flag F.CTL_STATUS_CLOSED then 0
  else match s.disp.run with
    | some r => r.req * 1000
    | none =>
      if s.disp.lossRamp && s.get F.CTL_CFG_OUTER_MODE == 0 then s.disp.lossReq * 1000 else s.disp.req

/-- Dispatch at an outer-loop sample: setpoints become active and the request ramps (R340, R341, R343). -/
def dispatchSample (s : State) : State :=
  let s := match s.disp.incoming with
    | some sp => activate sp { s with disp := { s.disp with incoming := none } }
    | none => s
  let due := s.disp.waiting.any (fun sp => sp.applyAt.any (fun t => decide (t ≤ s.time)))
  let s := if due then activateWaiting s else s
  let s := if s.disp.lossRamp then lossStep s else reqStep s
  s.setI F.DISP_REQ_VALUE (roundQ (shownRequest s))

/-! ## Setpoint loss (R343) -/

/-- The loss timer runs. -/
def lossTimer (s : State) : Bool :=
  s.flag F.CTL_STATUS_CLOSED && s.get F.SYS_MODE_PERSONALITY == 1 && s.get F.DISP_CFG_SOURCE != 0

/-- SETPOINT_LATE (R343): more than 2 × PERIOD since the last restart, once per gap. -/
def execSetpointLate (s : State) : Host.Outcome State Fault Refusal :=
  finish (if lossTimer s && !s.disp.lateSeen then
    let s := s.at (s.disp.lastAccept + 2 * s.get F.DISP_LOSS_PERIOD * ms + 1)
    raise C.SETPOINT_LATE ({ s with disp := { s.disp with lateSeen := true } }.setB F.DISP_STATUS_LATE true)
  else s)

/-- SETPOINT_LOSS (R339, R343): T_HOLD since the last restart. -/
def execSetpointLoss (s : State) : Host.Outcome State Fault Refusal :=
  finish (if lossTimer s && !s.disp.lostSeen then
    let s := s.at (s.disp.lastAccept + s.get F.DISP_LOSS_T_HOLD * ms)
    let i := requestNow s
    let s := if i = 0 then s else pulseCut s
    let s := causeRec C.SETPOINT_LOSS sevWarning [] ((s.setB F.DISP_STATUS_LOST true).setB F.DISP_STATUS_PENDING false)
    let s := s.setB F.DISP_STATUS_RAMPING true
    { s with disp := { s.disp with
      waiting := none, incoming := none, baseEth := none, baseCan := none, lossRamp := true, lossReq := i,
      lostSeen := true, rampAt := s.time } }
  else s)

/-! ## Limit entries (R345) -/

/-- The dispatch request `req` is clamped to a limit, both in A. -/
def limitClamp (req limit : Rat) (dis : Bool) (src : Nat) (s : State) : State :=
  let short := absQ req - limit
  let s := s.set F.DISP_SHORTFALL_VALUE (roundQ (short * 1000)).toNat
  let s := s.set F.DISP_SHORTFALL_W_VALUE (roundQ (short * s.ctl.fb.vStr)).toNat
  let entry := !s.flag F.DISP_STATUS_LIMIT
  let s := (s.setB F.DISP_STATUS_LIMIT true).setB F.DISP_STATUS_LIM_DIS dis
  let s := { s with disp := { s.disp with lastClamp := some s.time } }
  if entry then
    causeRec C.LIMIT_ACTIVE sevInfo (u8 src ++ s32 (roundQ (req * 1000)) ++ u32 (roundQ (limit * 1000)).toNat)
      (s.bump F.DISP_LIMIT_CNT_VALUE 1)
  else s

/-- A limit entry ends 100 ms after the last clamp. -/
def limitEnd (s : State) : State :=
  let s := { s with disp := { s.disp with lastClamp := none } }
  let s := (s.setB F.DISP_STATUS_LIMIT false).setB F.DISP_STATUS_LIM_DIS false
  (s.set F.DISP_SHORTFALL_VALUE 0).set F.DISP_SHORTFALL_W_VALUE 0

/-- LIMIT_ENTRY_END (R345). -/
def execLimitEntryEnd (s : State) : Host.Outcome State Fault Refusal :=
  finish (match s.disp.lastClamp with
    | some t => limitEnd (s.at (t + 100 * ms))
    | none => s)

/-! ## Recipes: stored steps (R346 to R349) -/

abbrev isPlant (s : State) : Bool := s.get F.SYS_MODE_PERSONALITY == 1

def putRecipe (r : Nat) (x : Recipe) (s : State) : State :=
  { s with disp := { s.disp with recipes := tabSet s.disp.recipes r x } }

def sealedBit (s : State) (r : Nat) : Bool := s.get F.DISP_RCP_SEALED_SEALED / 2 ^ r % 2 == 1

def setSealed (r : Nat) (b : Bool) (s : State) : State :=
  s.setB ⟨F.DISP_RCP_SEALED_SEALED.addr, r, 1⟩ b

/-- TERM `k` of a step: its kind, its action and its threshold. -/
def stTerm (b : List Byte) (k : Nat) : Nat × Nat × Int :=
  (numAt b (20 + 8 * k) 1, numAt b (21 + 8 * k) 1, signed 32 (numAt b (24 + 8 * k) 4))

/-- Is an action one of R347 with its target below the step count? -/
def actionOk (count a : Nat) : Bool := decide (a < count) || a == 0xFF || a == 0xFE || a == 0xFD

/-- The checks of R346 on one step. The on and off times of a PULSE step lie in the range of R348 (DEDUCED, log entry 27). -/
def stepOk (s : State) (count : Nat) (b : List Byte) : Bool :=
  let ir : Int := (s.get F.CTL_IRATED_IRATED : Nat)
  let within (i : Int) : Bool := decide (i.natAbs ≤ ir.natAbs)
  let termOk (k : Nat) : Bool := (stTerm b k).1 == 0 || actionOk count (stTerm b k).2.1
  let base := decide (1 ≤ stTmax b ∧ stTmax b ≤ 864000) && actionOk count (stTmaxAct b) && termOk 0 && termOk 1 &&
    termOk 2
  base && (match stType b with
    | 1 => within (stP b 1)
    | 2 => within (stP b 2)
    | 3 => within (stP b 2) && decide (stP b 1 ≤ (10 * s.get F.EST_VLIM_V_MAX : Nat))
    | 4 => true
    | 5 =>
      let n := if stP b 1 ≤ 0 then s.get F.EIS_CFG_N_AVG else (stP b 1).toNat
      decide ((n + 1) * 10 + 10 ≤ stTmax b)
    | 6 => within (stP b 1) && decide (1 ≤ stP b 2 ∧ stP b 2 ≤ 60000 ∧ 1 ≤ stP b 3 ∧ stP b 3 ≤ 60000)
    | _ => false)

/-- The first step below the count that fails a check. -/
def firstFail (s : State) (x : Recipe) (count : Nat) : Option Nat :=
  (List.range count).find? (fun n => !stepOk s count (stepRec x n))

def running (s : State) (r : Nat) : Bool := s.disp.run.any (fun x => x.recipe == r)

def doRecipeWrite (c : Ctx) (r n : Nat) (b : List Byte) (s : State) : State :=
  if isPlant s || running s r then replyForbids c 0x0601 s
  else if 15 < r then replyRange c 0x0601 0 s
  else if 63 < n then replyRange c 0x0601 1 s
  else
    let x := getRecipe s r
    replyOk c 0x0601 [] (setSealed r false (putRecipe r { x with steps := tabSet x.steps n b } s))

/-- RECIPE_WRITE (R346, R361). -/
def execRecipeWrite (c : Ctx) (recipe step : BitVec 8) (record : List Byte) (s : State) :
    Host.Outcome State Fault Refusal :=
  finish (withCmd c 0x0601 (doRecipeWrite c recipe.toNat step.toNat ((record ++ List.replicate 48 (0 : Byte)).take 48)) s)

def doRecipeSeal (c : Ctx) (r count limit : Nat) (s : State) : State :=
  if isPlant s || running s r then replyForbids c 0x0602 s
  else if 15 < r then replyRange c 0x0602 0 s
  else if count < 1 ∨ 64 < count then replyRange c 0x0602 1 s
  else
    let x := getRecipe s r
    let s := putRecipe r { x with count := count, limit := limit } s
    match firstFail s x count with
    | some n => replyIncons c 0x0602 n (setSealed r false s)
    | none =>
      let s := setSealed r true s
      let v := s.fresh
      replyOk c 0x0602 (u8 v.1) v.2

/-- RECIPE_SEAL (R346, R361): count and limit are taken before the checks, and a recipe that fails one is unsealed (DESIGN
CHOICE, log entry 160); the OK reply's step byte is a free value, since no step fails (DEDUCED, log entry 26). -/
def execRecipeSeal (c : Ctx) (recipe count : BitVec 8) (limit : BitVec 32) (s : State) :
    Host.Outcome State Fault Refusal :=
  finish (withCmd c 0x0602 (doRecipeSeal c recipe.toNat count.toNat limit.toNat) s)

/-- Does the recipe hold a step of a type? -/
def hasType (x : Recipe) (t : Nat) : Bool := (List.range x.count).any (fun n => stType (stepRec x n) == t)

def doRecipeStart (c : Ctx) (r first : Nat) (s : State) : State :=
  let x := getRecipe s r
  if isPlant s || !s.flag F.CTL_STATUS_CLOSED then replyForbids c 0x0603 s
  else if 15 < r then replyRange c 0x0603 0 s
  else if s.get F.SYS_MODE_PERSONALITY ≠ 2 ∨ s.get F.CTL_CFG_OUTER_MODE ≠ 0 ∨ !sealedBit s r ∨ s.disp.run.isSome ∨
      (hasType x 3 && !fcvBoards s) ∨ (hasType x 5 && s.flag F.EIS_STATUS_UNAVAIL) then replyIncons c 0x0603 0 s
  else if x.count ≤ first then replyRange c 0x0603 1 s
  else
    let s := replyAccepted c 0x0603 s
    let s := ((s.set F.DISP_RCP_STATUS_RECIPE r).set F.DISP_RCP_STATUS_STEP first).setB F.DISP_RCP_STATUS_RUNNING true
    let x : Run := {
      recipe := r, step := first, ctx := c, startAt := s.time, stepAt := s.time, next := some first,
      dueAt := s.time + 2 * ms }
    { s with disp := { s.disp with run := some x } }

/-- RECIPE_START (R351, R361): the first step starts at the next outer-loop sample. -/
def execRecipeStart (c : Ctx) (recipe first : BitVec 8) (s : State) : Host.Outcome State Fault Refusal :=
  finish (withCmd c 0x0603 (doRecipeStart c recipe.toNat first.toNat) s)

def doRecipeStop (c : Ctx) (s : State) : State :=
  if isPlant s then replyForbids c 0x0604 s else replyOk c 0x0604 [] (recipeEnd 3 s)

/-- RECIPE_STOP (R352, R361). -/
def execRecipeStop (c : Ctx) (s : State) : Host.Outcome State Fault Refusal :=
  finish (withCmd c 0x0604 (doRecipeStop c) s)

def doGradeRead (c : Ctx) (first count : Nat) (s : State) : State :=
  match s.disp.grades with
  | none => replyForbids c 0x0605 s
  | some g =>
    if count < 1 ∨ 32 < count then replyRange c 0x0605 2 s
    else if posCount s < first + count then replyRange c 0x0605 0 s
    else
      let p := ((g.drop first).take count).flatten
      if c.v1 && decide (255 < p.length) then replyRange c 0x0605 2 s else replyOk c 0x0605 p s

/-- GRADE_READ (R353, R361). -/
def execGradeRead (c : Ctx) (first : BitVec 16) (count : BitVec 8) (s : State) : Host.Outcome State Fault Refusal :=
  finish (withCmd c 0x0605 (doGradeRead c first.toNat count.toNat) s)

/-! ## Recipes: running (R348 to R352) -/

/-- The action of a termination, of TMAX or of an EIS step's end (R347). -/
def takeAction (a : Nat) (s : State) : State :=
  match s.disp.run with
  | none => s
  | some r =>
    let x := stepEnd true r s
    let r := x.1
    let s := { x.2 with disp := { x.2.disp with run := some r } }
    if a = 0xFE then recipeEnd 1 s
    else if a = 0xFD then recipeEnd 2 s
    else
      let n := if a = 0xFF then r.step + 1 else a
      if (getRecipe s r.recipe).count ≤ n then recipeEnd 1 s
      else { s with disp := { s.disp with run := some { r with next := some n, dueAt := s.time + 2 * ms } } }

/-- An EIS step starts its DEDICATED measurement (R202, R348). -/
def stepMeasure (n : Nat) (s : State) : State :=
  if s.eis.meas.isSome || s.eis.closing.isSome || s.eis.pulse.isSome then s
  else setMeas { mode := 2, n := n, phase := .waiting, ctx := none, reqAt := s.time } s

/-- A step starts at an outer-loop sample (R348, R350). -/
def stepStart (n : Nat) (r : Run) (s : State) : State :=
  let b := stepRec (getRecipe s r.recipe) n
  let change := n != r.step
  let mA (i : Int) : Rat := (i : Rat) / 1000
  let req : Rat := match stType b with
    | 1 => mA (stP b 1)
    | 2 => mA (stP b 2)
    | 3 => mA (stP b 2)
    | 6 => mA (stP b 1)
    | _ => 0
  let saved : Option Nat := if stType b = 3 then some (s.get F.BAL_CFG_POLICY) else none
  let s := if stType b = 3 then
      ((s.set F.BAL_CFG_POLICY 3).set F.BAL_FCV_V_CV (stP b 1).toNat).setB F.BAL_STATUS_OWNED true
    else s
  let mark := stFlags b % 2 == 1
  let r := { r with
    step := n, next := none, active := true, stepAt := s.time, q0 := s.ctl.coulomb, req := req, saved := saved,
    on := true, satLow := false,
    toggleAt := if stType b = 6 then some (s.time + (stP b 2).toNat * ms) else none,
    eisOn := stType b == 5 && s.eis.meas.isNone && s.eis.closing.isNone && s.eis.pulse.isNone, grading := r.grading || mark }
  let s := { s with disp := { s.disp with run := some r, qGrade := if mark then [] else s.disp.qGrade } }
  let s := pulseCut (s.set F.DISP_RCP_STATUS_STEP n)
  let s := s.setI F.DISP_TARGET_VALUE (roundQ (req * 1000))
  let s := if change then raise C.RECIPE_STEP s else s
  if stType b = 5 then stepMeasure (stP b 1).toNat s else s

/-- RECIPE_STEP_START (R350): the first outer-loop sample after the next step's request is ready. -/
def execRecipeStepStart (s : State) : Host.Outcome State Fault Refusal :=
  finish (match s.disp.run with
    | some r =>
      match r.next with
      | some n => stepStart n r (s.at ((min s.time r.dueAt + 2499) / 2500 * 2500))
      | none => s
    | none => s)

/-- A step whose start is 2 ms old starts at the outer-loop sample at hand (R350). -/
def stepOverdue (s : State) : State :=
  match s.disp.run with
  | some r =>
    match r.next with
    | some n => if r.dueAt ≤ s.time then stepStart n r s else s
    | none => s
  | none => s

/-- The request of the running step changes. -/
def runReq (i : Rat) (s : State) : State :=
  match s.disp.run with
  | some r =>
    if r.req = i then s else pulseCut { s with disp := { s.disp with run := some { r with req := i } } }
  | none => s

/-- RECIPE_TIME_LIMIT (R352 code 4). -/
def execRecipeTimeLimit (s : State) : Host.Outcome State Fault Refusal :=
  finish (match s.disp.run with
    | some r => recipeEnd 4 (s.at (r.startAt + (getRecipe s r.recipe).limit * sec))
    | none => s)

/-- PULSE_STEP_TOGGLE (R348). -/
def execPulseStepToggle (s : State) : Host.Outcome State Fault Refusal :=
  finish (match s.disp.run with
    | some r =>
      match r.toggleAt with
      | some t =>
        let b := stepRec (getRecipe s r.recipe) r.step
        let on := !r.on
        let s := s.at t
        let s := { s with disp := { s.disp with run := some { r with
          on := on, toggleAt := some (t + (if on then stP b 2 else stP b 3).toNat * ms) } } }
        runReq (if on then (stP b 1 : Rat) / 1000 else 0) s
      | none => s
    | none => s)

/-! ## Recipes at the estimation tick (R348, R349, R350) -/

/-- What a tick offers the termination conditions: highest and lowest V_SCAN (0.01 mV), highest TEMP, and whether every
admitted position is in CV with its cell current at or below a threshold (0.001 A). -/
structure TickView where
  vHigh : Int
  vLow : Int
  tHigh : Int
  cvBelow : Int → Bool

/-- V_STR in 0.001 V (R161, R348): MEAS_VSUM while POD_OK is 0. -/
def vStrMv (s : State) : Int :=
  signed 32 (if s.flag F.MEAS_STATUS_POD_OK then s.get F.MEAS_VSTR_VALUE else s.get F.MEAS_VSUM_VALUE)

/-- Does a termination condition hold (R349)? -/
def termHolds (v : TickView) (s : State) (r : Run) (kind : Nat) (thr : Int) : Bool :=
  match kind with
  | 1 => decide (thr ≤ vStrMv s)
  | 2 => decide (vStrMv s ≤ thr)
  | 3 => decide (10 * thr ≤ v.vHigh)
  | 4 => decide (v.vLow ≤ 10 * thr)
  | 5 => decide (absQ s.ctl.fb.iStr * 1000 ≤ (thr : Rat))
  | 6 => decide (thr ≤ ((stepCharge s r).natAbs : Int))
  | 7 => v.cvBelow thr
  | 8 => decide (thr ≤ v.tHigh)
  | _ => false

/-- The action of the lowest TERM slot that holds. -/
def termAction (v : TickView) (s : State) (r : Run) (b : List Byte) : Option Nat :=
  ((List.range 3).find? (fun k => termHolds v s r (stTerm b k).1 (stTerm b k).2.2)).map (fun k => (stTerm b k).2.1)

/-- The CV_STRING request moves (R348). -/
def cvString (r : Run) (b : List Byte) (s : State) : State :=
  let p2 : Rat := (stP b 2 : Rat) / 1000
  let k : Rat := ((s.get F.DISP_RCP_CFG_K_CV : Nat) : Rat) / 100
  let i := r.req + k * ((stP b 1 - vStrMv s : Int) : Rat) / 1000
  runReq (clampQ (minQ 0 p2) (maxQ 0 p2) i) s

/-- The conditions of the running step at an estimation tick (R350): the lowest TERM slot that holds from 1 s after the
step's start on, else the end of an EIS step's measurement, else TMAX. -/
def recipeAct (v : TickView) (s : State) : State :=
  match s.disp.run with
  | none => s
  | some r =>
    if r.active then
      let b := stepRec (getRecipe s r.recipe) r.step
      let code := s.get F.EIS_STATUS_LAST_END
      match (if r.stepAt + sec ≤ s.time then termAction v s r b else none) with
      | some a => takeAction a s
      | none =>
        if r.eisOn && s.eis.meas.isNone && s.eis.closing.isNone then
          takeAction (if code = 1 ∨ code = 2 then 0xFF else stTmaxAct b) s
        else if r.stepAt + stTmax b * sec ≤ s.time then takeAction (stTmaxAct b) s
        else s
    else s

/-- The recipe engine at an estimation tick. -/
def recipeTick (v : TickView) (s : State) : State :=
  match s.disp.run with
  | none => s
  | some r =>
    let s := s.set F.DISP_RCP_TIME_VALUE ((s.time - r.startAt) / sec)
    if r.active then
      let b := stepRec (getRecipe s r.recipe) r.step
      let s := (s.set F.DISP_RCP_STEP_TIME_VALUE (stepMs s r)).setI F.DISP_RCP_STEP_Q_VALUE (stepCharge s r)
      recipeAct v (if stType b = 2 then cvString r b s else s)
    else s

end Sys2Proof.Machine
end

