-- ==== Sys2Proof/Machine/Snap.lean ====
section
/-!
DEFINITION. The counter snapshot (R86 to R89).
-/

namespace Sys2Proof.Machine

/-- A request: BUSY sets; one that comes while BUSY is 1 is merged with the running copy (R86). -/
def snapRequest (s : State) : State :=
  { s with sys := { s.sys with snapReq := true } }.setB F.SYS_SNAP_BUSY true

/-- All drops of records, of every severity. -/
def allDrops (s : State) : Nat := (List.range 5).foldl (fun n k => n + s.get (F.EVR_DROP_VALUE k)) 0

/-- A number rounded to its unit, as the 64 bits of its two's complement code. -/
def bits64 (x : Rat) : Nat := unsigned 64 (roundQ x)

/-- Every SNAP_* word takes its counter (R88). -/
def snapWords (s : State) : State :=
  let v := timeValid s
  let s := s.set64 F.SNAP_TIME_RAW_LO_VALUE F.SNAP_TIME_RAW_HI_VALUE s.time
  let s := s.set64 F.SNAP_SYS_SEC_LO_VALUE F.SNAP_SYS_SEC_HI_VALUE (sysSeconds s)
  let s := s.set F.SNAP_SYS_NS_VALUE (sysNanos s + 2 ^ 31 * b2n v)
  let s := s.set F.SNAP_OP_SEC_VALUE s.sys.opSec
  let s := s.set64 F.SNAP_COULOMB_LO_VALUE F.SNAP_COULOMB_HI_VALUE (bits64 (s.ctl.coulomb * 1000))
  let s := s.set64 F.SNAP_E_CHG_LO_VALUE F.SNAP_E_CHG_HI_VALUE (bits64 s.ctl.eChg)
  let s := s.set64 F.SNAP_E_DIS_LO_VALUE F.SNAP_E_DIS_HI_VALUE (bits64 s.ctl.eDis)
  let s := s.set F.SNAP_CVL_ERR_VALUE (s.get F.CVL_ERRORS_COUNT)
  let s := s.set F.SNAP_CTL_MISS_VALUE (s.get F.CTL_MISS_CNT_VALUE)
  let s := s.set F.SNAP_RCP_DROP_VALUE (s.get F.CMD_CNT_CRC_COUNT)
  let s := s.set F.SNAP_CANA_ERR_VALUE (s.get (F.CAN_ERR_CNT_VALUE 0))
  let s := s.set F.SNAP_CANB_ERR_VALUE (s.get (F.CAN_ERR_CNT_VALUE 1))
  let s := s.set F.SNAP_EVR_DROP_VALUE (allDrops s)
  let s := s.set F.SNAP_POWER_CYCLES_VALUE s.sys.pwrCycles
  s.set F.SNAP_TIME_VALID_VALUE (b2n v)

/-- The copy at the first control tick after a request: SNAP_SEQ increments after every word has been written, BUSY
clears, and the SNAPSHOT requests get their replies (R86, R89, R491). -/
def snapCopy (s : State) : State :=
  if s.sys.snapReq then
    let l := s.sys.snapCtx
    let s := ((snapWords s).bump F.SNAP_SEQ_SEQ 1).setB F.SYS_SNAP_BUSY false
    let s := { s with sys := { s.sys with snapReq := false, snapCtx := [] } }
    l.foldl (fun s c => replyOk c 0x0006 (u32 (s.get F.SNAP_SEQ_SEQ)) s) s
  else s

/-- SNAPSHOT_COPY (R86): the next control tick's instant is reached. -/
def execSnapshotCopy (s : State) : Host.Outcome State Fault Refusal :=
  finish (if s.sys.snapReq && enginesUp s then snapCopy (s.at (nextTick (s.sys.ticks.lookup tkControl) 250 s.time))
    else s)

/-- SNAPSHOT replies only after the copy (R86, R491). -/
def doSnapshot (c : Ctx) (s : State) : State :=
  let s := snapRequest s
  { s with sys := { s.sys with snapCtx := s.sys.snapCtx ++ [c] } }

def execSnapshot (c : Ctx) (s : State) : Host.Outcome State Fault Refusal :=
  finish (withCmd c 0x0006 (doSnapshot c) s)

end Sys2Proof.Machine
end

