-- ==== Sys2Proof/Machine/Ctl.lean ====
section
/-!
DEFINITION. Converter control (chapter 9): the current loop, the outer loop with the limit stack and the repetitive
controller, closing and opening, feedback supervision, deadlines and precharge.
-/

namespace Sys2Proof.Machine

/-! ## Scaling and sections -/

def iFsA (s : State) : Rat := (s.get F.CTL_ISENSE_I_FS : Nat)
def vFsV (s : State) : Rat := (s.get F.CTL_VSENSE_V_FS : Nat)

/-- +1 or -1 by POLARITY (R298). -/
def polarity (s : State) : Rat := if s.flag F.CTL_CFG_POLARITY then -1 else 1

/-- A bank word (R311), signed with 2⁻²⁸ per count. -/
def bankAddr (bankB : Bool) (i : Nat) : Nat := (if bankB then 0x20180 else 0x20100) + 4 * i

def coef (s : State) (i : Nat) : Rat :=
  (signed 32 (s.word (bankAddr (s.flag F.CTL_CFG_BANK) i)).toNat : Rat) / 268435456

/-- The sum of R299 with coefficients b0 to b3 at word `b`, a1 to a3 at word `a`; a 2p2z section has `third` false. -/
def sectionOut (s : State) (b a : Nat) (third : Bool) (e : Rat) (h : Hist) : Rat :=
  let r := coef s b * e + coef s (b + 1) * h.e1 + coef s (b + 2) * h.e2 - coef s a * h.u1 - coef s (a + 1) * h.u2
  if third then r + coef s (b + 3) * h.e3 - coef s (a + 2) * h.u3 else r

/-- The history after a sample with error `e` and applied output `u`. -/
def pushHist (e u : Rat) (h : Hist) : Hist := ⟨e, h.e1, h.e2, u, h.u1, h.u2⟩

def phases (s : State) : Nat := s.get F.CTL_CFG_PHASES

/-- PERIOD in steps of 78.125 ps; 256 steps are 5 TIME counts. -/
def pwmPeriod (s : State) : Nat := s.get F.CTL_PWM_PERIOD_PERIOD

def dMin (s : State) : Rat := ((s.get F.CTL_PWM_DUTY_D_MIN : Nat) : Rat) / 65536
def dMax (s : State) : Rat := ((s.get F.CTL_PWM_DUTY_D_MAX : Nat) : Rat) / 65536

/-! ## Feedback (R291, R293, R298 step 1) -/

/-- A signed sample of `n` bits with a full scale; one that is calibrated as input `k` (R645). -/
def sampleA (n v : Nat) (fs : Rat) : Rat := (signed n v : Rat) * (2 * fs / ((2 ^ n : Nat) : Rat))

def sampleCal (s : State) (k n v : Nat) (fs : Rat) : Rat :=
  calibrated s k (signed n v : Rat) * (2 * fs / ((2 ^ n : Nat) : Rat))

/-- What CE0 latches at a control tick. -/
def latchFb (iStr vStr vBus : BitVec 16) (iPh : List (BitVec 12)) (iAux : BitVec 14) (s : State) : State :=
  let fb : Feedback :=
    { iStr := sampleA 16 iStr.toNat (iFsA s)
      vStr := sampleA 16 vStr.toNat (vFsV s)
      vBus := sampleA 16 vBus.toNat (s.get F.CTL_VSENSE_BUS_FS : Nat)
      iPh := iPh.mapIdx (fun k x => sampleCal s k 12 x.toNat (s.get F.CTL_PHSENSE_PH_FS : Nat))
      iAux := sampleCal s 6 14 iAux.toNat (s.get F.CTL_ISENSE_AUX_FS : Nat) }
  { s with ctl := { s.ctl with fb := fb } }

/-- The current that counts charge and energy: I_str, or I_AUX while the primary feedback is lost (R317). -/
def countCurrent (s : State) : Rat := if s.flag F.CTL_FB_PRIMARY_LOST then s.ctl.fb.iAux else s.ctl.fb.iStr

/-- The 1 ms sums and the charge and energy counters take this tick's samples (R88, R317, R398). -/
def countTick (s : State) : State :=
  let i := countCurrent s
  let e := vConv s * i / 3600000000
  let w := windowOf s.time
  let a := tabGet s.acq.str w {}
  let s := { s with acq := { s.acq with str := tabSet s.acq.str w ⟨a.n + 1, a.v + s.ctl.fb.vStr, a.i + i⟩ } }
  { s with ctl := { s.ctl with
    sumStr := s.ctl.sumStr + s.ctl.fb.iStr
    sumAux := s.ctl.sumAux + s.ctl.fb.iAux
    sumV := s.ctl.sumV + s.ctl.fb.vStr
    sumN := s.ctl.sumN + 1
    coulomb := s.ctl.coulomb + i / 1000000
    eChg := if 0 < i then s.ctl.eChg + e else s.ctl.eChg
    eDis := if i < 0 then s.ctl.eDis - e else s.ctl.eDis } }

/-- GATE_FLT levels in CTL_FB and PWM_PHx (R329, R331). -/
def setGate (levels : Nat) (s : State) : State :=
  (List.range 6).foldl (fun s x => s.setB (F.PWM_PH_GATE_FLT x) (levels / 2 ^ x % 2 == 1)) (s.set F.CTL_FB_GATE_FLT levels)

/-! ## Feedback supervision (R301, R315, R316) -/

/-- The run lengths of phase overcurrent and auxiliary mismatch after this tick. -/
def countRuns (s : State) : State :=
  let oc : Rat := (s.get F.CTL_PHSENSE_PH_OC : Nat)
  let oc1 (x : Nat) : Nat := if oc < absQ (getAt s.ctl.fb.iPh x 0) then getAt s.ctl.ocRun x 0 + 1 else 0
  let aux := if iFsA s / 20 < absQ (s.ctl.fb.iStr - s.ctl.fb.iAux) then s.ctl.auxRun + 1 else 0
  { s with ctl := { s.ctl with auxRun := aux, ocRun := (List.range (phases s)).map oc1 } }

def phaseOc (s : State) : Bool := s.ctl.ocRun.any (fun n => decide (2 ≤ n))
def auxBad (s : State) : Bool := decide (100 ≤ s.ctl.auxRun)

/-- The Mirage run takes a sample, in LSB, and the present u (R315). -/
def mirageRun (lsb : Int) (s : State) : State :=
  let u := s.ctl.u
  if s.ctl.mirN ≠ 0 ∧ (lsb - s.ctl.mirFirst).natAbs ≤ 2 then
    { s with ctl := { s.ctl with
      mirN := s.ctl.mirN + 1, mirMin := minQ s.ctl.mirMin u, mirMax := maxQ s.ctl.mirMax u } }
  else { s with ctl := { s.ctl with mirFirst := lsb, mirN := 1, mirMin := u, mirMax := u } }

def mirageBad (s : State) : Bool := decide (2000 ≤ s.ctl.mirN) && decide (1 / 100 ≤ s.ctl.mirMax - s.ctl.mirMin)

/-- The primary current feedback is lost (R316): every anchor is dropped (R235, R250). -/
def primaryLost (s : State) : State :=
  { s with est := { s.est with rows := s.est.rows.map (fun (e : Nat × EstPos) => (e.1, { e.2 with anchor := none })) } }.setB
    F.CTL_FB_PRIMARY_LOST true

/-- A latch sets, with its cause (R315). -/
def phaseOcAct (s : State) : State :=
  if s.flag F.CTL_FB_PH_OC_LATCH then s else loopOpen 0x03 (raise C.GATE_FAULT (s.setB F.CTL_FB_PH_OC_LATCH true))

def mirageAct (s : State) : State :=
  if s.flag F.CTL_FB_MIRAGE_LATCH then s
  else loopOpen 0x06 (raise C.MIRAGE (primaryLost (s.setB F.CTL_FB_MIRAGE_LATCH true)))

def auxAct (s : State) : State :=
  if s.flag F.CTL_FB_MISMATCH_LATCH then s
  else loopOpen 0x07 (raise C.AUX_MISMATCH (s.setB F.CTL_FB_MISMATCH_LATCH true))

/-- The supervision of a control tick, causes in rising order of their opening codes (R306). -/
def superviseTick (iStr : BitVec 16) (s : State) : State :=
  let s := countRuns s
  let s := if s.flag F.CTL_STATUS_CLOSED then mirageRun iStr.toInt s else s
  let mirage := s.flag F.CTL_STATUS_CLOSED && mirageBad s
  let s := if phaseOc s then phaseOcAct s else s
  let s := if mirage then mirageAct s else s
  if auxBad s then auxAct s else s

/-- The primary feedback is back once ISD_OK has returned and the Mirage latch has cleared (R316). -/
def primaryBack (s : State) : State :=
  if s.flag F.CTL_FB_ISD_OK && !s.flag F.CTL_FB_MIRAGE_LATCH then s.setB F.CTL_FB_PRIMARY_LOST false else s

/-- FEEDBACK_ACK and CTL_CTRL.FB_ACK (R316): each latch whose condition is absent clears; the flag says that all did. -/
def fbAck (s : State) : State × Bool :=
  let gate := s.get F.CTL_FB_GATE_FLT != 0
  let mirage := s.flag F.CTL_STATUS_CLOSED && mirageBad s
  let keep (f : Fld) (bad : Bool) (s : State) : State := if bad then s else s.setB f false
  let stuck := (s.flag F.CTL_FB_MIRAGE_LATCH && mirage) || (s.flag F.CTL_FB_MISMATCH_LATCH && auxBad s) ||
    (s.flag F.CTL_FB_GATE_LATCH && gate) || (s.flag F.CTL_FB_PH_OC_LATCH && phaseOc s)
  let aux := auxBad s
  let oc := phaseOc s
  let s := keep F.CTL_FB_MIRAGE_LATCH mirage s
  let s := keep F.CTL_FB_MISMATCH_LATCH aux s
  let s := keep F.CTL_FB_GATE_LATCH gate s
  let s := keep F.CTL_FB_PH_OC_LATCH oc s
  (primaryBack s, !stuck)

/-- The three delta-sigma pods (R291): 0 IP-2K, 1 VP-20, 2 bus pod. A bitstream fails (R171, R315): `stuck` says that
its decoded bits stood still while transitions went on. -/
def podFail (pod : Nat) (stuck : Bool) (s : State) : State :=
  let mode := s.get F.CTL_CFG_OUTER_MODE
  let s := raise C.FEEDBACK_LOSS s
  if pod = 0 then
    loopOpen (if stuck then 0x05 else 0x04) (primaryLost (s.setB F.CTL_FB_ISD_OK false))
  else if pod = 1 then
    let s := (s.setB F.CTL_FB_VSD_OK false).setB F.MEAS_STATUS_POD_OK false
    let s := causeRec C.POD_FAULT sevFault [] s
    if mode = 1 ∨ mode = 2 then loopOpen 0x08 s else s
  else
    let s := s.setB F.CTL_FB_BSD_OK false
    if mode = 3 then loopOpen 0x09 s else s

/-- A bitstream has been good for 100 ms (R171, R316). -/
def podBack (pod : Nat) (s : State) : State :=
  if pod = 0 then primaryBack (s.setB F.CTL_FB_ISD_OK true)
  else if pod = 1 then (s.setB F.CTL_FB_VSD_OK true).setB F.MEAS_STATUS_POD_OK true
  else s.setB F.CTL_FB_BSD_OK true

/-! ## The current loop (R298 to R300) -/

/-- The reference clamped to the limits (R37, R38). -/
def clampRef (s : State) (i : Rat) : Rat := clampQ (-s.ctl.limDis) s.ctl.limChg i

/-- One control tick of a ramp toward a target, at a rate in 0.1 A/ms. -/
def slewTo (i target : Rat) (rate : Nat) : Rat × Bool := rampStep i target (((rate : Nat) : Rat) / 10000)

/-- I_ref of this control tick (R298 step 2, R309 step 5, R319, R320). -/
def formRef (s : State) : State :=
  match s.ctl.mode with
  | .stopRamp =>
    let r := slewTo s.ctl.iref 0 (s.get F.CTL_RAMP_STOP_RATE)
    { s with ctl := { s.ctl with iref := clampRef s r.1 } }
  | .scsRamp =>
    let r := slewTo s.ctl.iref 0 (s.get F.SAFE_SCS_SCS_RATE)
    { s with ctl := { s.ctl with iref := clampRef s r.1 } }
  | .dispatch =>
    if s.flag F.CTL_STATUS_SLEWING then
      if s.ctl.refFresh then
        let r := slewTo s.ctl.iref s.ctl.clamped (s.get F.CTL_RAMP_CLOSE_RAMP)
        { s with ctl := { s.ctl with iref := clampRef s r.1 } }.setB F.CTL_STATUS_SLEWING (!r.2)
      else { s with ctl := { s.ctl with iref := clampRef s s.ctl.iref } }
    else
      { s with ctl := { s.ctl with iref := clampRef s (clampRef s s.ctl.clamped + excitation s + pulseNow s) } }

/-- The current section: u after its own limits and after the duty limits, and whether its own limits acted (R299). -/
def currentOut (s : State) (e : Rat) : Rat × Bool :=
  let u := sectionOut s 0 4 true e s.ctl.cur
  let v := clampQ (coef s 8) (coef s 7) u
  (clampQ (dMin s) (dMax s) v, v != u)

/-- The sharing sections (R300): duties, histories with what stays applied after the duty limits (R299), and whether a
sharing output was clamped. -/
def shareOut (s : State) (u : Rat) : List Rat × List Hist × Bool :=
  let n := phases s
  if n ≤ 1 then ([u], [], false)
  else
    let i (x : Nat) : Rat := getAt s.ctl.fb.iPh x 0
    let avg := ((List.range n).map i).sum / (n : Rat)
    let lim := coef s 14
    let one (x : Nat) : Rat × Hist × Bool :=
      let h := getAt s.ctl.share x {}
      let e := polarity s * (avg - i x) / ((s.get F.CTL_PHSENSE_PH_FS : Nat) : Rat)
      let r := sectionOut s 9 12 false e h
      let v := clampQ (-lim) lim r
      let d := clampQ (dMin s) (dMax s) (u + v)
      (d, pushHist e (d - u) h, v != r)
    let l := (List.range n).map one
    (l.map (fun p => p.1), l.map (fun p => p.2.1), l.any (fun p => p.2.2))

/-- Steps 3 to 6 of R298. -/
def runLoop (s : State) : State :=
  let e := polarity s * (s.ctl.iref - s.ctl.fb.iStr) / iFsA s
  let c := currentOut s e
  let sh := shareOut s c.1
  let s := if c.2 then s.setB F.CTL_STATUS_SAT_I true else s
  let s := if sh.2.2 then s.setB F.CTL_STATUS_SAT_SHARE true else s
  { s with ctl := { s.ctl with
    cur := pushHist e c.1 s.ctl.cur, u := c.1, share := sh.2.1, duties := some sh.1 } }

/-- The place of phase `x` in its carrier at a raw TIME, in periods from a valley (R294): 256 steps are 5 TIME counts. -/
def carrierAt (s : State) (x t : Nat) : Rat :=
  (((t : Int) - (s.ctl.carrier : Int) : Int) : Rat) * 256 / 5 / ((pwmPeriod s : Nat) : Rat) -
    ((x : Nat) : Rat) / ((phases s : Nat) : Rat)

/-- The half-period of phase `x`, and where its edge stands in the period if it has occurred: off in the falling half at
d/2, on in the rising half at 1 − d/2; one that a load moved to the past occurred at the load, and none occurs twice (R295,
R296). -/
def edgeAt (s : State) (x t : Nat) : Int × Option Rat :=
  let y := carrierAt s x t
  let n := (2 * y).floor
  let pos := y - (y.floor : Rat)
  let d := getAt s.ctl.loaded x 0
  let due := if n % 2 = 0 then d / 2 else 1 - d / 2
  let old := getAt s.ctl.edges x (n, none)
  if old.1 = n ∧ old.2.isSome then old else (n, if due ≤ pos then some (maxQ due (loadPos y)) else none)
where
  /-- The place of the last load in this period; 0 where it lies before it. -/
  loadPos (y : Rat) : Rat :=
    let p := carrierAt s x ((s.sys.ticks.lookup tkControl).getD 0 - 50)
    if p.floor = y.floor then p - (p.floor : Rat) else 0

/-- The levels of PWM_Hx and PWM_Lx (R291, R295, R297): both off while the converter coasts; the low switch leaves the two
dead times, and a pulse shorter than MIN_PULSE is not produced. -/
def switchLevels (s : State) (x : Nat) : Bool × Bool :=
  if !s.flag F.CTL_STATUS_CLOSED || s.flag F.CTL_STATUS_COASTING || !s.flag F.CTL_STATUS_PWM_EN || decide (phases s ≤ x) then
    (false, false)
  else
    let per : Rat := (pwmPeriod s : Nat)
    let y := carrierAt s x s.time
    let pos := y - (y.floor : Rat)
    let e := edgeAt s x s.time
    let d := getAt s.ctl.loaded x 0
    let hl := ((s.get F.CTL_PWM_DT_DT_HL : Nat) : Rat) / per
    let lh := ((s.get F.CTL_PWM_DT_DT_LH : Nat) : Rat) / per
    let min := ((s.get F.CTL_PWM_MINP_MIN_PULSE : Nat) : Rat) / per
    let high := if e.1 % 2 = 0 then e.2.isNone else e.2.isSome
    let low := if e.1 % 2 = 0 then e.2.any (fun p => decide (p + hl ≤ pos))
      else e.2.isNone && decide (d / 2 + hl ≤ pos ∧ pos < 1 - d / 2 - lh)
    (high && decide (min ≤ d), low && decide (min ≤ 1 - d - hl - lh))

/-- The scheduler loads the duties of the tick before, which met its deadline, 0.8 µs after it (R296, R314). -/
def loadDuties (s : State) : State :=
  match s.ctl.duties with
  | some d =>
    let t := (s.sys.ticks.lookup tkControl).getD s.time + 200
    let s := { s with ctl := { s.ctl with edges := (List.range d.length).map (fun x => edgeAt s x t) } }
    let one (s : State) (x : Nat) : State :=
      let v := (getAt d x 0 * 65536).floor.toNat
      (s.set (F.PWM_PH_DUTY x) (min v 65535)).setB (F.PWM_PH_ACTIVE x) true
    let s := (List.range d.length).foldl one s
    { s with ctl := { s.ctl with duties := none, loaded := d } }.set F.CTL_STATUS_MISS_RUN 0
  | none => s

/-- A controlled stop opens the loop at the first control tick with |I_str| < I_zero (R319; R48 speaks of the 1 ms mean
there: DEDUCED, log entry 141). -/
def stopRampEnd (s : State) : State :=
  if s.ctl.mode = .stopRamp ∧ absQ s.ctl.fb.iStr < iZero s then loopOpen 0x0C s else s

/-- CONTROL_TICK (R298): `gate` holds the levels of GATE_FLT0 to 5, 1 for asserted (R329). -/
def execControlTick (iStr vStr vBus : BitVec 16) (iPh : List (BitVec 12)) (iAux : BitVec 14) (gate : BitVec 6)
    (s : State) : Host.Outcome State Fault Refusal :=
  finish (if enginesUp s then
    let s := snapCopy ((loadDuties s).tick tkControl 250)
    let s := setGate gate.toNat (latchFb iStr vStr vBus iPh iAux s)
    let s := superviseTick iStr (currentTake s.ctl.fb.iStr (countTick s))
    let s := if s.flag F.CTL_STATUS_CLOSED then stopRampEnd s else s
    if s.flag F.CTL_STATUS_CLOSED then runLoop (formRef s) else s
  else s)

/-! ## Deadlines (R314) -/

/-- A miss is counted and raised. -/
def countMiss (s : State) : State :=
  let s := raise C.CTL_DEADLINE_MISS (s.bump F.CTL_MISS_CNT_VALUE 1)
  { s with ctl := { s.ctl with missTick := s.ctl.missTick + 1 } }

/-- CTL_DEADLINE_MISS (R314), of the current loop or of the outer loop: the late result is discarded, the history holds
what stayed applied, and the third miss in a row opens the loop. -/
def execCtlDeadlineMiss (outer : Bool) (s : State) : Host.Outcome State Fault Refusal :=
  finish (if outer then
    match s.ctl.outerPend with
    | none => s
    | some _ =>
      let held := s.ctl.clamped / iFsA s
      let s := { s with ctl := { s.ctl with
        outerPend := none, outer := { s.ctl.outer with u1 := held }, outerRun := s.ctl.outerRun + 1 } }
      let s := countMiss s
      if 3 ≤ s.ctl.outerRun then loopOpen 0x0A s else s
  else
    match s.ctl.duties with
    | none => s
    | some _ =>
      let held := s.ctl.cur.u2
      let s := { s with ctl := { s.ctl with
        duties := none, cur := { s.ctl.cur with u1 := held }, u := held,
        share := s.ctl.share.map (fun (h : Hist) => { h with u1 := h.u2 }) } }
      let n := s.get F.CTL_STATUS_MISS_RUN + 1
      let s := countMiss (s.set F.CTL_STATUS_MISS_RUN n)
      if 3 ≤ n then loopOpen 0x0A s else s)

/-! ## The limit stack (R36, R37, R318) -/

/-- A capability in W as a current at the present string voltage, in A. -/
def powerAmps (s : State) (w : Nat) : Rat :=
  let v := vConv s
  if v = 0 then Config.currentAtZeroVolts ((w : Nat) : Rat) else ((w : Nat) : Rat) / v

/-- The four limits beside the dispatch request, with their source codes: thermal, estimator, protection, hardware. -/
def limitInputs (s : State) (charge : Bool) : List (Nat × Rat) :=
  let ir : Rat := ((s.get F.CTL_IRATED_IRATED : Nat) : Rat) / 1000
  let th := ir * ((8 - s.get F.THM_STATUS_STEP : Nat) : Rat) / 8
  let est := powerAmps s (if charge then s.est.p10Chg else s.est.p10Dis)
  let pr : Rat := ((s.get (if charge then F.SAFE_PLIM_CHG_VALUE else F.SAFE_PLIM_DIS_VALUE) : Nat) : Rat) / 1000
  [(1, th), (2, est), (3, pr), (4, if charge then hwChg s else hwDis s)]

/-- The smallest input and its source, the lower code where two are equal (R318). -/
def smallest (d : Nat × Rat) (l : List (Nat × Rat)) : Nat × Rat := l.foldl (fun m x => if x.2 < m.2 then x else m) d

def minInput (s : State) (charge : Bool) : Nat × Rat :=
  match limitInputs s charge with
  | [] => (0, 0)
  | x :: t => smallest x t

/-- The limit stack at an outer-loop sample for a request in A: the limits in force and their registers. The dispatch
request limits its own direction only (DEDUCED, log entry 24). -/
def limitStack (req : Rat) (s : State) : State :=
  let c := minInput s true
  let d := minInput s false
  let c' := if 0 < req ∧ req ≤ c.2 then (0, req) else c
  let d' := if req < 0 ∧ -req ≤ d.2 then (0, -req) else d
  let s := { s with ctl := { s.ctl with limChg := c.2, limDis := d.2 } }
  let s := (s.set F.CTL_LIM_CHG_VALUE (roundQ (c'.2 * 1000)).toNat).set F.CTL_LIM_DIS_VALUE
    (roundQ (d'.2 * 1000)).toNat
  (s.set F.CTL_LIM_SRC_SRC_CHG c'.1).set F.CTL_LIM_SRC_SRC_DIS d'.1

/-- The clamp of the request, with LIMIT_ACTIVE where it acts (R37, R345). -/
def clampRequest (req : Rat) (s : State) : State :=
  let s := limitStack req s
  let s := { s with ctl := { s.ctl with clamped := clampRef s req } }
  let ended := s.disp.lastClamp.any (fun t => decide (t + 100 * ms ≤ s.time))
  let s := if ended then limitEnd s else s
  if s.ctl.limChg < req then limitClamp req s.ctl.limChg false (s.get F.CTL_LIM_SRC_SRC_CHG) s
  else if req < -s.ctl.limDis then limitClamp req s.ctl.limDis true (s.get F.CTL_LIM_SRC_SRC_DIS) s
  else s

/-! ## The outer loop and the repetitive controller (R302 to R305) -/

/-- The outer error, per unit (R302). -/
def outerError (s : State) : Rat :=
  let v : Rat := s.disp.req
  match s.get F.CTL_CFG_OUTER_MODE with
  | 1 => (v - s.ctl.fb.vStr * s.ctl.fb.iStr) / (vFsV s * iFsA s)
  | 2 => (v / 1000 - s.ctl.fb.vStr) / vFsV s
  | _ => (s.ctl.fb.vBus - v / 1000) / ((s.get F.CTL_VSENSE_BUS_FS : Nat) : Rat)

/-- The cell of the fundamental's phase (R304): F0 is in 0.001 Hz. -/
def rcCell (s : State) : Nat := s.get F.CTL_RC_CFG_F0 * s.time % 250000000000 / 250000000

def rcOn (s : State) : Bool := s.flag F.CTL_CFG_RC_EN && s.get F.CTL_CFG_OUTER_MODE != 0

/-- y_k and whether it was clamped (R304, SAT_RC). -/
def rcOut (s : State) : Rat × Bool :=
  if rcOn s then
    let lim : Rat := ((s.get F.CTL_RC_MAX_RC_MAX : Nat) : Rat) / 65536
    let r := tabGet s.ctl.mem ((rcCell s + s.get F.CTL_RC_GAIN_LEAD) % 1000) 0
    let y := clampQ (-lim) lim r
    (y, y != r)
  else (0, false)

/-- The update of M (R304). -/
def rcLearn (e : Rat) (s : State) : State :=
  let m := rcCell s
  let q : Rat := ((s.get F.CTL_RC_GAIN_Q1 : Nat) : Rat) / 256
  let kl : Rat := ((s.get F.CTL_RC_GAIN_K_L : Nat) : Rat) / 65536
  let g (i : Nat) : Rat := tabGet s.ctl.mem (i % 1000) 0
  let v := q * g (m + 999) + (1 - 2 * q) * g m + q * g (m + 1) + kl * e
  { s with ctl := { s.ctl with mem := tabSet s.ctl.mem m v } }

/-- M is cleared (R305). -/
def rcClear (s : State) : State := { s with ctl := { s.ctl with mem := [] } }

/-- The outer section and the repetitive controller run at a sample (R302, R304, R305); `limited` says that the limit stack
clamps the present output, which counts as the section's clamp (R299, R310's example: DEDUCED, log entry 158). -/
def outerRun (limited : Bool) (s : State) : State :=
  let e := outerError s
  let u := sectionOut s 15 19 true e s.ctl.outer
  let v := clampQ (coef s 23) (coef s 22) u
  let sat := v != u
  let y := rcOut s
  let s := if sat then s.setB F.CTL_STATUS_SAT_O true else s
  let s := if y.2 then s.setB F.CTL_STATUS_SAT_RC true else s
  let s := { s with ctl := { s.ctl with outer := pushHist e v s.ctl.outer, outerPend := some (v + y.1) } }
  if rcOn s && !sat && !limited && !y.2 then rcLearn e s else s

/-- The result of the last sample comes into use (R303, R314). -/
def outerTake (s : State) : State :=
  match s.ctl.outerPend with
  | some r => { s with ctl := { s.ctl with
      outerPend := none, outerReq := r * iFsA s, outerRun := 0, refFresh := true } }
  | none => s

/-- Does the outer loop regulate now: closed, in modes 1 to 3, no ramp that replaces it (R319, R320, R343)? -/
def outerActive (s : State) : Bool :=
  s.flag F.CTL_STATUS_CLOSED && s.get F.CTL_CFG_OUTER_MODE != 0 && s.ctl.mode == .dispatch && !s.disp.lossRamp &&
    s.disp.active.isSome

/-- What stays applied of the outer output: the reference after the clamp and any slew (R299, R309). -/
def outerApplied (s : State) : State :=
  let i := if s.flag F.CTL_STATUS_SLEWING then s.ctl.iref else s.ctl.clamped
  { s with ctl := { s.ctl with outer := { s.ctl.outer with u1 := i / iFsA s } } }

/-- The registers taken at an outer-loop sample (R330, R331). -/
def publishSample (s : State) : State :=
  let mA (i : Rat) : Int := roundQ (i * 1000)
  let s := s.setI F.CTL_IREF_VALUE (mA s.ctl.clamped)
  let s := (s.setI F.CTL_IMEAS_VALUE (mA s.ctl.fb.iStr)).setI F.CTL_IAUX_VALUE (mA s.ctl.fb.iAux)
  let s := s.setI F.CTL_VBUS_VALUE (mA s.ctl.fb.vBus)
  (List.range 6).foldl (fun s x => s.setI (F.PWM_IPH_CURRENT x) (mA (getAt s.ctl.fb.iPh x 0))) s

/-- The outer section, the limit stack and the headroom condition of a sample. -/
def outerSample (s : State) : State :=
  let late := s.ctl.outerPend.isSome
  let s := if outerActive s then outerTake s else s
  let s := if s.get F.CTL_CFG_OUTER_MODE = 0 then { s with ctl := { s.ctl with refFresh := true } } else s
  let req := requestNow s
  let s := clampRequest req s
  let limited := s.ctl.clamped != req
  let s := if outerActive s then
      let s := if late then outerApplied s else s
      outerRun limited (if limited then s.setB F.CTL_STATUS_SAT_O true else s)
    else s
  publishSample (measSample req s)

/-- OUTER_LOOP_SAMPLE (R302, R303, R36, R37, R341, R188). -/
def execOuterLoopSample (s : State) : Host.Outcome State Fault Refusal :=
  finish (if enginesUp s then outerSample (dispatchSample (stepOverdue (s.tick tkOuter 2500))) else s)

/-! ## Opening and gate faults -/

/-- GATE_FAULT (R297, R315): GATE_FLTx low for 100 ns. -/
def execGateFault (phase : BitVec 3) (s : State) : Host.Outcome State Fault Refusal :=
  let x := phase.toNat
  finish (if x < 6 then
    let lv := s.get F.CTL_FB_GATE_FLT
    let s := setGate (if lv / 2 ^ x % 2 = 1 then lv else lv + 2 ^ x) s
    loopOpen 0x02 (raise C.GATE_FAULT (s.setB F.CTL_FB_GATE_LATCH true))
  else s)

/-- MIRAGE (R315): the run of frozen samples with u moving. -/
def execMirage (s : State) : Host.Outcome State Fault Refusal :=
  finish (if s.flag F.CTL_STATUS_CLOSED && mirageBad s then mirageAct s else s)

/-- AUX_MISMATCH (R315): 100 consecutive ticks beyond the tolerance. -/
def execAuxMismatch (s : State) : Host.Outcome State Fault Refusal := finish (if auxBad s then auxAct s else s)

def doLoopOpen (c : Ctx) (s : State) : State := replyOk c 0x0501 [] (loopOpen 0x0D (abandonClose s))

/-- LOOP_OPEN (R306, R310, R333). -/
def execLoopOpen (c : Ctx) (s : State) : Host.Outcome State Fault Refusal := finish (withCmd c 0x0501 (doLoopOpen c) s)

/-! ## Closing (R308 to R310) -/

/-- The number of the first condition of R308 that fails, 0 for none. -/
def closeFailing (s : State) : Nat :=
  if s.st ≠ stRun ∨ s.direct then 1
  else if !s.flag F.CTL_STATUS_PWM_EN then 2
  else if !(s.flag F.CTL_FB_ISD_OK && s.flag F.CTL_FB_VSD_OK && s.flag F.CTL_FB_BSD_OK) ||
      s.flag F.CTL_FB_MIRAGE_LATCH || s.flag F.CTL_FB_MISMATCH_LATCH || s.flag F.CTL_FB_GATE_LATCH ||
      s.flag F.CTL_FB_PH_OC_LATCH || s.get F.CTL_FB_GATE_FLT != 0 then 3
  else if !s.flag (if s.flag F.CTL_CFG_BANK then F.CTL_STATUS_BANKB_VALID else F.CTL_STATUS_BANKA_VALID) then 4
  else if iZero s ≤ absQ s.ctl.fb.iStr then 5
  else 0

/-- The OK reply of LOOP_CLOSE; the byte for a failing check is a free value, since none fails (DEDUCED, log entry 26). -/
def closeOk (c : Ctx) (s : State) : State :=
  let v := s.fresh
  replyOk c 0x0500 (u8 v.1) v.2

def doLoopClose (c : Ctx) (s : State) : State :=
  if s.flag F.CTL_STATUS_CLOSED then closeOk c s
  else match closeFailing s with
    | 0 => { s with ctl := { s.ctl with closeCtx := s.ctl.closeCtx ++ [c] } }.setB F.CTL_STATUS_CLOSE_PENDING true
    | 4 => replyIncons c 0x0500 4 s
    | _ => replyForbids c 0x0500 s

/-- LOOP_CLOSE (R308): the reply comes when the close is taken or abandoned. -/
def execLoopClose (c : Ctx) (s : State) : Host.Outcome State Fault Refusal :=
  finish (withCmd c 0x0500 (doLoopClose c) s)

/-- d0 of R309: V_low / V_high within the duty limits; a quotient by zero is a free value (DESIGN CHOICE, log entry 17). -/
def preload (s : State) : Rat :=
  let lo := if s.flag F.CTL_CFG_LOWSIDE then s.ctl.fb.vBus else s.ctl.fb.vStr
  let hi := if s.flag F.CTL_CFG_LOWSIDE then s.ctl.fb.vStr else s.ctl.fb.vBus
  clampQ (dMin s) (dMax s) (if hi = 0 then Config.currentAtZeroVolts lo else lo / hi)

/-- Steps 3 to 6 of R309. -/
def closeNow (s : State) : State :=
  let d0 := preload s
  let uo := s.ctl.fb.iStr / iFsA s
  let cs := s.ctl.closeCtx
  let s := { s with
    ctl := { s.ctl with
      cur := { u1 := d0, u2 := d0, u3 := d0 }, share := [], outer := { u1 := uo, u2 := uo, u3 := uo }, mem := [],
      mode := .dispatch, iref := s.ctl.fb.iStr, outerReq := s.ctl.fb.iStr, outerPend := none, refFresh := false,
      outerRun := 0, duties := none, loaded := [], edges := [], u := d0, mirN := 0, closeCtx := [] }
    eis := { s.eis with closedAt := some s.time }
    disp := { s.disp with lastAccept := s.time, lateSeen := false, lostSeen := false } }
  let s := (((s.setB F.CTL_STATUS_SAT_I false).setB F.CTL_STATUS_SAT_O false).setB F.CTL_STATUS_SAT_RC false).setB
    F.CTL_STATUS_SAT_SHARE false
  let s := ((s.set F.CTL_STATUS_MISS_RUN 0).setB F.CTL_STATUS_SLEWING true).setB F.CTL_STATUS_CLOSE_PENDING false
  let s := (s.setB F.CTL_STATUS_CLOSED true).setB F.CTL_STATUS_COASTING false
  let s := runLoop (causeRec C.LOOP_CLOSE sevNotice [] s)
  cs.foldl (fun s c => closeOk c s) s

/-- A pending close is taken at a PWM period start (R309): the checks are repeated. -/
def closeTake (s : State) : State :=
  if s.flag F.CTL_STATUS_CLOSE_PENDING then (if closeFailing s = 0 then closeNow s else abandonClose s) else s

/-! ## PWM period starts (R294) -/

/-- The control tick at or after valley `n` of the phase 0 carrier. -/
def valleyTick (s : State) (n : Nat) : Nat := (s.ctl.carrier * 256 + n * pwmPeriod s * 5 + 63999) / 64000 * 250

/-- The next PWM period start that is neither past nor used. -/
def nextValley (s : State) : Nat :=
  let n := (s.time - s.ctl.carrier) * 256 / (5 * pwmPeriod s)
  let last := s.sys.ticks.lookup tkPwm
  let ok (k : Nat) : Bool := decide (s.time ≤ valleyTick s k) && last.all (fun l => decide (l < valleyTick s k))
  match [n, n + 1, n + 2].find? ok with
  | some k => valleyTick s k
  | none => s.time

/-- A PWM period start is reached. -/
def pwmTick (s : State) : State :=
  let t := nextValley s
  { s with
    time := t
    sys := { s.sys with ticks := tabSet s.sys.ticks tkPwm t } }

/-! ## Acknowledgement and RC_RESET (R316, R327, R333) -/

def doFeedbackAck (c : Ctx) (s : State) : State :=
  let r := fbAck s
  if r.2 then replyOk c 0x0502 (u32 (r.1.word 0x20054).toNat) r.1 else replyForbids c 0x0502 r.1

/-- FEEDBACK_ACK (R316). -/
def execFeedbackAck (c : Ctx) (s : State) : Host.Outcome State Fault Refusal :=
  finish (withCmd c 0x0502 (doFeedbackAck c) s)

def doRcReset (c : Ctx) (s : State) : State := replyOk c 0x0503 [] (rcClear s)

/-- RC_RESET (R305, R333). -/
def execRcReset (c : Ctx) (s : State) : Host.Outcome State Fault Refusal := finish (withCmd c 0x0503 (doRcReset c) s)

/-- The effect of a write of CTL_CTRL (R327); it reads 0 ever after. -/
def ctlCtrlWrite (v : Word) (s : State) : State × WRes :=
  let s := if bitOf v 0 then rcClear s else s
  if bitOf v 1 then
    let r := fbAck s
    (r.1, if r.2 then .ok else .forbids)
  else (s, .ok)

/-- CTL_CTRL_FB_ACK (R316, R327). -/
def execCtlCtrlFbAck (p : Path) (s : State) : Host.Outcome State Fault Refusal :=
  finish (withWrite p 0x20040 2 (ctlCtrlWrite 2) s)

/-- CTL_CTRL_RC_RESET (R305, R327). -/
def execCtlCtrlRcReset (p : Path) (s : State) : Host.Outcome State Fault Refusal :=
  finish (withWrite p 0x20040 1 (ctlCtrlWrite 1) s)

/-! ## Precharge (R321) -/

/-- PRECHARGE_DONE (R321): the mean has fallen to the threshold. -/
def execPrechargeDone (s : State) : Host.Outcome State Fault Refusal :=
  finish (match s.ctl.pre with
    | some p =>
      if p.seen ∧ p.tp + 10 * ms ≤ s.time ∧
          absQ s.ctl.meanStr ≤ (1 - ((s.get F.CTL_PRE_PRE_THR : Nat) : Rat) / 100) * preI0 s then preDone s
      else s
    | none => s)

/-- PRECHARGE_NO_CURRENT (R321): no mean reached 0.25 × I_0 within 10 ms. -/
def execPrechargeNoCurrent (s : State) : Host.Outcome State Fault Refusal :=
  finish (match s.ctl.pre with
    | some p => if p.seen then s else preFail 2 (s.at (p.tp + 10 * ms))
    | none => s)

/-- PRECHARGE_TIMEOUT (R321): not done by t_p + PRE_TMAX. -/
def execPrechargeTimeout (s : State) : Host.Outcome State Fault Refusal :=
  finish (match s.ctl.pre with
    | some p => preFail 3 (s.at (p.tp + s.get F.CTL_PRE_PRE_TMAX * (100 * ms)))
    | none => s)

/-! ## CTL commits (R305, R311 to R313) -/

/-- A bank's VALID conditions on a set of words. -/
def bankOk (w : Nat → Word) (bankB : Bool) : Bool :=
  let g (i : Nat) : Int := (w (bankAddr bankB i)).toInt
  decide (g 8 < g 7) && decide (g 23 < g 22) && decide (0 ≤ g 14) &&
    (g 0 != 0 || g 1 != 0 || g 2 != 0 || g 3 != 0)

/-- The cross-field checks of R313 on a set of words. -/
def ctlCross (w : Nat → Word) : Bool :=
  let f (a lo n : Nat) : Nat := fieldOf (w a) lo n
  let ph := f 0x20000 0 3
  let per := f 0x20004 0 20
  let dlh := f 0x20008 16 15
  let dhl := f 0x20008 0 15
  let dmax := f 0x2000C 16 16
  let dmin := f 0x2000C 0 16
  let mp := f 0x20010 0 14
  let f0 := f 0x2002C 0 19
  decide (1 ≤ ph ∧ ph ≤ 6) && decide (64000 ≤ per ∧ per ≤ 640000) && decide (128 ≤ dlh ∧ dlh ≤ 25600) &&
    decide (128 ≤ dhl ∧ dhl ≤ 25600) && decide (mp ≤ 12800) && decide (dmin < dmax) &&
    decide (dmax * per + (dhl + dlh + mp) * 65536 ≤ 65536 * per) && decide (mp * 65536 ≤ dmin * per) &&
    decide (40000 ≤ f0 ∧ f0 ≤ 400000) && bankOk w (bitOf (w 0x20000) 24)

/-- A CTL set has become active: bank validity, carriers and M follow (R294, R305, R311). -/
def ctlApplied (old : State) (s : State) : State :=
  let s := (s.setB F.CTL_STATUS_BANKA_VALID (bankOk s.word false)).setB F.CTL_STATUS_BANKB_VALID (bankOk s.word true)
  let s := s.setB F.CTL_STATUS_BANK_ACTIVE (s.flag F.CTL_CFG_BANK)
  let s := if pwmPeriod old ≠ pwmPeriod s ∨ phases old ≠ phases s then
      { s with ctl := { s.ctl with carrier := s.time } } else s
  let f0 := old.get F.CTL_RC_CFG_F0
  let f1 := s.get F.CTL_RC_CFG_F0
  let moved := decide (f0 < 100 * ((f1 : Int) - (f0 : Int)).natAbs)
  if (!old.flag F.CTL_CFG_RC_EN && s.flag F.CTL_CFG_RC_EN) || moved then rcClear s else s

/-- The miss record of a management tick (R314). -/
def missRecord (s : State) : State :=
  if s.ctl.missTick = 0 then s
  else
    let n := s.ctl.missTick
    addRec sevWarning 0x08 2 (u32 n) { s with ctl := { s.ctl with missTick := 0 } }

end Sys2Proof.Machine
end

