-- ==== Sys2Proof/Machine/Post.lean ====
section
/-!
DEFINITION. Posted writes to the slow domains (R82 to R85).
-/

namespace Sys2Proof.Machine

/-- The bit of a domain in SYS_POST_BUSY (R85). -/
def postBusy (d : Domain) : Fld := ⟨0x40, domainBit d, 1⟩

/-- The maximum completion time of a domain (R82), as a retry-after hint in ms: below 1 ms it is rounded up (DEDUCED, log entry 32). -/
def postHint (s : State) (d : Domain) : Nat :=
  match d with
  | .cvr => if s.get F.CVL_STATUS_GEN = 1 then 130 else 1
  | _ => 1

/-- The maximum completion time of a domain (R82), in TIME counts. -/
def postMax (s : State) (d : Domain) : Nat :=
  match d with
  | .mram => 50 * us
  | .cvr => if s.get F.CVL_STATUS_GEN = 1 then 130 * ms else ms
  | .phy => 50 * us
  | .zsl => 20 * us
  | .aon => 200 * us

/-- A write is posted, or collides with one that is still completing (R82, R83). -/
def postWrite (p : Post) (s : State) : State × WRes :=
  if s.flag (postBusy p.dom) then (raise C.POST_COLLIDE s, .busy (postHint s p.dom))
  else (({ s with sys := { s.sys with posts := s.sys.posts ++ [p] } }).setB (postBusy p.dom) true, .ok)

/-- A write of the module's own that follows those under way in its domain (DEDUCED, log entry 84). -/
def postOwn (p : Post) (s : State) : State :=
  ({ s with sys := { s.sys with posts := s.sys.posts ++ [p] } }).setB (postBusy p.dom) true

/-- The oldest write under way in a domain, and the state without it. -/
def takePost (d : Domain) (s : State) : Option (Post × State) :=
  match s.sys.posts.find? (fun p => p.dom == d) with
  | some p =>
    let l := s.sys.posts.erase p
    some (p, ({ s with sys := { s.sys with posts := l } }).setB (postBusy d) (l.any (fun q => q.dom == d)))
  | none => none

/-- Key of a remote word in the mirror (R127). -/
def mirrorKey (k i : Nat) : Nat := 32 * k + i

def mirrorWord (s : State) (k i : Nat) : Word := tabGet s.ring.mirror (mirrorKey k i) 0

def setMirror (k i : Nat) (w : Word) (s : State) : State :=
  { s with ring := { s.ring with mirror := tabSet s.ring.mirror (mirrorKey k i) w } }

/-- FB_c turns over where a new KON_CFG changes the polarity of contactor c (R409, R429). -/
def fbPolarity (old new : Word) (s : State) : State :=
  [0, 1, 2].foldl (fun s c => if bitOf old c == bitOf new c then s else s.setB (konFb c) (!s.flag (konFb c))) s

/-- EST_PACK takes a new pack, and FEED, KON and PHY words a new setting: the mirror takes the new value (R82). A remote
board word is cleared where the written word has a 0 (R127). -/
def applyPost (p : Post) (s : State) : State :=
  if p.host then
    let old := tabGet s.ring.mirror p.addr 0
    let new := old &&& p.value
    configRec p.origin 0x10044 new old { s with ring := { s.ring with mirror := tabSet s.ring.mirror p.addr new } }
  else
    let old := s.word p.addr
    let new := (old &&& ~~~p.mask) ||| (p.value &&& p.mask)
    let s := if p.addr = 0x3004 then { s with pwr := { s.pwr with loaded := true } } else s
    storeWord p.origin p.addr new (if p.addr = 0x31000 then fbPolarity old new s else s)

/-- A posted write completes: the busy bit clears and the mirror takes the value (R82, R569). -/
def postDone (d : Domain) (s : State) : State :=
  match takePost d s with
  | some (p, s) => applyPost p s
  | none => s

/-- A posted write is abandoned, ten times the maximum completion time after it or because its board command has failed:
the mirror keeps its old value and POST_FAIL is raised (R84). -/
def postAbandon (d : Domain) (s : State) : State :=
  match takePost d s with
  | some (_, s) => raise C.POST_FAIL s
  | none => s

end Sys2Proof.Machine
end

