-- ==== Sys2Proof/Machine/Ring.lean ====
section
/-!
DEFINITION. The Caravan link and the Wadi loop (chapter 4): frames and scans, missing boards, ring break and split
mode, enumeration, board commands, the mirror of remote words, and tone loss. Readings are compensated here (R156,
R157) before they reach SP and the cell table.
-/

namespace Sys2Proof.Machine

/-! ## Boards -/

/-- Bit of board `k` in CVL_MISS and CVL_LATE (R138). -/
def missFld (k : Nat) : Fld := if k ≤ 32 then ⟨0x10008, k - 1, 1⟩ else ⟨0x1000C, k - 33, 1⟩
def lateFld (k : Nat) : Fld := if k ≤ 32 then ⟨0x10010, k - 1, 1⟩ else ⟨0x10014, k - 33, 1⟩

/-- BOARD_COMMAND_RESEND (R115): unanswered after 4 frames or scans, a command is sent again, at most twice. -/
def execBoardCommandResend (k : Nat) (code : BitVec 8) (s : State) : Host.Outcome State Fault Refusal :=
  finish (match findCmd k code.toNat s with
    | some x =>
      if 4 ≤ x.age ∧ x.tries < 2 then
        { s with ring := { s.ring with cmds := s.ring.cmds.map (fun y => if y == x then y.again else y) } }
      else s
    | none => s)

/-! ## Compensation (R156, R157) -/

/-- Resistance of a wire in mΩ. -/
def wireRes (s : State) (w : Nat) : Rat :=
  match s.acq.wires.lookup w with
  | some r => ((r : Nat) : Rat) / 1000
  | none => Config.wireUnlearned w

def slotFor (slots : List BoardSlot) (k : Nat) : Option BoardSlot := slots.find? (fun x => x.k == k)

/-- A reading in µV, if it is not the invalid code (R105, R147). -/
def rawReading (x : BoardSlot) (j : Nat) : Option Int :=
  match x.readings[j]? with
  | some r => if r = 0x800000 then none else some r.toInt
  | none => none

/-- Is a position's channel on at the sample instant of the readings that now arrive (R109, R155)? -/
def wasOnAt (s : State) (k j : Nat) : Bool := tabGet s.ring.onPrev k 0 / 2 ^ j % 2 == 1

/-- The current of a channel that is on (R157): reading by balance resistor, or the latest report of a CM-16B, which
carries 1.000 A while it is learning (R159). -/
def channelCurrent (slots : List BoardSlot) (s : State) (k j n : Nat) : Rat :=
  if brdClass s k = 3 then
    if (learnFrame s (s.ring.t0.getD 0 - framePeriod s)).isSome then 1 else ((tabGet s.bal.report n 0 : Int) : Rat) / 100
  else
    let rb := (getBrd s k).rbal
    match (slotFor slots k).bind (fun x => rawReading x j) with
    | some r => if rb = 0 then Config.unknownCurrent n s.time else (r : Rat) / ((rb * 10000 : Nat) : Rat)
    | none => Config.unknownCurrent n s.time

/-- Balancing or bypass current I_n of a position at the sample instant of these slots, A (R156, R157). -/
def balCurrent (slots : List BoardSlot) (s : State) (n : Nat) : Rat :=
  match posBoard s n with
  | some (k, j) => if wasOnAt s k j then channelCurrent slots s k j n else 0
  | none => 0

/-- A current times a resistance; no current gives nothing whatever the resistance. -/
def drop (i r : Rat) : Rat := if i = 0 then 0 else i * r

/-- The terms of R157 for the reading of position `n`, mV. -/
def corrTerms (slots : List BoardSlot) (s : State) (n : Nat) : List Rat :=
  let i := balCurrent slots s n
  let below := if n = 0 then 0 else balCurrent slots s (n - 1)
  let above := if n + 1 < posCount s then balCurrent slots s (n + 1) else 0
  [drop i (wireRes s n) + drop i (wireRes s (n + 1)), -drop below (wireRes s n), -drop above (wireRes s (n + 1))]

/-- The correction added to the reading of position `n`, mV (R157). -/
def correction (slots : List BoardSlot) (s : State) (n : Nat) : Rat := (corrTerms slots s n).foldl (· + ·) 0

/-- Has the reading a non-zero compensation term, so that it is BAL_ADJ (R158)? -/
def adjusted (slots : List BoardSlot) (s : State) (n : Nat) : Bool := (corrTerms slots s n).any (· != 0)

/-! ## Readings -/

/-- Add a reading to a window's sums. -/
def accReading (v corr i : Rat) (adj : Bool) (a : WinAcc) : WinAcc :=
  ⟨a.n + 1, a.sum + v, a.corr + corr, a.ib + i, a.adj || adj⟩

/-- Count and sum of readings by position. -/
def accSum (l : List (Nat × Nat × Rat)) (n : Nat) (x : Rat) : List (Nat × Nat × Rat) :=
  let a := tabGet l n (0, 0)
  tabSet l n (a.1 + 1, a.2 + x)

/-- Their mean. -/
def meanOf (l : List (Nat × Nat × Rat)) (n : Nat) : Option Rat :=
  match l.lookup n with
  | some (m, x) => if m = 0 then none else some (x / ((m : Nat) : Rat))
  | none => none

/-- Is the frame that starts at `t` one of the 24 counted frames of the stillness window (R152), or a still scan
(R153)? -/
def precFrame (s : State) (t : Nat) : Bool :=
  if isC1 s then inStill s t
  else match s.ring.still with
    | some n0 => decide (n0 + 8 * 15625 ≤ t ∧ t ≤ n0 + 31 * 15625)
    | none => false

/-- Phase of an open-wire test in the frame or scan that starts `d` after its T0: 0 baseline, 1 even, 2 odd wires (R165).
After a switch of the test current 2 ms, or the first scan, settle (the scan DESIGN CHOICE, log entry 149). -/
def owPhase (s : State) (d : Nat) : Option Nat :=
  if isC1 s then
    let m := d / 2500000
    if m < 3 then some 0 else if 4 ≤ m ∧ m < 6 then some 1 else if 7 ≤ m ∧ m < 9 then some 2 else none
  else if d < 8 * ms then some 0
  else if 10 * ms ≤ d ∧ d < 16 * ms then some 1
  else if 18 * ms ≤ d ∧ d < 24 * ms then some 2
  else none

/-- A reading (compensated, µV) of a position beside a wire under test joins the sums of its phase (R165). -/
def owTake (n tF : Nat) (v : Rat) (s : State) : State :=
  let one (x : OwTest) : OwTest :=
    match x.start with
    | some t0 =>
      if brdBase s x.board ≤ n + 1 ∧ n ≤ brdBase s x.board + brdCount s x.board ∧ t0 ≤ tF then
        match owPhase s (tF - t0) with
        | some 0 => { x with base := accSum x.base n v }
        | some 1 => { x with even := accSum x.even n v }
        | some _ => { x with odd := accSum x.odd n v }
        | none => x
      else x
    | none => x
  if s.acq.tests.isEmpty then s else { s with acq := { s.acq with tests := s.acq.tests.map one } }

/-- The estimates of the step that ends (R159), in mΩ: from each active position n, the shift of position n + 1 by I_n is
wire n + 1, and the shift of position n − 1 by I_n is wire n. -/
def learnFlush (s : State) (w : WireLearn) : WireLearn :=
  let active := ((boardNums s).filter (fun k => decide (w.chan < brdCount s k))).map (fun k => brdBase s k + w.chan)
  let shift (n : Nat) : Option Rat :=
    match meanOf w.on n, meanOf w.off n with
    | some a, some b => some (a - b)
    | _, _ => none
  let one (n m wire : Nat) : List (Nat × Rat) :=
    match shift m, meanOf w.cur n with
    | some d, some i => if i = 0 then [] else [(wire, d / i / 1000)]
    | _, _ => []
  let e := (active.map (fun n => one n (n + 1) (n + 1) ++ (if n = 0 then [] else one n (n - 1) n))).flatten
  { w with on := [], off := [], cur := [], est := w.est ++ e }

/-- A raw reading (µV) joins the sums of the learning step, but for the first frame after each switch and inside a
stillness window (R159); `i` is the current of an active position. -/
def learnTake (n j tF : Nat) (raw : Rat) (i : Rat) (s : State) : State :=
  match s.acq.learn, learnFrame s tF with
  | some (.wire c w), some (ch, m) =>
    let w := if w.chan = ch then w else { learnFlush s w with chan := ch }
    let s := { s with acq := { s.acq with learn := some (.wire c w) } }
    if m % learnHalf s = 0 ∨ inStill s tF then s
    else
      let w := if learnOn s m then
          { w with on := accSum w.on n raw, cur := if j = ch then accSum w.cur n i else w.cur }
        else { w with off := accSum w.off n raw }
      { s with acq := { s.acq with learn := some (.wire c w) } }
  | _, _ => s

/-- Samples flow to the lanes while STREAM_EN is 1 and DIE_HOT 0, or while a sweep runs, on a Caravan-2 ring (R148, R151,
R372); not while the DSP clock is lost (R29). -/
def streamOn (s : State) : Bool :=
  let meas := s.eis.meas.any injecting || sweepDue s
  ringRuns s && !isC1 s && !dspLost s &&
    (meas || (s.flag F.MEAS_CFG_STREAM_EN && !s.flag F.THM_STATUS_DIE_HOT))

/-- A sample goes to the lane of its position (R151). -/
def streamPut (n : Nat) (x : Sample) (s : State) : State :=
  if streamOn s then laneTake n x { s with acq := { s.acq with stream := tabSet s.acq.stream n x } } else s

/-- Samples of a test or of a learning step are delivered invalid (R151, R169). -/
def streamValid (s : State) (k tF : Nat) : Bool := !owActive s k tF && (learnFrame s tF).isNone

/-- A valid reading `raw` (µV) of channel `j` of board `k`, position `n`, sampled at `tS` in the frame or scan that starts
at `tF`, joins the window `w` (R149, R152): V_FRAME, the sums, its position's age, and its lane. A row that shows
NO_READING loses it in a row update (R172). -/
def takeReading (slots : List BoardSlot) (tS tF w k j n : Nat) (raw : Int) (s : State) : State × (Nat × Int) :=
  let corr := correction slots s n * 1000
  let v := (raw : Rat) + corr
  let v10 := roundQ (v / 10)
  let i := balCurrent slots s n
  let adj := adjusted slots s n
  let c := getCell s n
  let shown := c.flags / 128 % 2
  let s1 := setCell n { c with
    vFrame := if dspLost s then c.vFrame else v10, lastValid := some tS, flags := c.flags &&& 0x7F, seq := c.seq + shown } s
  let key := 1024 * w + n
  let s2 := { s1 with acq := { s1.acq with
    win := tabSet s1.acq.win key (accReading v corr i adj (tabGet s1.acq.win key {})) } }
  let s3 := if precFrame s tF then { s2 with acq := { s2.acq with
    prec := tabSet s2.acq.prec n (accReading (raw : Rat) 0 0 false (tabGet s2.acq.prec n {})) } } else s2
  let s4 := learnTake n j tF (raw : Rat) i (owTake n tF v s3)
  (streamPut n ⟨roundQ v, tS, streamValid s k tF, adj, i⟩ s4, (n, v10))

/-- Every channel of a board in use whose slot is valid; a channel without a reading leaves an invalid sample. -/
def takeBoard (slots : List BoardSlot) (tS tF w : Nat) (x : BoardSlot) (p : State × List (Nat × Int)) :
    State × List (Nat × Int) :=
  (List.range (min (brdCount p.1 x.k) 16)).foldl (fun q j =>
    let n := brdBase q.1 x.k + j
    match rawReading x j with
    | some r =>
      let z := takeReading slots tS tF w x.k j n r q.1
      (z.1, q.2 ++ [z.2])
    | none => (streamPut n ⟨0, tS, false, false, balCurrent slots q.1 n⟩ q.1, q.2)) p

/-- The invalid samples of a missing board (R151). -/
def noSamples (slots : List BoardSlot) (tS k : Nat) (s : State) : State :=
  (brdPositions s k).foldl (fun s n => streamPut n ⟨0, tS, false, false, balCurrent slots s n⟩ s) s

/-! ## Missing boards (R111, R112) -/

/-- A CRC failure or code violation (R112). -/
def frameError (s : State) : State := raise C.FRAME_ERROR (s.bump F.CVL_ERRORS_COUNT 1)

/-- Frames or scans in a row that make a board MISSING (R112, R117). -/
def missLimit (s : State) : Nat := if isC1 s then 3 else 16

/-- MISSING sets, with its cause (R112). -/
def missSet (k : Nat) (s : State) : State :=
  if missLimit s ≤ (getBrd s k).missRun ∧ missing s k = false then
    raise C.BOARD_MISSING (s.setB (F.CVL_BRD_STATE_MISSING (k - 1)) true)
  else s

/-- MISSING clears after 16 valid frames; a board that is not read stays MISSING (R112, R120). -/
def missClear (k : Nat) (s : State) : State :=
  if 16 ≤ (getBrd s k).goodRun ∧ (getBrd s k).read then s.setB (F.CVL_BRD_STATE_MISSING (k - 1)) false else s

/-- BOARD_MISSING (R112). -/
def execBoardMissing (k : Nat) (s : State) : Host.Outcome State Fault Refusal :=
  finish (if 1 ≤ k ∧ k ≤ boards s then missSet k s else s)

/-- BOARD_MISSING_CLEAR (R112). -/
def execBoardMissingClear (k : Nat) (s : State) : Host.Outcome State Fault Refusal :=
  finish (if 1 ≤ k ∧ k ≤ boards s then missClear k s else s)

/-- A board counts as missing for this frame (R112). -/
def countMissing (k : Nat) (s : State) : State :=
  let b := getBrd s k
  let s := setBrd k { b with missRun := b.missRun + 1, goodRun := 0 } s
  let s := (s.setB (missFld k) true).setB (lateFld k) true
  missSet k (s.bump (F.CVL_BRD_LATE_CNT_VALUE (k - 1)) 1)

/-- A board's slot is valid in this frame. -/
def countValid (x : BoardSlot) (s : State) : State :=
  let b := getBrd s x.k
  let s := setBrd x.k { b with missRun := 0, goodRun := b.goodRun + 1 } s
  let s := (s.setB (missFld x.k) false).set (F.CVL_BRD_LAST_STATUS_VALUE (x.k - 1)) x.status.toNat
  missClear x.k s

/-- Field of a status word (R106). -/
def stBit (w : BitVec 32) (b : Nat) : Bool := w.getLsbD b
def stBoard (w : BitVec 32) : Nat := fieldOf w 26 6
def stEcho (w : BitVec 32) : Nat := fieldOf w 0 8

/-- Is a slot with a good CRC valid (R112)? -/
def slotValid (s : State) (x : BoardSlot) : Bool :=
  !stBit x.status 25 && !stBit x.status 24 && stBoard x.status == x.k && stEcho x.status == s.ring.frameNo % 256

/-- One configured board's slot of a frame or scan (R111, R112). -/
def slotIn (slots : List BoardSlot) (tS tF w k : Nat) (p : State × List (Nat × Int)) : State × List (Nat × Int) :=
  let s := p.1
  let gone (s : State) : State × List (Nat × Int) := (noSamples slots tS k (countMissing k s), p.2)
  match slotFor slots k with
  | none => gone s
  | some x =>
    if !x.written || !(getBrd s k).read then gone s
    else if !x.crcOk then gone (frameError (s.bump (F.CVL_BRD_CRC_CNT_VALUE (k - 1)) 1))
    else
      let s := if stBit x.status 25 then raise C.BOARD_LATE s else s
      let s := if stBit x.status 24 then setBrdChan k {} s else s
      if slotValid s x then takeBoard slots tS tF w x (countValid x s, p.2) else gone s

/-! ## The Wadi loop seen from the boards (R133, R140) -/

def lastStatus (s : State) (k : Nat) : Word := s.word (F.CVL_BRD_LAST_STATUS_VALUE (k - 1)).addr

/-- Boards that have reported since they were found. -/
def reporting (s : State) : List Nat := (boardNums s).filter (fun k => present s k && lastStatus s k != 0)

/-- FIRST_DARK and TRIP_BOARD with its trips. -/
def wadiView (s : State) : State :=
  let dark := ((reporting s).find? (fun k => !stBit (lastStatus s k) 19)).getD 0
  let trip := ((reporting s).find? (fun k => stBit (lastStatus s k) 23)).getD 0
  let w := if trip = 0 then 0 else lastStatus s trip
  let s := (s.set F.CVL_WADI_FIRST_DARK dark).set F.CVL_WADI_TRIP_BOARD trip
  ((s.setB F.CVL_WADI_TRIP_OV (stBit w 22)).setB F.CVL_WADI_TRIP_UV (stBit w 21)).setB F.CVL_WADI_TRIP_OT (stBit w 20)

/-! ## Bypass reports (R157) -/

/-- Reports from frames inside a stillness window are not used (R277). -/
def takeReport (s : State) (x : BypassReport) : State :=
  if (if isC1 s then s.ring.still == s.ring.t0.map (· + 2500000) else s.ring.still.isSome) then s
  else (List.range (min (brdCount s x.k) 16)).foldl (fun s j =>
    let r := tabSet s.bal.report (brdBase s x.k + j) (getAt x.currents j 0).toInt
    { s with bal := { s.bal with report := r } }) s

/-- BAL_BRDk.ON (R288): the channels on at the sample instant; one that only may hold its cell is on while it reports a
current (R276). -/
def shownOn (s : State) (k : Nat) : Nat :=
  let on := tabGet s.ring.onPrev k 0
  let c := brdChan s k
  (List.range 16).foldl (fun m j =>
    let idle := brdClass s k == 3 && c.cv / 2 ^ j % 2 == 1 && tabGet s.bal.report (brdBase s k + j) 0 == 0
    if on / 2 ^ j % 2 = 1 ∧ idle = false then m + 2 ^ j else m) 0

/-- The data section of a frame or the blocks of a scan: every configured board, then SP's chain data. -/
def dataIn (slots : List BoardSlot) (tS tF w : Nat) (s : State) : State :=
  let p := (boardNums s).foldl (fun p k => slotIn slots tS tF w k p) (s, [])
  let s := spFrame p.2 p.1
  wadiView ((boardNums s).foldl (fun s k => s.set (F.BAL_BRD_ON (k - 1)) (shownOn s k)) s)

/-! ## Ring break and split mode (R122, R123) -/

/-- The last board that port A reaches: none while the port has lost its clock. -/
def reachA (lastA : Nat) (s : State) : Nat := if portLost s 0 then 0 else min lastA (boards s)

/-- What split mode shows: BREAK_AFTER, the boards served from port B, the ports that reach a board (R123, R137). -/
def splitView (j : Nat) (s : State) : State :=
  let s := s.set F.CVL_STATUS_BREAK_AFTER j
  let s := portLink 1 (decide (j < boards s)) (portLink 0 (decide (0 < j)) s)
  (boardNums s).foldl (fun s k => s.setB (F.CVL_BRD_STATE_SPLIT_B (k - 1)) (present s k && decide (j < k))) s

/-- A ring break is declared, and split mode runs; port A still reaches boards up to `lastA`. In split mode a further
break only moves what port A reaches (R123; no second declaration: DESIGN CHOICE, log entry 150). -/
def ringBreak (lastA : Nat) (s : State) : State :=
  if !ringRuns s then s
  else if s.ring.split then splitView (reachA lastA s) s
  else
    let s := { s with ring := { s.ring with split := true } }
    let s := if keepAlive s then s else s.set F.CVL_STATUS_MODE 2
    causeRec C.RING_BREAK sevWarning [] (splitView (reachA lastA s) s)

/-- Has either port lost its recovered clock (R122)? -/
def portGone (s : State) : Bool := portLost s 0 || portLost s 1

/-- Ring mode resumes at the frame start after RING_MODE has been broadcast (R124). -/
def ringWhole (s : State) : State :=
  let s := { s with ring := { s.ring with split := false, endBack := true, restoring := none } }
  let s := (s.set F.CVL_STATUS_MODE 1).set F.CVL_STATUS_BREAK_AFTER 0x3F
  let s := (boardNums s).foldl (fun s k => s.setB (F.CVL_BRD_STATE_SPLIT_B (k - 1)) false) s
  raise C.RING_RESTORED (portLink 1 true (portLink 0 true s))

def restoreCheck (s : State) : State := if s.ring.restoring = some true then ringWhole s else s

/-! ## Stopping balancing (R264, R276, R279) -/

/-- Every channel goes off at the next sample instant: BAL_STOP to all boards (R284). -/
def balHalt (s : State) : State :=
  { balStopSend none s with bal := { s.bal with
    plan := {}, next := none, acks := none, changed := false, wasOn := false, manual := [], diffRun := [], ovsRun := [] } }

/-- Is a channel commanded on, or free to hold its cell? -/
def balOn (s : State) : Bool :=
  s.bal.plan.masks.any (fun e => e.2 != 0) || s.bal.plan.cv.any (fun e => e.2 != 0) || !s.bal.manual.isEmpty

/-- The states in which the active policy acts (R264); a plan stopped for the Oasis hand-off is followed by none
(R279). -/
def balActs (s : State) : Bool :=
  (s.st == stStandby || s.st == stPrecharge || s.st == stRun) && !s.direct && s.bal.handoff.isNone

/-- May what is commanded go on? Positions in CV only in RUN with the loop closed, BAL_MANUAL only in TEST (R264). -/
def balMay (s : State) : Bool :=
  if balActs s then
    s.bal.manual.isEmpty && (s.bal.plan.cv.all (fun e => e.2 == 0) || (s.st == stRun && s.flag F.CTL_STATUS_CLOSED))
  else s.st == stTest && !s.direct && s.bal.plan.masks.all (fun e => e.2 == 0) && s.bal.plan.cv.all (fun e => e.2 == 0)

/-- The check at a frame or scan start (R264); the keep-alive scan stops every channel by its own flag (R155). -/
def balGate (s : State) : State := if balOn s && !balMay s then balHalt s else s

/-! ## Frame start (R102, R104, R152) -/

/-- Boards under an open-wire test in the frame that starts at `t`. -/
def owBoards (s : State) (t : Nat) : List Nat :=
  (s.acq.tests.map (fun x => x.board)).filter (fun k => owActive s k t)

/-- A stillness window starts at a 100 ms multiple with PREC_EN, never under the keep-alive scan (R125, R152). -/
def stillStart (t : Nat) (s : State) : State :=
  if t % 25000000 = 0 && s.flag F.MEAS_CFG_PREC_EN && !keepAlive s then
    let s := s.setB F.MEAS_STATUS_PREC_ACTIVE true
    { s with
      ring := { s.ring with still := some t }
      acq := { s.acq with prec := [], owPrec := [] } }
  else s

/-- Boards whose rows an open-wire test touches in this frame's SCAN and stillness window (R169). -/
def owMark (t : Nat) (s : State) : State :=
  let ks := owBoards s t
  if ks.isEmpty then s
  else
    let w := if isC1 s then t / 2500000 + 1 else windowOf t
    { s with acq := { s.acq with
      owScan := (s.acq.owScan ++ ks.map (fun k => (w, k))).dedup
      owPrec := if inStill s t then (s.acq.owPrec ++ ks).dedup else s.acq.owPrec } }

/-- SYNC bytes 2 to 9 (R104). -/
def syncBytes (t : Nat) (s : State) : List Byte :=
  let b := u32 t ++ u8 s.ring.frameNo ++ u8 (bitsOf [inStill s t, s.ring.split, keepAlive s])
  b ++ u16 (crc16 b)

/-- Standing BYPASS_REPORT slots of the frame (R157). -/
def standSlots (s : State) : List (Nat × Nat) :=
  ((boardNums s).filter (fun k => present s k && brdClass s k == 3 && s.ring.frameNo % 16 == (k - 1) % 16)).map standSlot

/-- Output at port A, and at port B too in split mode (R99, R123). -/
def sendPorts (f : Nat → Out) (s : State) : State :=
  let s := s.send (f 0)
  if s.ring.split then s.send (f 1) else s

/-- The boards' learning starts with the frame after the command that asks for it has left (R159, R165). -/
def startTests (t : Nat) (l : List (BoardCmd × Nat)) (s : State) : State :=
  let next := t + framePeriod s
  let has (code k : Nat) : Bool := l.any (fun e => e.1.code == code && (e.1.bcast || e.1.board == k))
  let ow (x : OwTest) : OwTest := if x.start.isNone && has 0x10 x.board then { x with start := some next } else x
  let s := { s with acq := { s.acq with tests := s.acq.tests.map ow } }
  let s := match s.acq.learn with
    | some (.wire c w) =>
      if w.start.isNone && has 0x11 0x3F then
        { s with acq := { s.acq with learn := some (.wire c { w with start := some next }) } }
      else s
    | _ => s
  match s.ring.wadiTest with
  | some x => if has 0x08 x.board then { s with ring := { s.ring with wadiTest := some { x with due := true } } } else s
  | none => s

/-- The payload of LEARN_STEP (R175): channel, current in 10 mA, frames on, frames off, cycles (widths: DESIGN CHOICE,
log entry 149). -/
def learnPayload (s : State) (j : Nat) : List Byte :=
  u8 j ++ u16 100 ++ u8 (learnHalf s) ++ u8 (learnHalf s) ++ u8 (learnCycles s)

/-- The LEARN_STEP of the next channel leaves in the last frame of the step before it (R159). -/
def learnNext (t : Nat) (s : State) : State :=
  match learnFrame s t with
  | some (j, m) => if m + 1 = learnLen s ∧ j < 15 then boardCast 0x11 (learnPayload s (j + 1)) s else s
  | none => s

/-- CS places commands in the frame or scan that starts at `t`; each takes effect as it reaches its boards, and what is
commanded by now gives the channels that are on at its sample instant (R114, R155). Under the keep-alive scan there are no
commands, and the boards stop balancing (R125, R155). -/
def commandWork (t : Nat) (s : State) : State × Placed :=
  let tS := t + sampleDelay s
  let go (s : State) : State × Placed :=
    if keepAlive s then ({ s with ring := { s.ring with chans := [], late := [] } }, {})
    else
      let s := ageCmds (learnNext t (takeLate tS s))
      let p := placeCmds (cmdRoom s) s.ring.cmds (usedSlots s.ring.cmds) []
      let s := { s with ring := { s.ring with
        cmds := p.left
        restoring := if p.taken.any (fun e => e.1.code == 0x06) then s.ring.restoring.map (fun _ => true)
          else s.ring.restoring } }
      (startTests t p.taken (p.taken.foldl (takeCmd tS) s), p)
  let r := go s
  let s := r.1
  (owMark t { s with ring := { s.ring with
    onPrev := s.ring.onNow, onNow := (boardNums s).map (fun k => (k, onAt s t k)) } }, r.2)

/-- The frame leaves port A, and port B too in split mode (R99, R102, R123). -/
def sendFrame (t : Nat) (p : Placed) (s : State) : State :=
  let slots := if keepAlive s then [] else standSlots s ++ usedSlots s.ring.cmds
  sendPorts (fun port => .frame port (frameSyms (syncBytes t s) p.bytes slots s.ring.frameNo)) s

/-- The T0 of a WADI_TEST: the board opens its switch, or the tone was already lost (R145). -/
def wadiTestStart (s : State) : State :=
  match s.ring.wadiTest with
  | none => s
  | some x =>
    if x.start.isSome || !x.due then s
    else if s.flag F.CVL_WADI_TONE then
      { s with ring := { s.ring with wadiTest := some { x with start := some s.time } } }
    else
      let s := { s with ring := { s.ring with wadiTest := none } }
      notifyOpt (some x.ctx) 0x0280 stForbids (u8 (s.get F.CVL_WADI_FIRST_DARK) ++ u16 0xFFFF) s

/-- An enumeration that waits starts once CS runs the ring, every contactor is open and no hold runs (R125). -/
def enumWaitCheck (s : State) : State :=
  if s.ring.enumWait && !keepAlive s && !anyClosed s && !s.flag (konFb 0) && !s.flag (konFb 1) && !s.flag (konFb 2) &&
      !s.flag F.SYS_STATE_HOLD then enumStart none s
  else s

/-- A frame starts (R102): the break check of the frame before (R122; `lastA` is the last board port A then reaches, of
use only while a break exists), then the new frame. -/
def ringFrame (lastA : Nat) (s : State) : State :=
  let s := restoreCheck s
  let lost := s.ring.t0.isSome && !s.ring.endBack
  let s := if lost || portGone s || s.ring.split then ringBreak lastA s else s
  let t := s.time
  let s := enumWaitCheck s
  if ringRuns s then
    let s := { s with ring := { s.ring with
      frameNo := (s.ring.frameNo + 1) % 256, t0 := some t, endBack := s.ring.split } }
    let s := wadiTestStart (stillStart t (balGate (s.bump F.CVL_FRAMES_COUNT 1)))
    let r := commandWork t s
    sendFrame t r.2 r.1
  else s

/-- FRAME_RECEIVED (R112): the slots of the frame carry the readings of the sample instant one frame before (R109);
`endB` says whether END has reached port B, `errors` counts other CRC failures and code violations at the ports. -/
def execFrameReceived (slots : List BoardSlot) (endB : Bool) (errors : Nat) (reports : List BypassReport)
    (s : State) : Host.Outcome State Fault Refusal :=
  finish (match s.ring.t0 with
    | some t =>
      if ringRuns s && !isC1 s then
        let s := { s with ring := { s.ring with endBack := s.ring.endBack || endB } }
        let s := (List.range errors).foldl (fun s _ => frameError s) s
        let s := if streamOn s then stringTake (t - 14125) s else s
        framesDue (t - 15625) (dataIn slots (t - 14125) (t - 15625) (windowOf (t - 15625)) (reports.foldl takeReport s))
      else s
    | none => s)

/-! ## No reading (R113) -/

/-- A row of the cell table is rewritten (R172): SEQ counts it where it changes anything. -/
def updateRow (n : Nat) (f : Cell → Cell) (s : State) : State :=
  let c := getCell s n
  let d := f c
  if d = c then s else setCell n { d with seq := c.seq + 1 } s

/-- NO_READING_LIMIT (R113, R30): the period since the last valid reading ends, or since ENUM_DONE where there was none
(DEDUCED, log entry 34). With a contactor closed or a hold running SP treats it as a cell limit. -/
def execNoReadingLimit (pos : Nat) (s : State) : Host.Outcome State Fault Refusal :=
  finish (if pos < posCount s then
    let s := updateRow pos (fun c => { c with flags := c.flags ||| 0x80 }) (s.at (lastReading s pos + noReadingPeriod s))
    if readingsCount s then sei 0x08 (s.setB F.SAFE_STATUS_CELL_LIMIT true) else s
  else s)

/-! ## Enumeration (R118 to R121) -/

/-- ADDRESS_TOKEN_TIMEOUT (R119): 20 ms after ADDRESS left port A, at the start of step 3, the token has not returned to
port B; CS addresses from port B, starting at BOARDS. -/
def execAddressTokenTimeout (s : State) : Host.Outcome State Fault Refusal :=
  finish (if s.flag F.CVL_STATUS_ENUM_BUSY && enginesUp s && !s.ring.tokenB then
    let s := { s.at (s.ring.enumFrom + 70 * ms) with ring := { s.ring with tokenB := true } }
    s.send (.packet 1 (addressPacket 0x3F (s.get F.CVL_CFG_BOARDS)))
  else s)

/-- The configured serial of board `k`. -/
def cfgSerial (s : State) (k : Nat) : Nat :=
  s.get64 (F.CVL_BRD_SERIAL_LO_SERIAL (k - 1)) (F.CVL_BRD_SERIAL_HI_SERIAL (k - 1))

/-- Pass 1 of R119: found boards, by their place in the list, that take the number of their configured serial. -/
def passOne (s : State) (n : Nat) (found : List FoundBoard) : List (Nat × FoundBoard) × List FoundBoard :=
  found.foldl (fun (p : List (Nat × FoundBoard) × List FoundBoard) b =>
    match ((List.range n).map (· + 1)).find? (fun k => cfgSerial s k == b.serial.toNat && !(p.1.any (fun e => e.1 == k)))
      with
    | some k => (p.1 ++ [(k, b)], p.2)
    | none => (p.1, p.2 ++ [b])) ([], [])

/-- Pass 2 of R119 for boards reached from port A, and for those reached only from port B; boards left over take
numbers above BOARDS. -/
def passTwo (n : Nat) (rest : List FoundBoard) (taken : List (Nat × FoundBoard)) : List (Nat × FoundBoard) :=
  let r := rest.foldl (fun (p : List (Nat × FoundBoard) × Nat) b =>
    let free := ((List.range n).map (· + 1)).filter (fun k => !(p.1.any (fun e => e.1 == k)))
    match (if b.fromB then free.reverse else free) with
    | k :: _ => (p.1 ++ [(k, b)], p.2)
    | [] => (p.1 ++ [(p.2, b)], p.2 + 1)) (taken, n + 1)
  r.1

/-- The numbers the found boards take. -/
def numbering (s : State) (found : List FoundBoard) : List (Nat × FoundBoard) :=
  let n := s.get F.CVL_CFG_BOARDS
  let p := passOne s n found
  passTwo n p.2 p.1

/-- The number that the token of R119 left a found board with: counted up from 1 at port A, down from BOARDS at port B. -/
def tokenNumbers (s : State) (found : List FoundBoard) : List (FoundBoard × Nat) :=
  let a := found.filter (fun b => !b.fromB)
  let b := found.filter (fun b => b.fromB)
  a.zipIdx 1 ++ (b.zipIdx).map (fun e => (e.1, s.get F.CVL_CFG_BOARDS - e.2))

/-- A further ADDRESS to each board whose number changes (R119). -/
def sendNumbers (nums : List (Nat × FoundBoard)) (found : List FoundBoard) (s : State) : State :=
  nums.foldl (fun s e =>
    match (tokenNumbers s found).lookup e.2 with
    | some old => if old = e.1 then s else s.send (.packet (if e.2.fromB then 1 else 0) (addressPacket old e.1))
    | none => s) s

/-- Probes of a delay measurement: 64 on Caravan-2, 16 on Caravan-1 (R121). -/
def probeCount (c2 : Bool) : Nat := if c2 then 64 else 16

/-- CS writes the thresholds to the boards that take a configured number, and reads each back (R402, R118 step 3). -/
def setupBoard (s : State) (e : Nat × FoundBoard) : State :=
  let port := if e.2.fromB then 1 else 0
  [(5, s.get F.SAFE_CMP_V_CMP_OV), (6, s.get F.SAFE_CMP_V_CMP_UV), (7, s.get F.SAFE_CMP_T_CMP_OT)].foldl
    (fun (s : State) (w : Nat × Nat) =>
      (s.send (.packet port (boardPacket e.1 0x02 0 (rspUnits 0x02) (u8 w.1 ++ u32 w.2)))).send
        (.packet port (boardPacket e.1 0x01 0 (rspUnits 0x01) (u8 w.1)))) s

/-- The probes to a board from a port, forward from A and reverse from B. -/
def sendProbes (c2 : Bool) (k port : Nat) (probes : List Nat) (s : State) : State :=
  if probes.isEmpty then s
  else (List.range (probeCount c2)).foldl (fun s _ => s.send (.packet port (boardPacket k 0x03 0 (rspUnits 0x03) (u8 port)))) s

/-- A delay in 0.25 ns (R121): half of the mean round trip less the turnaround of RB_ID in ns; 0xFFFF not measured. -/
def probeDelay (c2 : Bool) (id : Word) (probes : List Nat) : Nat :=
  let l := probes.take (probeCount c2)
  if l.isEmpty then 0xFFFF
  else
    let mean : Rat := ((l.sum : Nat) : Rat) / ((l.length : Nat) : Rat)
    min 0xFFFF (roundQ ((mean - ((4 * fieldOf id 24 8 : Nat) : Rat)) / 2)).toNat

/-- The ring runs Caravan-2 (R101). -/
def runsC2 (s : State) (found : List FoundBoard) : Bool := found.all (·.c2) && !s.flag F.CVL_CFG_FORCE_C1

/-- What a board of number `k` shows after enumeration (R120, R121, R126, R142), found or not: delays, the class found,
and whether it is read. Boards above BOARDS are not read and not missing. -/
def enumShow (k : Nat) (da db cls : Nat) (ok miss : Bool) (new : Bool) (v : RingView) (s : State) : State :=
  let i := k - 1
  let s := (s.set (F.CVL_BRD_LATE_CNT_VALUE i) 0).set (F.CVL_BRD_CRC_CNT_VALUE i) 0
  let s := ((s.set (F.CVL_BRD_DELAY_DELAY_A i) da).set (F.CVL_BRD_DELAY_DELAY_B i) db).set
    (F.CVL_BRD_STATE_CLASS_FOUND i) cls
  let s := ((s.setB (F.CVL_BRD_STATE_PRESENT i) ok).setB (F.CVL_BRD_STATE_MISSING i) miss).setB
    (F.CVL_BRD_STATE_SERIAL_NEW i) new
  ((s.setB (F.CVL_BRD_STATE_SPLIT_B i) false).setB (F.CVL_BRD_STATE_HEARD_A i) (v.heardA.contains k)).setB
    (F.CVL_BRD_STATE_HEARD_B i) (v.heardB.contains k)

/-- The checks of R120 and the registers of board `k` after enumeration; class and serial configured now are those in
force until the next one (R135). -/
def enumBoard (nums : List (Nat × FoundBoard)) (c2 : Bool) (v : RingView) (s : State) (k : Nat) : State :=
  let mine := decide (k ≤ boards s)
  let cls := s.get (F.CVL_BRD_CFG_CLASS (k - 1))
  let base : Brd := { cls := cls, cfg := cfgSerial s k }
  match nums.lookup k with
  | none =>
    let s := setBrd k base (enumShow k 0xFFFF 0xFFFF 0 false mine false v s)
    if mine then raise C.BOARD_MISSING s else s
  | some b =>
    let ok := mine && b.cls.toNat == cls && b.thresholds
    let id := getAt b.words 0 0
    let s := enumShow k (probeDelay c2 id b.probesA) (probeDelay c2 id b.probesB) b.cls.toNat ok (mine && !ok)
      (b.serial.toNat != cfgSerial s k) v s
    let s := setBrd k { base with
      read := ok, serial := some b.serial.toNat, rbal := fieldOf (getAt b.words 12 0) 0 16 } s
    let s := (List.range 12).foldl (fun s j => setMirror k j (getAt b.words j 0) s) s
    let s := sendProbes c2 k 1 b.probesB (sendProbes c2 k 0 b.probesA s)
    if mine && !ok then raise C.BOARD_MISSING s else s

/-- A CM-16B board on a Caravan-2 ring is told its standing slot (R157, R175). -/
def askReports (c2 : Bool) (s : State) : State :=
  if c2 then
    ((boardNums s).filter (fun k => present s k && brdClass s k == 3)).foldl (fun s k => boardSend k 0x12 [] s) s
  else s

/-- CS writes the comparator thresholds of a committed SAFE set to a board (R402). -/
def sendThresholds (s : State) (k : Nat) : State :=
  [(5, s.get F.SAFE_CMP_V_CMP_OV), (6, s.get F.SAFE_CMP_V_CMP_UV), (7, s.get F.SAFE_CMP_T_CMP_OT)].foldl
    (fun (s : State) (e : Nat × Nat) => boardSend k 0x02 (u8 e.1 ++ u32 e.2) s) s

/-- Enumeration completes (R118 to R121, R135, R402): ADDRESS where numbers change, the thresholds, RATE, delay
measurement, the checks. -/
def enumDone (v : RingView) (s : State) : State :=
  let nums := numbering s v.found
  let n := s.get F.CVL_CFG_BOARDS
  let c2 := runsC2 s v.found
  let s := { s with
    ring := { s.ring with
      boards := n, brds := [], mirror := [], cmds := [], late := [], chans := [], onNow := [], onPrev := [],
      split := false, restoring := none, t0 := none, endBack := true, enumAt := s.time, enumWait := false }
    acq := { s.acq with owLast := (List.range n).map (fun i => (i + 1, s.time)), win := [] }
    bal := { s.bal with stopped := [], report := [] } }
  let s := (nums.filter (fun e => decide (e.1 ≤ n))).foldl setupBoard (sendNumbers nums v.found s)
  let s := if c2 then sendPorts (fun port => .packet port (boardPacket 0x3F 0x05 0xFF 0 (u8 2))) s else s
  let s := ((List.range 36).map (· + 1)).foldl (enumBoard nums c2 v) s
  let s := (s.set F.CVL_STATUS_FOUND v.found.length).set F.CVL_FRAMES_COUNT 0
  let s := ((s.setWord 0x10008 0).setWord 0x1000C 0).set F.CVL_STATUS_GEN (if c2 then 2 else 1)
  let s := (s.set F.CVL_STATUS_MODE 1).set F.CVL_STATUS_BREAK_AFTER 0x3F
  let s := if c2 then s else raise C.GEN_FALLBACK s
  let s := s.setB F.EIS_STATUS_UNAVAIL (!c2)
  let s := portLink 1 (v.found.any (fun b => !b.probesB.isEmpty)) (portLink 0 (v.found.any (fun b => !b.fromB)) s)
  let s := askReports c2 (raise C.ENUM_DONE (s.setB F.CVL_STATUS_ENUM_BUSY false))
  notifyOpt s.ring.enumCtx 0x0C01 stOk [] { s with ring := { s.ring with enumCtx := none } }

/-! ## Restoration and take-over (R124, R125) -/

/-- The delays measured during the second of R124, and a board that has come in a board's place, handled as R120 states:
of another class it is not read. -/
def restoreBoard (s : State) (b : BackBoard) : State :=
  let k := b.k
  let i := k - 1
  let id := mirrorWord s k 0
  let put (port : Nat) (f : Fld) (probes : List Nat) (s : State) : State :=
    if s.get f = 0xFFFF ∧ probes ≠ [] then
      sendProbes (!isC1 s) k port probes (s.set f (probeDelay (!isC1 s) id probes))
    else s
  let s := put 1 (F.CVL_BRD_DELAY_DELAY_B i) b.probesB (put 0 (F.CVL_BRD_DELAY_DELAY_A i) b.probesA s)
  match b.swapped with
  | some (n, cls) =>
    let ok := cls.toNat == brdClass s k
    let s := setBrd k { getBrd s k with serial := some n.toNat, read := ok } s
    let s := (s.setB (F.CVL_BRD_STATE_SERIAL_NEW i) (n.toNat != (getBrd s k).cfg)).set (F.CVL_BRD_STATE_CLASS_FOUND i)
      cls.toNat
    if ok then s.setB (F.CVL_BRD_STATE_PRESENT i) true
    else raise C.BOARD_MISSING ((s.setB (F.CVL_BRD_STATE_PRESENT i) false).setB (F.CVL_BRD_STATE_MISSING i) true)
  | none => s

/-! ## Tone (R130 to R134) -/

/-- WADI_TONE_RETURN (R130): three valid cycles in a row. -/
def execWadiToneReturn (s : State) : Host.Outcome State Fault Refusal :=
  finish (if s.st = stShip then s else rearmCheck (s.setB F.CVL_WADI_TONE true))

/-- AMPL over the latest 1 ms, and since when it has been low with the tone present (R134, R140). -/
def wadiAmpl (a : Nat) (s : State) : State :=
  let a := min 255 (calNat s 33 a)
  let low := s.flag F.CVL_WADI_TONE && decide (a < 40)
  let s := s.set F.CVL_WADI_AMPL a
  { s with ring := { s.ring with
    lowSince := if low then some (s.ring.lowSince.getD s.time) else none,
    lowNoted := low && s.ring.lowNoted } }

/-- The WADI_LOW record (R134, R568): once per spell. -/
def wadiLow (s : State) : State :=
  match s.ring.lowSince with
  | some t =>
    if t + sec ≤ s.time ∧ s.ring.lowNoted = false ∧ s.flag F.CVL_WADI_TONE = true then
      addRec sevWarning 0x03 0x0010 (u8 (s.get F.CVL_WADI_AMPL)) { s with ring := { s.ring with lowNoted := true } }
    else s
  | none => s

/-- WADI_LOW (R134). -/
def execWadiLow (s : State) : Host.Outcome State Fault Refusal :=
  finish (wadiLow (match s.ring.lowSince with | some t => s.at (t + sec) | none => s))

/-- The completion of a WADI_TEST (R145): detection time from its T0 to the loss, in µs. -/
def wadiTestDone (s : State) : State :=
  match s.ring.wadiTest with
  | some x =>
    match x.start with
    | some t =>
      notifyOpt (some x.ctx) 0x0280 stOk (u8 (s.get F.CVL_WADI_FIRST_DARK) ++ u16 ((s.time - t) / us))
        { s with ring := { s.ring with wadiTest := none } }
    | none => s
  | none => s

/-- Tone loss (R131): the ZSL's latch and SEI; in OASIS it wakes the module, and cause and record wait for the scan; in
BOOT they wait until the supervisor runs (R44). -/
def wadiLoss (s : State) : State :=
  if s.st = stShip || !s.sys.powered then s
  else
    let s := (s.setB F.CVL_WADI_TONE false).setB F.CVL_WADI_LOST_LATCH true
    let s := { s with ring := { s.ring with lowSince := none, lowNoted := false } }
    if s.st = stOasis then seiDemand 0x03 s
    else
      let s := if s.st = stBoot ∧ !s.sys.supRuns then s else wadiLossRec s
      wadiTestDone (seiDemand 0x03 s)

/-- WADI_LOSS (R131) at the raw TIME count `at_`. -/
def execWadiLoss (at_ : Nat) (s : State) : Host.Outcome State Fault Refusal := finish (wadiLoss (s.at at_))

def doWadiTest (c : Ctx) (k : Nat) (s : State) : State :=
  if k < 1 ∨ 36 < k then replyRange c 0x0280 0 s
  else if s.ring.wadiTest.isSome then replyBusy c 0x0280 100 s
  else if boards s < k ∨ present s k = false then replyIncons c 0x0280 0 s
  else if s.flag F.CVL_WADI_TONE then
    let s := boardSend k 0x08 (u16 5) (replyAccepted c 0x0280 s)
    { s with ring := { s.ring with wadiTest := some ⟨k, c, false, none⟩ } }
  else replyForbids c 0x0280 s

/-- WADI_TEST (R145). -/
def execWadiTest (c : Ctx) (k : BitVec 8) (s : State) : Host.Outcome State Fault Refusal :=
  finish (withCmd c 0x0280 (doWadiTest c k.toNat) s)

/-! ## BOARD_ACCEPT (R146) -/

/-- Copy a serial word into the active and the shadow set. -/
def adoptWord (o : Origin) (f : Fld) (v : Nat) (s : State) : State :=
  let s := { s with shadow := s.shadow.filter (fun e => e.1 != f.addr) }
  storeWord o f.addr (BitVec.ofNat 32 v) s

/-- The CVL shadow holds uncommitted writes: TOKEN differs from its value after the last commit or discard. -/
def shadowDirty (s : State) (b : Block) : Bool := s.get (shToken b) != tabGet s.sys.cleanTok (blockIdx b) 0

def doBoardAccept (c : Ctx) (k : Nat) (s : State) : State :=
  if k < 1 ∨ 36 < k then replyRange c 0x0281 0 s
  else if s.flag (shPending .cvl) then replyBusy c 0x0281 100 s
  else if shadowDirty s .cvl then replyIncons c 0x0281 0 s
  else
    match (getBrd s k).serial with
    | none => replyIncons c 0x0281 0 s
    | some n =>
      if s.flag (F.CVL_BRD_STATE_SERIAL_NEW (k - 1)) then
        let o := Ctx.origin c
        let s := adoptWord o (F.CVL_BRD_SERIAL_LO_SERIAL (k - 1)) n s
        let s := adoptWord o (F.CVL_BRD_SERIAL_HI_SERIAL (k - 1)) (n / 2 ^ 32) s
        let s := addRec sevNotice 0x03 0x0011 (u8 k ++ u64 n) (s.setB (F.CVL_BRD_STATE_SERIAL_NEW (k - 1)) false)
        replyOk c 0x0281 [] s
      else replyOk c 0x0281 [] s

/-- BOARD_ACCEPT (R146). -/
def execBoardAccept (c : Ctx) (k : BitVec 8) (s : State) : Host.Outcome State Fault Refusal :=
  finish (withCmd c 0x0281 (doBoardAccept c k.toNat) s)

/-! ## Remote words (R127, R128, R141) -/

/-- A host write of the bits of `mask` of CVL_RB_DATA (R76): posted to the board and word that CVL_RB_SEL names now, or
rejected. The words that take one clear where a 0 is written, so the other bits are written 1. -/
def remoteWrite (o : Origin) (v mask : Word) (s : State) : State × WRes :=
  let k := s.get F.CVL_RB_SEL_BOARD
  let i := s.get F.CVL_RB_SEL_INDEX
  let v := v ||| ~~~mask
  if i = 4 ∨ i = 11 then
    let was := s.flag (postBusy .cvr)
    let r := postWrite ⟨.cvr, mirrorKey k i, 0xFFFFFFFF, v, o, true, s.time⟩ s
    if was then r else (boardSend k 0x02 (u8 i ++ u32 v.toNat) r.1, r.2)
  else (writeRejected 0x10044 o s, .locked)

/-- REMOTE_WORD_WRITE (R127). -/
def execRemoteWordWrite (p : Path) (value : BitVec 32) (s : State) : Host.Outcome State Fault Refusal :=
  finish (withWrite p 0x10044 value (remoteWrite (Path.origin p) value 0xFFFFFFFF) s)

/-- The word CVL_RB_DATA reads: 0 for words 12 to 31 and boards not present (R141). -/
def remoteRead (s : State) : Word :=
  let k := s.get F.CVL_RB_SEL_BOARD
  let i := s.get F.CVL_RB_SEL_INDEX
  if i < 12 ∧ 1 ≤ k ∧ present s k then mirrorWord s k i else 0

end Sys2Proof.Machine
end

