-- ==== Sys2Proof/Machine/Acq.lean ====
section
/-!
DEFINITION. Cell acquisition (chapter 5): SCAN, PRECISION, the string sum check, wire-break and cell-fault diagnosis,
open-wire tests, wire-resistance learning and the soft limits.
-/

namespace Sys2Proof.Machine

/-! ## Latched maps and flags -/

/-- Bit of a wire in MEAS_WB and of a position in MEAS_CF (R181). -/
def wbFld (w : Nat) : Fld := ⟨0x11100 + 4 * (w / 32), w % 32, 1⟩
def cfFld (n : Nat) : Fld := ⟨0x11180 + 4 * (n / 32), n % 32, 1⟩

def pairHeld (s : State) (w : Nat) : Bool := decide (0 < tabGet s.acq.pairRun w 0)
def singleHeld (s : State) (n : Nat) : Bool := decide (0 < tabGet s.acq.singleRun n 0)

/-- FLAGS of a position (R173), from bit 0: wire suspect, wire break, cell suspect, cell fault, high resistance, then
the soft limits and NO_READING as they stand. -/
def flagsOf (s : State) (n : Nat) : Nat :=
  let old := (getCell s n).flags
  bitsOf [pairHeld s n || pairHeld s (n + 1), s.flag (wbFld n) || s.flag (wbFld (n + 1)), singleHeld s n,
    s.flag (cfFld n), s.acq.highR.contains n || s.acq.highR.contains (n + 1)] + (old &&& 0xE0)

/-- A position is tagged INVALID (R118, R164, R167). -/
def tagInvalid (s : State) (flags : Nat) : Bool :=
  flags &&& 0x0F != 0 || s.get F.CVL_STATUS_GEN == 0 || s.flag F.CVL_STATUS_ENUM_BUSY

/-- A row with its flags and tags brought up to date; a HELD row stays HELD (R173). -/
def tagCell (s : State) (n : Nat) (c : Cell) : Cell :=
  let f := flagsOf s n
  let bad := tagInvalid s f
  { c with
    flags := f
    tagScan := if bad then 4 else c.tagScan
    tagPrec := if bad then 4 else c.tagPrec }

/-- The same within a row update that is counted anyway. -/
def tagNow (n : Nat) (s : State) : State := setCell n (tagCell s n (getCell s n)) s

/-- Flags and tags of a position brought up to date, as a row update of its own (R172). -/
def retag (n : Nat) (s : State) : State := updateRow n (tagCell s n) s

/-- A change of a row's flags by `f` outside an estimation tick is a row update (R172). -/
def counted (n : Nat) (f : State → State) (s : State) : State :=
  let c := getCell s n
  let s := f s
  if getCell s n = c then s else setCell n { getCell s n with seq := c.seq + 1 } s

/-- Rows whose R_LO or R_HI has been rewritten (R172). -/
def wireRows (w : Nat) (s : State) : State :=
  let one (s : State) (n : Nat) : State := setCell n { getCell s n with seq := (getCell s n).seq + 1 } s
  ((if w = 0 then [] else [w - 1]) ++ (if w < posCount s then [w] else [])).foldl one s

/-! ## SCAN (R149, R150, R158) -/

/-- Board of a position. -/
def boardOf (s : State) (n : Nat) : Nat := match posBoard s n with | some (k, _) => k | none => 0

/-- The row of a position at the estimation tick number `w`. -/
def scanRow (w : Nat) (s : State) (n : Nat) : State :=
  let a := tabGet s.acq.win (1024 * w + n) {}
  let c := getCell s n
  let t := w * 2500000
  let c1 := isC1 s
  let valid := decide ((if c1 then 1 else 80) ≤ a.n) && !s.acq.owScan.contains (w, boardOf s n)
  let num : Rat := (a.n : Nat)
  let age := match c.lastValid with | some l => min 0xFFFF ((t - l) / ms) | none => 0xFFFF
  let c := { c with
    tScan := if c1 then t - 4975000 else t - 76625
    valid := a.n
    age := age
    temp := tabGet s.thm.temps n c.temp
    seq := c.seq + 1 }
  let c := if valid then { c with
      vScan := roundQ (a.sum / num / 10)
      balCorr := roundQ (a.corr / num / 10)
      iBal := roundQ (a.ib / num * 1000)
      tagScan := if a.adj then 1 else 0 }
    else { c with tagScan := 3 }
  setCell n (tagCell s n c) s

/-- Positions with a valid SCAN reading of this tick (R150). -/
def scanValid (s : State) (n : Nat) : Bool :=
  let t := (getCell s n).tagScan
  t == 0 || t == 1 || (t == 4 && decide ((if isC1 s then 1 else 80) ≤ (getCell s n).valid) &&
    !s.acq.owScan.contains (s.time / 2500000, boardOf s n))

/-! ## Sum check (R161, R162) -/

/-- Σ V_SCAN in mV. -/
def sumScan (s : State) : Rat :=
  (positions s).foldl (fun a n => a + ((getCell s n).vScan : Rat) / 100) 0

def sumSuspended (s : State) : Bool :=
  (positions s).any (fun n => (getCell s n).tagScan == 3) || !s.flag F.MEAS_STATUS_POD_OK ||
    s.flag F.CTL_FB_PRIMARY_LOST || !s.flag F.MEAS_STATUS_RIC_VALID

/-- SUM_FAIL sets after 10 ticks beyond SUM_TOL, and clears after 10 within (R162). -/
def sumFailSet (s : State) : State :=
  if 10 ≤ s.acq.sumRun ∧ s.flag F.MEAS_STATUS_SUM_FAIL = false then
    causeRec C.SUM_CHECK sevWarning [] (s.setB F.MEAS_STATUS_SUM_FAIL true)
  else s

def sumFailClear (s : State) : State :=
  if 10 ≤ s.acq.sumOk then s.setB F.MEAS_STATUS_SUM_FAIL false else s

/-- SUM_CHECK and SUM_CHECK_CLEAR (R162). -/
def execSumCheck (s : State) : Host.Outcome State Fault Refusal := finish (sumFailSet s)
def execSumCheckClear (s : State) : Host.Outcome State Fault Refusal := finish (sumFailClear s)

/-- V_STR, I and the residual r of the tick in mV; V_STR holds while POD_OK is 0 (R161, R179). -/
def sumCheck (w : Nat) (s : State) : State × Rat :=
  let a := tabGet s.acq.str w {}
  let num : Rat := (a.n : Nat)
  let s := { s with acq := { s.acq with qScan := a.i / 3600000000 } }
  let s := if a.n = 0 then s
    else
      let s := { s with acq := { s.acq with iScan := a.i / num } }
      if s.flag F.MEAS_STATUS_POD_OK then s.setI F.MEAS_VSTR_VALUE (roundQ (a.v / num * 1000)) else s
  let sum := sumScan s
  let v : Rat := (s.getI F.MEAS_VSTR_VALUE : Rat)
  let r := v - (sum + s.acq.iScan * (s.getI F.MEAS_RIC_VALUE : Rat) / 1000)
  let s := (s.setI F.MEAS_VSUM_VALUE (roundQ sum)).setI F.MEAS_SUM_RES_VALUE (roundQ r)
  let susp := sumSuspended s
  let s := s.setB F.MEAS_STATUS_SUM_SUSPENDED susp
  let out := decide (((s.get F.MEAS_SUM_TOL_SUM_TOL : Nat) : Rat) < absQ r)
  let s := { s with acq := { s.acq with
    sumRun := if susp || !out then 0 else s.acq.sumRun + 1
    sumOk := if susp || out then 0 else s.acq.sumOk + 1 } }
  (sumFailClear (sumFailSet s), r)

/-! ## Open-wire tests (R164 to R168) -/

def owBusy (s : State) (k : Nat) : Bool := s.acq.tests.any (fun x => x.board == k)

/-- CS asks a board for an open-wire test, which starts at the T0 after the command has left (R165). -/
def owStart (k : Nat) (s : State) : State :=
  if owBusy s k then s
  else
    let s := boardSend k 0x10 [] s
    { s with acq := { s.acq with tests := s.acq.tests ++ [({ board := k } : OwTest)] } }.setB F.MEAS_STATUS_OW_BUSY true

/-- Boards with an input on wire `w` (R156: a wire at a board boundary is an input of both). -/
def boardsOnWire (s : State) (w : Nat) : List Nat :=
  (boardNums s).filter (fun k => decide (brdBase s k ≤ w ∧ w ≤ brdBase s k + brdCount s k))

/-- DIAGNOSIS_OPEN_WIRE (R164): a rule that has held for 10 ticks tests every board with an input on the suspect. -/
def diagTests (s : State) : State :=
  let pairs := (s.acq.pairRun.filter (fun e => e.2 == 10)).map (·.1)
  let singles := (s.acq.singleRun.filter (fun e => e.2 == 10)).map (·.1)
  let ks := (pairs ++ singles ++ singles.map (· + 1)).foldl (fun l w => l ++ boardsOnWire s w) []
  ks.foldl (fun s k => owStart k s) s

def execDiagnosisOpenWire (s : State) : Host.Outcome State Fault Refusal := finish (diagTests s)

/-- The end of a board's last test, or ENUM_DONE. -/
def owSince (s : State) (k : Nat) : Nat := tabGet s.acq.owLast k s.ring.enumAt

/-- OPEN_WIRE_PERIODIC (R164). -/
def execOpenWirePeriodic (k : Nat) (s : State) : Host.Outcome State Fault Refusal :=
  let p := s.get F.MEAS_OW_CFG_OW_PERIOD
  finish (if p ≠ 0 ∧ 1 ≤ k ∧ k ≤ boards s ∧ ringRuns s then owStart k (s.at (owSince s k + p * sec)) else s)

/-- Wires that are inputs of a board. -/
def brdWires (s : State) (k : Nat) : List Nat := (List.range (brdCount s k + 1)).map (· + brdBase s k)

/-- WIRE_BREAK_RETEST (R168). -/
def execWireBreakRetest (k : Nat) (s : State) : Host.Outcome State Fault Refusal :=
  finish (if 1 ≤ k ∧ k ≤ boards s ∧ ringRuns s ∧ (brdWires s k).any (fun w => s.flag (wbFld w)) then
    owStart k (s.at (owSince s k + 60 * sec)) else s)

/-- The readings of the positions beside a wire. -/
def besideWire (s : State) (w : Nat) : List Nat :=
  (if w = 0 then [] else [w - 1]) ++ (if w < posCount s then [w] else [])

/-- WIRE_BREAK(w) (R167). -/
def wireBreak (w : Nat) (s : State) : State :=
  let s := s.setB (wbFld w) true
  let s := (s.set F.MEAS_DIAG_KIND 1).set F.MEAS_DIAG_WIRE w
  let pl := u16 w ++ ((besideWire s w).map (fun n => s32 (getCell s n).vScan)).flatten
  (besideWire s w).foldl (fun s n => retag n s) (causeRec C.WIRE_BREAK sevFault pl s)

/-- WIRE_HIGH_R on a wire whose pair rule held (R167). -/
def wireHigh (w : Nat) (shift : Rat) (s : State) : State :=
  let s := { s with acq := { s.acq with highR := if s.acq.highR.contains w then s.acq.highR else w :: s.acq.highR } }
  let s := (s.set F.MEAS_DIAG_KIND 3).set F.MEAS_DIAG_WIRE w
  addRec sevWarning 0x04 0x0010 (u16 w ++ u16 (roundQ shift).toNat) s

/-- CELL_FAULT(n) (R167). -/
def cellFault (n : Nat) (s : State) : State :=
  let s := ((s.setB (cfFld n) true).set F.MEAS_DIAG_KIND 2).set F.MEAS_DIAG_POS n
  let pl := u16 n ++ s32 (roundQ (tabGet s.acq.lastDelta n 0 * 100)) ++ s32 (roundQ s.acq.lastDr)
  retag n (causeRec C.CELL_FAULT sevFault pl s)

/-- The result of one tested wire (R166 to R168). -/
def wireResult (k : Nat) (s : State) (e : Nat × Rat) : State :=
  let w := e.1
  let elsewhere := s.acq.owRes.any (fun x => x.1 != k && x.2.any (fun y => y.1 == w && decide (100 ≤ y.2)))
  let other := (boardsOnWire s w).any (fun j => j != k && owBusy s j)
  if 100 ≤ e.2 then (if s.flag (wbFld w) then s else wireBreak w s)
  else
    let s := if 1 ≤ e.2 ∧ s.acq.highR.contains w = false then
        { s with acq := { s.acq with highR := w :: s.acq.highR } } else s
    let s := if e.2 < 1 ∧ elsewhere = false then s.setB (wbFld w) false else s
    if 10 ≤ tabGet s.acq.pairRun w 0 ∧ elsewhere = false ∧ other = false then wireHigh w e.2 s else s

/-- A completed test counts for the requests that named its board. -/
def owReqDone (k : Nat) (broken : List Nat) (s : State) : State :=
  let l := s.acq.owReqs.map (fun x => if x.boards.contains k then
    { x with boards := x.boards.filter (· != k), broken := x.broken ++ broken } else x)
  let s := { s with acq := { s.acq with owReqs := l.filter (fun x => !x.boards.isEmpty) } }
  (l.filter (fun x => x.boards.isEmpty)).foldl (fun s x =>
    notifyOpt (some x.ctx) 0x0200 stOk (x.broken.dedup.map u16).flatten s) s

/-- A board is no longer under test. -/
def owDrop (k : Nat) (s : State) : State :=
  let l := s.acq.tests.filter (fun x => x.board != k)
  { s with acq := { s.acq with tests := l, owLast := tabSet s.acq.owLast k s.time } }.setB F.MEAS_STATUS_OW_BUSY
    (!l.isEmpty)

/-- The shift of a wire in mV (R166): the larger of its adjacent positions, phase mean less baseline; a board counts its
even and odd wires from its own input 0 (DESIGN CHOICE, log entry 149). None without readings. -/
def owShift (s : State) (x : OwTest) (w : Nat) : Option Rat :=
  let phase := if (w - brdBase s x.board) % 2 = 0 then x.even else x.odd
  let one (n : Nat) : Option Rat :=
    match meanOf phase n, meanOf x.base n with
    | some a, some b => some (absQ (a - b) / 1000)
    | _, _ => none
  match (besideWire s w).filterMap one with
  | [] => none
  | v :: t => some (t.foldl maxQ v)

/-- Every wire of a position has been found intact by every board that tests it (R166, R167). -/
def wiresIntact (s : State) (n : Nat) : Bool :=
  [n, n + 1].all (fun w => (boardsOnWire s w).all (fun k =>
    !owBusy s k && (tabGet s.acq.owRes k []).any (fun e => e.1 == w && decide (e.2 < 1))))

/-- From T0 of an open-wire test to its result (R165). -/
def owLength (s : State) : Nat := if isC1 s then 120 * ms else 25 * ms

/-- An open-wire test completes (R166): wires without a reading stay as they were. -/
def owDone (x : OwTest) (s : State) : State :=
  let k := x.board
  let res := (brdWires s k).filterMap (fun w => (owShift s x w).map (fun v => (w, v)))
  let broken := (res.filter (fun e => decide (100 ≤ e.2))).map (·.1)
  let s := owDrop k s
  let s := { s with acq := { s.acq with owRes := tabSet s.acq.owRes k res } }
  let s := res.foldl (wireResult k) s
  let s := (positions s).foldl (fun s n =>
    if 10 ≤ tabGet s.acq.singleRun n 0 ∧ wiresIntact s n ∧ s.flag (cfFld n) = false then cellFault n s else s) s
  let s := (brdWires s k).foldl (fun s w => (besideWire s w).foldl (fun s n => retag n s) s) s
  owReqDone k broken (raise C.OPEN_WIRE_DONE s)

/-! ## Diagnosis (R163, R164) -/

/-- Insertion into a rising list, and the median of a list: the mean of the two middle values of an even number. -/
def insertQ (x : Rat) : List Rat → List Rat
  | [] => [x]
  | y :: t => if x ≤ y then x :: y :: t else y :: insertQ x t

def median (l : List Rat) : Rat :=
  let m := l.foldl (fun a x => insertQ x a) []
  let n := m.length
  if n % 2 = 1 then getAt m (n / 2) 0 else (getAt m (n / 2 - 1) 0 + getAt m (n / 2) 0) / 2

/-- d(n) of every position, mV. -/
def deviations (s : State) : List (Nat × Rat) :=
  let v (n : Nat) : Rat := ((getCell s n).vScan : Rat) / 100
  let m := median (((positions s).filter (scanValid s)).map v)
  (positions s).map (fun n => (n, v n - m))

/-- The mean over the kept ticks; the baselines of R163. -/
def baseline (s : State) (d : List (Nat × Rat)) : Anomaly :=
  let h := s.acq.hist
  let num : Rat := (h.length : Nat)
  ⟨h.foldl (fun a e => a + e.1) 0 / num,
    d.map (fun e => (e.1, h.foldl (fun a x => a + tabGet x.2 e.1 0) 0 / num))⟩

/-- The anomaly of this tick: none without a history to take a baseline from (DEDUCED, log entry 37). -/
def anomalyNow (d : List (Nat × Rat)) (s : State) : Option Anomaly :=
  let thr : Rat := (s.get F.MEAS_DIAG_CFG_DEV_THRESH : Nat)
  if d.any (fun e => decide (thr ≤ absQ e.2)) then
    match s.acq.anomaly with
    | some a => some a
    | none => if s.acq.hist.isEmpty then none else some (baseline s d)
  else none

/-- The pair rule for wire `w` (R164), on Δd and Δr. -/
def pairRule (s : State) (dd : List (Nat × Rat)) (dr : Rat) (w : Nat) : Bool :=
  let thr : Rat := (s.get F.MEAS_DIAG_CFG_DEV_THRESH : Nat)
  let tol : Rat := (s.get F.MEAS_DIAG_CFG_PAIR_TOL : Nat)
  let a := tabGet dd (w - 1) 0
  let b := tabGet dd w 0
  decide (a * b < 0 ∧ thr ≤ maxQ (absQ a) (absQ b) ∧ absQ (a + b) ≤ tol ∧ absQ dr ≤ tol)

/-- The single rule for position `n`, given the wires whose pair rule holds. -/
def singleRule (s : State) (dd : List (Nat × Rat)) (dr : Rat) (pairs : List Nat) (n : Nat) : Bool :=
  let thr : Rat := (s.get F.MEAS_DIAG_CFG_DEV_THRESH : Nat)
  let tol : Rat := (s.get F.MEAS_DIAG_CFG_PAIR_TOL : Nat)
  let a := tabGet dd n 0
  decide (thr ≤ absQ a ∧ absQ (dr + a) ≤ tol) && !pairs.contains n && !pairs.contains (n + 1)

/-- Run lengths of the indices that hold now. -/
def runsOf (old : List (Nat × Nat)) (now : List Nat) : List (Nat × Nat) :=
  now.map (fun i => (i, tabGet old i 0 + 1))

/-- CELL_FAULT clears after 100 ticks without the single rule while SUM_FAIL is 0 (R168). -/
def cellFaultClear (n : Nat) (s : State) : State :=
  if s.flag (cfFld n) && decide (100 ≤ tabGet s.acq.faultFree n 0) && !s.flag F.MEAS_STATUS_SUM_FAIL then
    s.setB (cfFld n) false
  else s

/-- CELL_FAULT_CLEAR (R168). -/
def execCellFaultClear (pos : Nat) (s : State) : Host.Outcome State Fault Refusal := finish (retag pos (cellFaultClear pos s))

/-- The diagnosis of a tick. -/
def diagnose (r : Rat) (s : State) : State :=
  let d := deviations s
  let s := d.foldl (fun s e => setCell e.1 { getCell s e.1 with dev := roundQ (e.2 * 100) } s) s
  let a := if s.flag F.MEAS_CFG_DIAG_EN then anomalyNow d s else none
  let dd : List (Nat × Rat) := match a with
    | some x => d.map (fun e => (e.1, e.2 - tabGet x.dBase e.1 0))
    | none => []
  let dr : Rat := match a with | some x => r - x.rBase | none => 0
  let pairs := if a.isSome then
    (List.range (posCount s)).filter (fun w => decide (1 ≤ w) && pairRule s dd dr w) else []
  let singles := if a.isSome then (positions s).filter (singleRule s dd dr pairs) else []
  let s := { s with acq := { s.acq with
    anomaly := a, hist := ((r, d) :: s.acq.hist).take 100, lastDelta := dd, lastDr := dr,
    pairRun := runsOf s.acq.pairRun pairs, singleRun := runsOf s.acq.singleRun singles,
    faultFree := ((positions s).filter (fun n => s.flag (cfFld n) && !singles.contains n)).map (fun n =>
      (n, tabGet s.acq.faultFree n 0 + 1)) } }
  let s := (positions s).foldl (fun s n => tagNow n (cellFaultClear n s)) s
  diagTests s

/-! ## Soft limits (R170) -/

def softBit (high : Bool) : Nat := if high then 5 else 6

def softSet (n : Nat) (high : Bool) (s : State) : State :=
  let c := getCell s n
  let run := tabGet (if high then s.acq.ovRun else s.acq.uvRun) n 0
  if 100 ≤ run ∧ c.flags / 2 ^ softBit high % 2 = 0 then
    raise (if high then C.SOFT_OV else C.SOFT_UV) (setCell n { c with flags := c.flags + 2 ^ softBit high } s)
  else s

def softClear (n : Nat) (high : Bool) (s : State) : State :=
  let c := getCell s n
  let run := tabGet (if high then s.acq.ovIn else s.acq.uvIn) n 0
  if 100 ≤ run ∧ c.flags / 2 ^ softBit high % 2 = 1 then setCell n { c with flags := c.flags - 2 ^ softBit high } s
  else s

/-- The derating of R401 follows the flags while the supervisor reports them. -/
def softReport (s : State) : State :=
  let any (b : Nat) : Bool := (positions s).any (fun n => (getCell s n).flags / 2 ^ b % 2 == 1)
  if supActs s then { s with safe := { s.safe with softOv := any 5, softUv := any 6 } } else s

/-- SOFT_LIMIT_SET and SOFT_LIMIT_CLEAR (R170). -/
def execSoftLimitSet (pos : Nat) (high : Bool) (s : State) : Host.Outcome State Fault Refusal :=
  finish (softReport (counted pos (softSet pos high) s))
def execSoftLimitClear (pos : Nat) (high : Bool) (s : State) : Host.Outcome State Fault Refusal :=
  finish (softReport (counted pos (softClear pos high) s))

/-- One position against one soft limit, mV; 0 disables it and clears its flag. -/
def softOne (high : Bool) (s : State) (n : Nat) : State :=
  let lim : Int := 100 * (s.get (if high then F.MEAS_SOFT_SOFT_OV else F.MEAS_SOFT_SOFT_UV) : Nat)
  let c := getCell s n
  let ok := c.tagScan == 0 || c.tagScan == 1
  let on := lim != 0
  let out := on && ok && (if high then decide (lim < c.vScan) else decide (c.vScan < lim))
  let inn := on && ok && (if high then decide (c.vScan ≤ lim - 1000) else decide (lim + 1000 ≤ c.vScan))
  let step (b : Bool) (l : List (Nat × Nat)) : List (Nat × Nat) :=
    if b then tabSet l n (tabGet l n 0 + 1) else tabDel l n
  let s := if high then
      { s with acq := { s.acq with ovRun := step out s.acq.ovRun, ovIn := step inn s.acq.ovIn } }
    else { s with acq := { s.acq with uvRun := step out s.acq.uvRun, uvIn := step inn s.acq.uvIn } }
  if on then softClear n high (softSet n high s)
  else
    let b := 2 ^ softBit high
    if c.flags / b % 2 = 1 then setCell n { c with flags := c.flags - b } s else s

def softTick (s : State) : State :=
  softReport ((positions s).foldl (fun s n => softOne false (softOne true s n) n) s)

/-! ## The acquisition part of an estimation tick -/

/-- IC_LEARN takes V_STR − Σ V_SCAN (mV) against I (A) (R161). -/
def icSample (r : Rat) (s : State) : State :=
  match s.acq.learn with
  | some (.ic c t n si sr sii sir lo hi) =>
    let i := s.acq.iScan
    let y := r + i * (s.getI F.MEAS_RIC_VALUE : Rat) / 1000
    let l : Learn := .ic c t (n + 1) (si + i) (sr + y) (sii + i * i) (sir + i * y)
      (if n = 0 then i else minQ lo i) (if n = 0 then i else maxQ hi i)
    { s with acq := { s.acq with learn := some l } }
  | _ => s

/-- STREAM_ACTIVE (R151). -/
def streamTick (s : State) : State := s.setB F.MEAS_STATUS_STREAM_ACTIVE (streamOn s)

/-- SCAN rows, sum check, diagnosis and soft limits at the tick at TIME; the tables stop while the DSP clock is lost
(R29). -/
def acqTick (s : State) : State :=
  let w := s.time / 2500000
  if dspLost s then streamTick s else
  let s := (positions s).foldl (scanRow w) s
  let p := sumCheck w s
  streamTick (icSample p.2 (softTick (diagnose p.2 p.1)))

/-- The sums of the window are used up. -/
def acqPrune (s : State) : State :=
  let w := s.time / 2500000
  { s with acq := { s.acq with
    win := s.acq.win.filter (fun e => decide (1024 * (w + 1) ≤ e.1))
    str := s.acq.str.filter (fun e => decide (w < e.1))
    owScan := s.acq.owScan.filter (fun e => decide (w ≤ e.1)) } }

/-! ## PRECISION (R152, R153) -/

/-- V_PREC of a position from the window's sums: `need` valid readings, the mean sampled last at `t`. -/
def precRow (need t : Nat) (s : State) (n : Nat) : State :=
  let a := tabGet s.acq.prec n {}
  let c := getCell s n
  let ok := decide (need ≤ a.n)
  let num : Rat := (a.n : Nat)
  let c := if ok then { c with vPrec := roundQ (a.sum / num / 10), tPrec := t, tagPrec := 2 } else { c with tagPrec := 3 }
  let c := { c with
    seq := c.seq + 1
    tagPrec := if s.acq.owPrec.contains (boardOf s n) then 4 else c.tagPrec }
  setCell n (tagCell s n c) s

/-- The window ends: V_PREC, and PRECISION_READY when every configured position is valid (R182). -/
def precEnd (need t : Nat) (s : State) : State :=
  let s := if dspLost s then s else (positions s).foldl (precRow need t) s
  let s := { s with ring := { s.ring with still := none }, acq := { s.acq with prec := [], owPrec := [] } }
  let s := s.setB F.MEAS_STATUS_PREC_ACTIVE false
  if (positions s).all (fun n => (getCell s n).tagPrec == 2) then raise C.PRECISION_READY s else s

/-- STILLNESS_WINDOW_END (R152): the reading of S(n0 + 31) has arrived, and balancing resumes at S(n0 + 32). -/
def execStillnessWindowEnd (s : State) : Host.Outcome State Fault Refusal :=
  finish (match s.ring.still with
    | some n0 => precEnd 16 (n0 + 31 * 15625 + 1500) (s.at (n0 + 32 * 15625))
    | none => s)

/-- BYPASS_REPORT is asked of every CM-16B board that balances, in the scan's command interval (R284). -/
def askScanReports (s : State) : State :=
  let on (k : Nat) : Bool := present s k && brdClass s k == 3 && tabGet s.ring.onNow k 0 != 0
  ((boardNums s).filter on).foldl (fun s k => sendPorts (fun port => .packet port (boardPacket k 0x12 0 10 [])) s) s

/-- A Caravan-1 scan (R117, R153) that starts at an estimation tick: SYNC1, whose still flag announces the next scan,
and COLLECT; the blocks, which carry the sample instant of the scan before; commands and reports. A ring break is declared
at its end (R122): `lastA` names the last board port A reaches where the train did not come back. -/
def scanIn (slots : List BoardSlot) (errors : Nat) (reports : List BypassReport) (lastA : Option Nat) (s : State) :
    State :=
  let t := s.time
  let s := enumWaitCheck (restoreCheck s)
  if ringRuns s then
    let was := s.ring.still
    let s := { s with ring := { s.ring with frameNo := (s.ring.frameNo + 1) % 256, t0 := some t } }
    let s := wadiTestStart (balGate (s.bump F.CVL_FRAMES_COUNT 1))
    let next := s.flag F.MEAS_CFG_PREC_EN && !keepAlive s && (t + 2500000) % 25000000 == 0
    let s := sendPorts (fun port => .scan port (BitVec.ofNat 32 t) next) s
    let r := commandWork t s
    let s := if r.2.bytes.isEmpty then r.1 else sendPorts (fun port => .packet port r.2.bytes) r.1
    let s := if keepAlive s then s else askScanReports s
    let s := (List.range errors).foldl (fun s _ => frameError s) s
    let s := dataIn slots (t - 2475000) (t - 2500000) (t / 2500000 + 1) s
    let s := if was = some (t - 2500000) then precEnd 1 (t - 2475000) s else s
    let s := if next then { s with ring := { s.ring with still := some (t + 2500000) } } else s
    let s := reports.foldl takeReport s
    match lastA with
    | some j => ringBreak j s
    | none => if portGone s then ringBreak (boards s) s else s
  else s

/-! ## Opcodes (R183) -/

def doOpenWireTest (c : Ctx) (k : Nat) (s : State) : State :=
  if 36 < k then replyRange c 0x0200 0 s
  else
    let ks := if k = 0 then boardNums s else [k]
    if k ≠ 0 ∧ boards s < k then replyIncons c 0x0200 0 s
    else if ks.any (owBusy s) then replyBusy c 0x0200 100 s
    else
      let s := replyAccepted c 0x0200 s
      if ks.isEmpty then notifyOpt (some c) 0x0200 stOk [] s
      else
        let s := { s with acq := { s.acq with owReqs := s.acq.owReqs ++ [⟨c, ks, []⟩] } }
        ks.foldl (fun s k => owStart k s) s

/-- OPEN_WIRE_TEST (R183). -/
def execOpenWireTest (c : Ctx) (k : BitVec 8) (s : State) : Host.Outcome State Fault Refusal :=
  finish (withCmd c 0x0200 (doOpenWireTest c k.toNat) s)

def anyContactor (s : State) : Bool := anyClosed s || s.flag (konFb 0) || s.flag (konFb 1) || s.flag (konFb 2)

def setLearn (l : Option Learn) (s : State) : State :=
  { s with acq := { s.acq with learn := l } }.setB F.MEAS_STATUS_LEARN_BUSY l.isSome

def doWireLearn (c : Ctx) (s : State) : State :=
  if anyContactor s then replyForbids c 0x0201 s
  else if s.acq.learn.isSome then replyBusy c 0x0201 1000 s
  else
    let s := setLearn (some (.wire c {})) (replyAccepted c 0x0201 s)
    boardCast 0x11 (learnPayload s 0) s

/-- WIRE_LEARN (R159, R183). -/
def execWireLearn (c : Ctx) (s : State) : Host.Outcome State Fault Refusal := finish (withCmd c 0x0201 (doWireLearn c) s)

/-- Wire-resistance learning switches the channels. -/
def learning (s : State) : Bool := match s.acq.learn with | some (.wire ..) => true | _ => false

/-- The two estimates of a wire agree, and their mean is within bound (R160), mΩ. -/
def learnOk (a b : Rat) : Bool := let m := (a + b) / 2; decide (absQ (a - b) ≤ m / 5 + 1 ∧ m ≤ 500)

/-- A learned wire. -/
def learnWire (s : State) (e : Nat × Rat × Rat) : State :=
  let r := (roundQ ((e.2.1 + e.2.2) / 2 * 1000)).toNat
  let s := { s with acq := { s.acq with
    wires := tabSet s.acq.wires e.1 r, highR := s.acq.highR.filter (· != e.1) } }
  (besideWire s e.1).foldl (fun s n => retag n s) (wireRows e.1 s)

/-- The two estimates of a wire that agree (R160). -/
def wireEstimates (w : WireLearn) (n : Nat) : Option (Nat × Rat × Rat) :=
  match (w.est.filter (fun e => e.1 == n)).map (·.2) with
  | [a, b] => if learnOk a b then some (n, a, b) else none
  | _ => none

/-- WIRE_HIGH_R clears on the end wires, which no estimate reaches, when no wire has failed (R168; DESIGN CHOICE, log entry
149). -/
def endWires (s : State) : State :=
  let ends := [0, posCount s]
  let s := { s with acq := { s.acq with highR := s.acq.highR.filter (fun w => !ends.contains w) } }
  ends.foldl (fun s w => (besideWire s w).foldl (fun s n => retag n s) s) s

/-- WIRE_LEARN_DONE (R160): each interior wire with two estimates that agree is learned, every other has failed. -/
def execWireLearnDone (s : State) : Host.Outcome State Fault Refusal :=
  finish (match s.acq.learn with
    | some (.wire c w) =>
      match w.start with
      | some t0 =>
        let w := learnFlush s w
        let s := s.at (t0 + 16 * learnLen s * framePeriod s)
        let inner := (List.range (posCount s)).drop 1
        let bad := inner.filter (fun n => (wireEstimates w n).isNone)
        let s := (inner.filterMap (wireEstimates w)).foldl learnWire (setLearn none s)
        notifyOpt (some c) 0x0201 stOk (bad.map u16).flatten (if bad.isEmpty then endWires s else s)
      | none => s
    | _ => s)

/-- Address of the cell-table word that holds a wire's resistance (R172, R183). -/
def wireAddr (s : State) (w : Nat) : Nat :=
  if w < posCount s then 0x100000 + 0x40 * w + 0x20 else 0x100000 + 0x40 * (w - 1) + 0x24

def doWireResSet (c : Ctx) (w : Nat) (r : Int) (s : State) : State :=
  if posCount s < w then replyRange c 0x0202 0 s
  else if r < 0 ∨ 500000 < r then replyRange c 0x0202 2 s
  else
    let old := (s.acq.wires.lookup w).getD 0x7FFFFFFF
    let s := wireRows w { s with acq := { s.acq with wires := tabSet s.acq.wires w r.toNat } }
    let s := addRec sevInfo 0x01 0x0010 (u32 (wireAddr s w) ++ u32 r.toNat ++ u32 old ++ originBytes (Ctx.origin c)) s
    replyOk c 0x0202 [] s

/-- WIRE_RES_SET (R183). -/
def execWireResSet (c : Ctx) (wire : BitVec 16) (res : BitVec 32) (s : State) : Host.Outcome State Fault Refusal :=
  finish (withCmd c 0x0202 (doWireResSet c wire.toNat res.toInt) s)

def doIcLearn (c : Ctx) (s : State) : State :=
  if s.acq.learn.isSome then replyBusy c 0x0203 1000 s
  else setLearn (some (.ic c s.time 0 0 0 0 0 0 0)) (replyAccepted c 0x0203 s)

/-- IC_LEARN (R161, R183). -/
def execIcLearn (c : Ctx) (s : State) : Host.Outcome State Fault Refusal := finish (withCmd c 0x0203 (doIcLearn c) s)

/-- IC_LEARN_DONE (R161): after 60 s the least-squares slope is R_ic, or the current span was below 0.2C. A command
without parameters has no offset to name, so RANGE carries a free value (DEDUCED, log entry 26). -/
def execIcLearnDone (s : State) : Host.Outcome State Fault Refusal :=
  finish (match s.acq.learn with
    | some (.ic c t n si sr sii sir lo hi) =>
      let s := setLearn none (s.at (t + 60 * sec))
      let num : Rat := (n : Nat)
      let den := num * sii - si * si
      if hi - lo < cMin s / 5 ∨ den = 0 then
        let f := s.fresh
        notifyOpt (some c) 0x0203 stRange (u16 f.1) f.2
      else
        let ric := roundQ ((num * sir - si * sr) / den * 1000)
        let s := (s.setI F.MEAS_RIC_VALUE ric).setB F.MEAS_STATUS_RIC_VALID true
        notifyOpt (some c) 0x0203 stOk (s32 ric) s
    | _ => s)

/-! ## Pods (R171, R316) -/

/-- POD_FAULT (R171, R315). -/
def execPodFault (pod : BitVec 2) (stuck : Bool) (s : State) : Host.Outcome State Fault Refusal :=
  finish (podFail pod.toNat stuck s)

/-- POD_RECOVER (R316). -/
def execPodRecover (pod : BitVec 2) (s : State) : Host.Outcome State Fault Refusal := finish (podBack pod.toNat s)

end Sys2Proof.Machine
end

