-- ==== Sys2Proof/Machine/Est.lean ====
section
/-!
DEFINITION. State estimation (chapter 7): the filter, insertion, reference points, capacity learning, the refit, the
published rows with the string summary and the capabilities, and persistence.
-/

namespace Sys2Proof.Machine

/-! ## Running -/

/-- A pack is selected and the rated capacity is not 0 (R259). -/
def packOk (s : State) : Bool := packOf s != 0 && s.get F.EST_RATED_CAP_RATED != 0

/-- The filters run in the awake states with a pack (DEDUCED, log entry 43), while the DSP clock runs (R29). -/
def estRuns (s : State) : Bool := packOk s && s.awake && !dspLost s

def estStatus (s : State) : State :=
  ((s.setB F.EST_STATUS_PACK_OK (packOk s)).setB F.EST_STATUS_STALE s.direct).setB F.EST_STATUS_RUN (estRuns s)

/-- Estimation policy acts: not in direct mode (R26). -/
def estActs (s : State) : Bool := !s.direct

/-! ## Configured numbers -/

def ratedAh (s : State) : Rat := ((s.get F.EST_RATED_CAP_RATED : Nat) : Rat) / 1000
def slopeMin (s : State) : Rat := ((s.get F.EST_LEARN_SLOPE_MIN : Nat) : Rat) / 10
def qMin (s : State) : Rat := ((s.get F.EST_CFG_Q_MIN : Nat) : Rat) / 250
def socLow (s : State) : Rat := ((s.get F.EST_WINDOW_SOC_LOW : Nat) : Rat) / 100
def socHigh (s : State) : Rat := ((s.get F.EST_WINDOW_SOC_HIGH : Nat) : Rat) / 100

/-- SOC_UNC in %. -/
def uncOf (e : EstPos) : Rat := sqrtQ (getAt e.cov 0 0)

def tempOf (s : State) (n : Nat) : Int := (getCell s n).temp

/-- Is the string's pack an LFP pack with hysteresis (R218)? -/
def lfp (s : State) : Bool := packOf s == 1

/-! ## The filter (R224 to R228) -/

/-- Charge balanced out of the cell during the tick, Ah: the mean current of the SCAN window over 10 ms. -/
def qBalance (s : State) (n : Nat) : Rat :=
  let a := tabGet s.acq.win (1024 * (s.time / 2500000) + n) {}
  if a.n = 0 then 0 else a.ib / ((a.n : Nat) : Rat) / 360000

/-- Sign of a current, with the sign of 0 given (R219). -/
def sgnOr (x z : Rat) : Rat := if 0 < x then 1 else if x < 0 then -1 else z

/-- σ_ref² + σ_cc² in %² (R227): the SOC variance while no voltage correction reaches SOC. -/
def uncTarget (s : State) (e : EstPos) (soc gross : Rat) (age : Nat) : Rat :=
  let gain : Rat := if s.flag F.CTL_FB_PRIMARY_LOST then 1 / 100 else 1 / 1000
  let hours : Rat := ((age : Nat) : Rat) / 360000
  let sigI : Rat := ((s.get F.EST_NOISE_SIGMA_I : Nat) : Rat) / 1000
  let cc := 100 * (sigI * hours + gain * gross) / e.capQ + e.capSig / 100 * absQ (soc - e.refSoc)
  e.refSig * e.refSig + cc * cc

/-- Prediction of one tick of 10 ms from the cell charge `q` in Ah (R217, R219, R224, R227). The SOC
variance moves as R227 has it move, not below 0 (DESIGN CHOICE, log entry 156). -/
def estPredict (s : State) (n : Nat) (q : Rat) (e : EstPos) : EstPos :=
  let t := tempOf s n
  let m := modelOf s e
  let i := q * 360000
  let c := e.capQ
  let dt : Rat := 1 / 100
  let af := decay m.tauFast dt
  let sf := decay m.tauSlow dt
  let soc := clampQ 0 100 (e.soc + 100 * q / c)
  let h := if lfp s then e.h + 25 * absQ q / c * (sgnOr i e.h - e.h) else 0
  let gross := e.qGross + absQ q
  let target := uncTarget s e soc gross (e.refAge + 1)
  let p (k : Nat) : Rat := getAt e.cov k 0
  { e with
    soc := soc
    h := h
    i := i
    vFast := af * e.vFast + (1 - af) * (i * rFastAt s e t)
    vSlow := sf * e.vSlow + (1 - sf) * (i * rSlowAt s e t)
    ladder := ladderStep e.ladder i (wAt s e t) dt
    cov := [maxQ 0 (p 0 + (target - e.grown)), p 1 * af, p 2 * sf, p 3 * af * af + Config.voltageNoise 0, p 4 * af * sf,
      p 5 * sf * sf + Config.voltageNoise 1]
    grown := target
    qGross := gross
    qSince := e.qSince + q
    qCum := e.qCum + q
    refAge := e.refAge + 1
    fitAge := e.fitAge + 1
    anchor := if s.flag F.CTL_FB_PRIMARY_LOST then none else
      e.anchor.map (fun a => { a with age := a.age + 1, q := a.q + q, gross := a.gross + absQ q }) }

/-- Overpotential i·Rs + V_fast + V_slow + V_w, mV. -/
def overpotential (s : State) (n : Nat) (e : EstPos) : Rat :=
  e.i * rsAt s e (tempOf s n) + e.vFast + e.vSlow + ladderSum e.ladder

/-- The measurement update with V_SCAN (R225, R226), on the covariance with any gain. -/
def estMeasure (s : State) (n : Nat) (e : EstPos) : EstPos :=
  let cell := getCell s n
  let t := degC cell.temp
  let v : Rat := (cell.vScan : Rat) / 100
  let sv : Rat := ((s.get F.EST_NOISE_SIGMA_V : Nat) : Rat) / 100 +
    (if cell.tagScan = 1 then absQ ((cell.balCorr : Rat) / 100) / 10 else 0)
  let sl := ocvSlope (packOf s) t e.h e.soc
  let o := ocv (packOf s) t e.h e.soc
  let y := v - (o + overpotential s n e)
  let p (k : Nat) : Rat := getAt e.cov k 0
  let h0 := sl * p 0 + p 1 + p 2
  let h1 := sl * p 1 + p 3 + p 4
  let h2 := sl * p 2 + p 4 + p 5
  let var := sl * h0 + h1 + h2 + sv * sv
  let plateau := decide (sl < slopeMin s)
  let k0 := if plateau then 0 else h0 / var
  let k1 := h1 / var
  let k2 := h2 / var
  let e := { e with res := y, noInput := false }
  if 25 * var < y * y then e
  else
    { e with
      soc := clampQ 0 100 (e.soc + k0 * y)
      vFast := e.vFast + k1 * y
      vSlow := e.vSlow + k2 * y
      cov := [p 0 - 2 * k0 * h0 + k0 * k0 * var, p 1 - k0 * h1 - k1 * h0 + k0 * k1 * var,
        p 2 - k0 * h2 - k2 * h0 + k0 * k2 * var, p 3 - 2 * k1 * h1 + k1 * k1 * var,
        p 4 - k1 * h2 - k2 * h1 + k1 * k2 * var, p 5 - 2 * k2 * h2 + k2 * k2 * var] }

/-- OCV and PLATEAU of a position's present SOC, TEMP and h (R219, R226). -/
def estView (s : State) (n : Nat) : State :=
  let e := getEst s n
  let t := degC (tempOf s n)
  setEst n { e with
    ocv := ocv (packOf s) t e.h e.soc, plateau := decide (ocvSlope (packOf s) t e.h e.soc < slopeMin s) } s

/-- SOC_rep after a change by `d` %: held to 0.0001 %, a smaller remainder waiting (R238), within 0 to 100 %. -/
def repAdd (d : Rat) (e : EstPos) : EstPos :=
  let x := e.socRep + e.repRest + d
  let r := ((x * 10000).floor : Rat) / 10000
  if x ≤ 0 then { e with socRep := 0, repRest := 0 }
  else if 100 ≤ x then { e with socRep := 100, repRest := 0 }
  else { e with socRep := r, repRest := x - r }

/-- SOC_rep follows the charge count toward SOC_int (R238); `d` is ΔSOC_cc in %. -/
def repStep (s : State) (d : Rat) (e : EstPos) : EstPos :=
  let x := e.socRep - e.soc
  let span : Rat := ((s.get F.EST_UNC_CONV_SPAN : Nat) : Rat) / 100
  let thr := ((s.get F.EST_CFG_I_THRESH : Nat) : Rat) / 1000 * cRate s e
  if e.i < -thr then repAdd (clampQ (1 / 2) 2 (1 + x / span) * d) e
  else if thr < e.i then repAdd (clampQ (1 / 2) 2 (1 - x / span) * d) e
  else repAdd (-(clampQ (-(1 / 6000)) (1 / 6000) (x + e.repRest))) e

/-- The valid voltage history of the last 10 min and the rest timer (R231, R248). -/
def restStep (s : State) (n : Nat) (e : EstPos) : EstPos :=
  let c := getCell s n
  let valid := c.tagScan == 0 || c.tagScan == 1
  let rest := decide (absQ e.i < cRate s e / 100)
  let prec := s.flag F.MEAS_CFG_PREC_EN
  let new := if prec then
      (if c.tagPrec == 2 && !(e.vHist.any (fun x => x.1 == c.tPrec)) then [(c.tPrec, c.vPrec)] else [])
    else (if valid then [(s.time, c.vScan)] else [])
  { e with
    resting := rest
    rest := if rest && valid then e.rest + 1 else 0
    vHist := (new ++ e.vHist).filter (fun x => decide (s.time ≤ x.1 + 600 * sec)) }

/-- UNCERT_HIGH (R228). -/
def uncFlag (s : State) (e : EstPos) : EstPos × Bool :=
  let lim := ((s.get F.EST_UNC_UNC_MAX : Nat) : Rat) / 100
  let u := uncOf e
  if !e.uncHigh && decide (lim < u) then ({ e with uncHigh := true }, true)
  else if e.uncHigh && decide (u < 4 / 5 * lim) then ({ e with uncHigh := false }, false)
  else (e, false)

/-- ΔQ_n of the tick, Ah (R224). -/
def cellCharge (s : State) (n : Nat) : Rat := s.acq.qScan - qBalance s n

/-- Every position counts its cell charge into Q_GRADE while the recipe's grading span runs (R353), 0.001 Ah. -/
def gradeTick (s : State) : State :=
  if s.disp.run.any (fun r => r.grading) then
    let q := (positions s).map (fun n => (n, tabGet s.disp.qGrade n 0 + 1000 * cellCharge s n))
    { s with disp := { s.disp with qGrade := q } }
  else s

/-- One filter step of a position (R224); a position without a capacity yet is not inserted and has none. -/
def estStep (s : State) (n : Nat) : State :=
  let e := getEst s n
  if e.capQ ≤ 0 then s
  else
    let q := cellCharge s n
    let d := 100 * q / e.capQ
    let e := estPredict s n q e
    let tag := (getCell s n).tagScan
    let e := if tag = 0 ∨ tag = 1 then estMeasure s n e else { e with noInput := true }
    let e := restStep s n (repStep s d e)
    let u := uncFlag s e
    let s := if u.2 then raise C.SOC_UNCERT_HIGH s else s
    setEst n u.1 s

/-! ## Insertion (R229, R230) -/

/-- The day of network time, where that is valid: the date of a capacity update (R236, R242). -/
def today (s : State) : Option Nat := if timeValid s then some (sysSeconds s / 86400) else none

/-- Days since the last capacity update: by date where both days are known, else by operating seconds (DESIGN CHOICE, log
entry 155). -/
def capDays (s : State) (e : EstPos) : Rat :=
  match today s, e.capDay with
  | some d, some d0 => ((d - d0 : Nat) : Rat)
  | _, _ => ((s.sys.opSec - e.capAt : Nat) : Rat) / 86400

/-- The values of R230. -/
def insertPos (s : State) (n : Nat) : State :=
  let c := getCell s n
  let old := getEst s n
  let t := degC c.temp
  let v : Rat := ((if (c.tagPrec = 2 ∨ c.tagPrec = 3) ∧ s.time < c.tPrec + sec then c.vPrec else c.vScan : Int) : Rat) / 100
  let soc := ocvInv (packOf s) t 0 v
  let sl := ocvSlope (packOf s) t 0 soc
  let i := (s.acq.qScan - qBalance s n) * 360000
  let sig : Rat := if absQ i < ratedAh s / 100 then 5 else 20
  let unc := if sl ≤ 0 then 50 else minQ 50 (maxQ 1 (sig / sl))
  let e : EstPos := {
    soc := soc, socRep := soc, capQ := ratedAh s, capSig := 5, inserted := true, refKind := 1, refSoc := soc,
    refSig := unc, grown := unc * unc, seq := old.seq, capAt := s.sys.opSec, capDay := today s, i := i,
    cov := [unc * unc, 0, 0, Config.voltageStart 0, 0, Config.voltageStart 1] }
  setEst n e s

/-- Does COMMISSION find the position changed (R229)? -/
def commFinds (s : State) (n : Nat) : Bool :=
  let e := getEst s n
  let c := getCell s n
  decide (0 < e.capQ ∧ absQ e.i < cRate s e / 100 ∧
    100 < absQ ((c.vScan : Rat) / 100 - ocv (packOf s) (degC c.temp) e.h e.soc))

/-- Positions to insert at this tick. -/
def insertDue (s : State) : List Nat :=
  let byValid := s.est.insertValid.filter (scanValid s)
  let byComm := if s.est.commCheck then (positions s).filter (commFinds s) else []
  (positions s).filter (fun n => s.est.insertNow.contains n || byValid.contains n || byComm.contains n)

def insertTick (l : List Nat) (s : State) : State :=
  let s := { s with est := { s.est with
    insertNow := [], commCheck := false, insertValid := s.est.insertValid.filter (fun n => !l.contains n) } }
  if l.isEmpty then s
  else
    let s := raise C.INSERTION (l.foldl insertPos s)
    { s with est := { s.est with persistReq := true } }

/-! ## Capacity learning (R235 to R237) -/

/-- The outcome for an anchor and a point: none (too small a step), a rejected candidate, or the blended capacity. -/
inductive CapOutcome where
  | small
  | reject (cap sig : Rat)
  | accept (cap sig : Rat)
  deriving DecidableEq, Repr

def capEvaluate (s : State) (e : EstPos) (a : Anchor) (socB sigB : Rat) : CapOutcome :=
  let ds := socB - a.soc
  let min : Rat := ((s.get F.EST_LEARN_DSOC_MIN : Nat) : Rat) / 100
  if !s.flag F.EST_CFG_CAP_LEARN_EN || decide (absQ ds < min) then .small
  else
    let new := 100 * a.q / ds
    let sigI : Rat := ((s.get F.EST_NOISE_SIGMA_I : Nat) : Rat) / 1000
    let hours : Rat := ((a.age : Nat) : Rat) / 360000
    let relQ := (sigI * hours + a.gross / 1000) / absQ a.q
    let relS := sqrtQ (a.sig * a.sig + sigB * sigB) / absQ ds
    let rel := sqrtQ (relQ * relQ + relS * relS)
    let sNew := rel * absQ new
    let days := capDays s e
    let sOld := e.capQ * (e.capSig + days / 50) / 100
    let max : Rat := ((s.get F.EST_LEARN_CAP_SIG_MAX : Nat) : Rat) / 1000
    if a.q = 0 then .reject new ((Config.unstated 2 0 : Nat) : Rat)
    else if max < rel ∨ (3 ≤ e.capN ∧ 3 * sqrtQ (sOld * sOld + sNew * sNew) < absQ (new - e.capQ)) then
      .reject new sNew
    else
      let wo := 1 / (sOld * sOld)
      let wn := 1 / (sNew * sNew)
      .accept ((wo * e.capQ + wn * new) / (wo + wn)) (1 / sqrtQ (wo + wn))

/-- Step 1 of R234, and the anchor of step 4. -/
def learnCap (n kind : Nat) (socB sigB : Rat) (e : EstPos) (s : State) : EstPos × State :=
  let fresh : Anchor := ⟨socB, sigB, kind, 0, 0, 0⟩
  match e.anchor with
  | none => ({ e with anchor := some fresh }, s)
  | some a =>
    match capEvaluate s e a socB sigB with
    | .small => (if 120960000 < a.age then { e with anchor := some fresh } else e, s)
    | .reject c g =>
      (if 120960000 < a.age then { e with anchor := some fresh } else e,
        addRec sevNotice 0x06 0x0011 (u16 n ++ u32 (roundQ (c * 1000)).toNat ++ u32 (roundQ (g * 1000)).toNat) s)
    | .accept c g =>
      ({ e with
          anchor := some fresh, capQ := c, capSig := 100 * g / c, capN := min 255 (e.capN + 1), learned := true,
          capKnown := true, capAt := s.sys.opSec, capDay := today s },
        causeRec C.CAPACITY_LEARNED sevNotice [] s)

/-! ## Reference points (R231 to R234) -/

/-- The slope and hysteresis conditions of R233. -/
def refAdmits (s : State) (n : Nat) (e : EstPos) (soc : Rat) : Bool :=
  decide (slopeMin s ≤ ocvSlope (packOf s) (degC (tempOf s n)) e.h soc) && (!lfp s || decide (9 / 10 ≤ absQ e.h))

/-- Acceptance of a rest point (R234); `sigV` in mV. A real point restarts the rest timer, a virtual one its window (R231,
R232). -/
def acceptRef (n kind : Nat) (soc sigV : Rat) (s : State) : State :=
  let e := getEst s n
  let sig := sigV / ocvSlope (packOf s) (degC (tempOf s n)) e.h soc
  let p := learnCap n kind soc sig e s
  let c (k : Nat) : Rat := getAt e.cov k 0
  let e := { p.1 with
    soc := soc, cov := [sig * sig, 0, 0, c 3, c 4, c 5], refKind := kind, refSoc := soc, refSig := sig, refAge := 0,
    qSince := 0, qGross := 0, grown := sig * sig, inserted := false, rest := if kind = 2 then 0 else p.1.rest,
    virt := if kind = 3 then none else p.1.virt }
  let s := setEst n e p.2
  let s := raise (if kind = 2 then C.REST_POINT else C.VIRTUAL_REST) s
  { s with est := { s.est with persistReq := true } }

/-- The least-squares slope of the voltage history in mV per min; none from fewer than two instants. -/
def restSlope (e : EstPos) (now : Nat) : Option Rat :=
  let l := e.vHist.map (fun x => (((now - x.1 : Nat) : Rat) / -15000000000, (x.2 : Rat) / 100))
  let n : Rat := (l.length : Nat)
  let sx := l.foldl (fun a x => a + x.1) 0
  let sy := l.foldl (fun a x => a + x.2) 0
  let sxx := l.foldl (fun a x => a + x.1 * x.1) 0
  let sxy := l.foldl (fun a x => a + x.1 * x.2) 0
  let d := n * sxx - sx * sx
  if d = 0 then none else some ((n * sxy - sx * sy) / d)

/-- A real rest point of a position, if it is due (R231, R233): its SOC_ref. -/
def realRest (s : State) (n : Nat) : Option Rat :=
  let e := getEst s n
  let c := getCell s n
  let v := if s.flag F.MEAS_CFG_PREC_EN then c.vPrec else c.vScan
  let soc := ocvInv (packOf s) (degC c.temp) e.h ((v : Rat) / 100)
  let max : Rat := ((s.get F.EST_REST_DVDT_MAX : Nat) : Rat) / 1000
  let flat := match restSlope e s.time with | some x => decide (absQ x < max) | none => false
  if s.flag F.EST_CFG_REST_EN && decide (0 < e.capQ) && decide (s.get F.EST_REST_REST_MIN * 6000 ≤ e.rest) && flat &&
      refAdmits s n e soc then some soc
  else none

/-- The conditions of R232 but the steadiness of i. -/
def virtHolds (s : State) (n : Nat) (e : EstPos) : Bool :=
  let c := getCell s n
  match e.fit with
  | none => false
  | some m =>
    !e.rejected && decide (qMin s ≤ e.qLast) && decide (e.fitAge ≤ 360000) && decide ((m.tFit - c.temp).natAbs ≤ 50) &&
      decide (absQ e.i ≤ ((s.get F.EST_VIRT_I_MAX : Nat) : Rat) / 100 * cRate s e) &&
      decide (absQ e.res ≤ ((s.get F.EST_VIRT_RESID_MAX : Nat) : Rat) / 10) &&
      (c.tagScan == 0 || c.tagScan == 1)

/-- The ticks of HOLD_S (R232). -/
def holdTicks (s : State) : Nat := s.get F.EST_VIRT_HOLD_S * 100

/-- The window with this tick, no longer than HOLD_S; a tick that breaks a condition restarts it (R232). -/
def virtWindow (s : State) (n : Nat) (e : EstPos) : Option VirtWin :=
  if virtHolds s n e then
    let c := getCell s n
    let soc := ocvInv (packOf s) (degC c.temp) e.h ((c.vScan : Rat) / 100 - overpotential s n e)
    let w := e.virt.getD ⟨[], []⟩
    some ⟨(e.i :: w.cur).take (holdTicks s), ((soc, e.qCum) :: w.last).take 100⟩
  else none

/-- Is a window of HOLD_S complete, every 10 ms mean of i in its band about the mean of the window (R232 condition 5)? -/
def virtSteady (s : State) (e : EstPos) (w : VirtWin) : Bool :=
  let mean := w.cur.sum / ((w.cur.length : Nat) : Rat)
  let band := maxQ (absQ mean / 20) (cRate s e / 50)
  decide (holdTicks s ≤ w.cur.length) && w.cur.all (fun i => decide (absQ (i - mean) ≤ band))

/-- A virtual rest point of a position whose window is complete (R232): SOC_ref and σ_V. -/
def virtualRest (s : State) (n : Nat) : Option (Rat × Rat) :=
  let e := getEst s n
  match e.virt, e.fit with
  | some w, some m =>
    let k : Rat := (w.last.length : Nat)
    let soc := w.last.foldl (fun a x => a + (x.1 + 100 * (e.qCum - x.2) / e.capQ)) 0 / k
    let sigV := 1 + absQ e.i * rsAt s e (tempOf s n) * (1 - m.q)
    if s.flag F.EST_CFG_VIRT_EN && virtSteady s e w && refAdmits s n e soc then
      some (soc, sigV)
    else none
  | _, _ => none

/-- A position's rest points at a tick: whether one was accepted. -/
def restTick (n : Nat) (s : State) : State × Bool :=
  match realRest s n with
  | some soc => (acceptRef n 2 soc 1 s, true)
  | none =>
    match virtualRest s n with
    | some (soc, sigV) => (acceptRef n 3 soc sigV s, true)
    | none => (s, false)

/-- Windows and acceptances of a tick, with the one record (R234). -/
def refTick (inserted : List Nat) (s : State) : State :=
  let s := (positions s).foldl (fun s n =>
    let e := getEst s n
    setEst n { e with virt := virtWindow s n e } s) s
  let p := ((positions s).filter (fun n => !inserted.contains n)).foldl
    (fun (p : State × List Nat) n =>
      let r := restTick n p.1
      (r.1, if r.2 then p.2 ++ [n] else p.2)) (s, [])
  match p.2 with
  | [] => p.1
  | n :: t => addRec sevInfo 0x06 0x0010 (u16 (t.length + 1) ++ u16 n) p.1

/-- REST_POINT (R231) and VIRTUAL_REST (R232): the acceptance of one position, as the tick that finds it does it. -/
def execRestPoint (pos : Nat) (s : State) : Host.Outcome State Fault Refusal :=
  finish (if estRuns s && estActs s && decide (pos < posCount s) then
    match realRest s pos with
    | some soc => addRec sevInfo 0x06 0x0010 (u16 1 ++ u16 pos) (acceptRef pos 2 soc 1 s)
    | none => s
  else s)

def execVirtualRest (pos : Nat) (s : State) : Host.Outcome State Fault Refusal :=
  finish (if estRuns s && estActs s && decide (pos < posCount s) then
    match virtualRest s pos with
    | some (soc, sigV) => addRec sevInfo 0x06 0x0010 (u16 1 ++ u16 pos) (acceptRef pos 3 soc sigV s)
    | none => s
  else s)

/-! ## Refit (R217, R221 to R223) -/

/-- The tones of a row that a fit uses: those with no flag, by number (R200, R221). -/
def fitTones (r : ZRow) : List (Nat × Tone) := ((List.range 24).zip r.tones).filter (fun x => x.2.flags == 0)

/-- |Ẑ_t - Z_m(f_t)|². -/
def fitError (m : Model) (x : Nat × Tone) : Rat :=
  let z := modelZ m (((getAt toneBin x.1 0 : Nat) : Rat) / 10)
  let re := x.2.z.re - z.re
  let im := x.2.z.im - z.im
  re * re + im * im

/-- The sum that a fit minimises (R221). -/
def fitCost (l : List (Nat × Tone)) (m : Model) : Rat := (l.map (fun x => fitError m x / x.2.u2)).sum

/-- The fit quality (R221). -/
def fitQuality (l : List (Nat × Tone)) (m : Model) : Rat :=
  maxQ 0 (1 - sqrtQ ((l.map (fitError m)).sum / (l.map (fun x => Phasor.norm2 x.2.z)).sum))

/-- The fit of a position: it starts from the present parameters, and where it ends the sum is no greater (R221; the end
of the minimisation is a free value: DESIGN CHOICE, log entry 153). -/
def fitOf (start : Model) (seq : Nat) (r : ZRow) : Model :=
  let l := fitTones r
  let arg := l.map (fun x => (x.1, x.2.z.re, x.2.z.im, x.2.u2))
  let old := [start.rs, start.rFast, start.rSlow, start.w, start.tauFast, start.tauSlow]
  let p (k : Nat) : Rat := Config.fitParam k arg old
  let m : Model := { start with
    rs := p 0, rFast := p 1, rSlow := p 2, w := p 3, tauFast := p 4, tauSlow := p 5, tFit := r.temp, socFit := r.soc,
    seq := seq, n := r.validTones }
  let m := if fitCost l m ≤ fitCost l start then m else { start with tFit := r.temp, socFit := r.soc, seq := seq, n := r.validTones }
  { m with q := fitQuality l m }

/-- May a fit be adopted (R222)? -/
def fitOk (s : State) (x : Model) (r : ZRow) : Bool :=
  decide (qMin s ≤ x.q ∧ 12 ≤ r.validTones ∧ r.flags / 4 % 2 = 0 ∧ 0 < x.rs ∧ 0 ≤ x.rFast ∧ 0 ≤ x.rSlow ∧ 0 ≤ x.w ∧
    1 / 10000 ≤ x.tauFast ∧ x.tauFast ≤ 1 / 2 ∧ 1 / 10 ≤ x.tauSlow ∧ x.tauSlow ≤ 100 ∧ 5 * x.tauFast ≤ x.tauSlow)

/-- One position's fit, for each with at least one unflagged tone (R208). -/
def takeFit (seq : Nat) (s : State) (x : Nat × ZRow) : State :=
  let r := x.2
  if r.validTones = 0 ∨ posCount s ≤ x.1 then s
  else
    let e := getEst s x.1
    let m := fitOf { modelOf s e with rs := rsAtFit s e } seq r
    let s := if m.q < qMin s then raise C.FIT_POOR s else s
    if fitOk s m r && estActs s then setEst x.1 { e with qLast := m.q, rejected := false, fitNext := some m } s
    else setEst x.1 { e with qLast := m.q, rejected := true } s

/-- FIT_DONE (R208, R221): all lanes have finished the refit of the latest publication. -/
def execFitDone (s : State) : Host.Outcome State Fault Refusal :=
  finish (match s.eis.result with
    | some (seq, r) =>
      if s.eis.refit then
        raise C.FIT_DONE (r.rows.foldl (takeFit seq) { s with eis := { s.eis with refit := false } })
      else s
    | none => s)

/-- An adopted fit comes into force (R222, R223), after any acceptance of its tick (R249): it sets Rs outright, the first since
insertion fixes Rs_BOL, and a window of R232 restarts. -/
def fitTake (s : State) (n : Nat) : State :=
  let e := getEst s n
  match e.fitNext with
  | some m =>
    let bol := m.rs * tempFactor (packOf s) 0 m.tFit 250
    let s := { s with est := { s.est with persistReq := true } }
    setEst n { e with
      fit := some m, fitNext := none, fitAge := 0, virt := none, rsTrack := some m.rs, rsBol := some (e.rsBol.getD bol) } s
  | none => s

/-! ## String results (R239 to R241) -/

/-- Positions with values to report. -/
def estPositions (s : State) : List Nat := (positions s).filter (fun n => decide (0 < (getEst s n).capQ))

/-- The position with the least value of a measure, the lower on ties. -/
def leastPos (l : List (Nat × Rat)) : Option (Nat × Rat) :=
  match l with
  | [] => none
  | x :: t => some (t.foldl (fun m y => if y.2 < m.2 then y else m) x)

def disMargin (s : State) (n : Nat) : Rat := let e := getEst s n; (e.socRep - socLow s) * e.capQ / 100
def chgMargin (s : State) (n : Nat) : Rat := let e := getEst s n; (socHigh s - e.socRep) * e.capQ / 100

/-- Open-circuit energy of a position between two SOC, mWh (R239). -/
def energyBetween (s : State) (n : Nat) (a b : Rat) : Rat :=
  let e := getEst s n
  let t := degC (tempOf s n)
  (ocvArea (packOf s) t e.h (clampQ 0 100 b) - ocvArea (packOf s) t e.h (clampQ 0 100 a)) * e.capQ / 100

/-- Model voltage of a position at a horizon of `tau` s under a current of `i` A, mV (R240). -/
def predictV (s : State) (n : Nat) (soc0 i tau : Rat) : Rat :=
  let e := getEst s n
  let t := tempOf s n
  let m := modelOf s e
  let soc := clampQ 0 100 (soc0 + i * tau / 36 / e.capQ)
  ocv (packOf s) (degC t) e.h soc + i * rsAt s e t + section1 e.vFast i (rFastAt s e t) m.tauFast tau +
    section1 e.vSlow i (rSlowAt s e t) m.tauSlow tau + ladderSum (ladderStep e.ladder i (wAt s e t) tau)

/-- The SOC a capability starts from (R240). -/
def capSoc (s : State) (n : Nat) (charge : Bool) : Rat :=
  let e := getEst s n
  if e.uncHigh then (if charge then e.soc + 2 * uncOf e else e.soc - 2 * uncOf e) else e.soc

/-- Does a position carry the current within its limits at the horizon? -/
def carries (s : State) (n : Nat) (charge : Bool) (tau i : Rat) : Bool :=
  let e := getEst s n
  let x := if charge then i else -i
  let soc0 := capSoc s n charge
  let soc := soc0 + x * tau / 36 / e.capQ
  let v := predictV s n soc0 x tau
  let sov := s.get F.MEAS_SOFT_SOFT_OV
  let suv := s.get F.MEAS_SOFT_SOFT_UV
  if charge then
    let vm := s.get F.EST_VLIM_V_MAX
    decide (v ≤ (((if sov = 0 then vm else min vm sov) : Nat) : Rat) ∧ soc ≤ socHigh s)
  else decide (((max (s.get F.EST_VLIM_V_MIN) suv : Nat) : Rat) ≤ v ∧ socLow s ≤ soc)

/-- The largest current that passes, by `k` halvings (R240: to 0.1 %). -/
def searchI (ok : Rat → Bool) : Nat → Rat → Rat → Rat
  | 0, lo, _ => lo
  | k + 1, lo, hi => let m := (lo + hi) / 2; if ok m then searchI ok k m hi else searchI ok k lo m

def posCurrent (s : State) (charge : Bool) (tau : Rat) (n : Nat) : Rat :=
  let top := ((s.get (if charge then F.EST_CRATE_C_CHG else F.EST_CRATE_C_DIS) : Nat) : Rat) / 100 * cRate s (getEst s n)
  let ok := carries s n charge tau
  if ok top then top else if ok 0 then searchI ok 11 0 top else 0

/-- The string's power capability in W: the least current of the positions times the predicted string voltage. -/
def capability (s : State) (charge : Bool) (tau : Rat) : Nat :=
  match leastPos ((estPositions s).map (fun n => (n, posCurrent s charge tau n))) with
  | none => 0
  | some (_, i) =>
    let x := if charge then i else -i
    let v := (estPositions s).foldl (fun a n => a + predictV s n (capSoc s n charge) x tau) 0
    (roundQ (i * v / 1000)).toNat

/-- The 64 bytes of the string summary (R253). -/
def sumBytes (s : State) : List Byte :=
  let dis := leastPos ((estPositions s).map (fun n => (n, disMargin s n)))
  let chg := leastPos ((estPositions s).map (fun n => (n, chgMargin s n)))
  let unc := leastPos ((estPositions s).map (fun n => (n, -(uncOf (getEst s n)))))
  let cap := leastPos ((estPositions s).map (fun n => (n, (getEst s n).capQ)))
  let soc (x : Option (Nat × Rat)) : Nat := match x with | some (n, _) => (roundQ ((getEst s n).socRep * 100)).toNat | none => 0
  let at_ (x : Option (Nat × Rat)) : Nat := match x with | some (n, _) => n | none => 0
  let val (x : Option (Nat × Rat)) : Rat := match x with | some (_, v) => v | none => 0
  let move (n : Nat) (q : Rat) : Rat := (getEst s n).socRep + 100 * q / (getEst s n).capQ
  let eDis := (estPositions s).foldl (fun a n => a + energyBetween s n (move n (-(val dis))) (getEst s n).socRep) 0
  let eChg := (estPositions s).foldl (fun a n => a + energyBetween s n (getEst s n).socRep (move n (val chg))) 0
  u16 (soc chg) ++ u16 (at_ chg) ++ u16 (soc dis) ++ u16 (at_ dis) ++ u64 (unsigned 64 (roundQ eChg)) ++
    u64 (unsigned 64 (roundQ eDis)) ++ u32 (capability s true 10) ++ u32 (capability s false 10) ++ u32 (capability s true 60) ++
    u32 (capability s false 60) ++ u16 (roundQ (-(val unc) * 100)).toNat ++ u16 (at_ unc) ++
    u32 (roundQ (val cap * 1000)).toNat ++ u64 s.time ++ u32 0 ++ u32 s.est.sumSeq

/-- FLAGS of a state row (R252). -/
def estFlags (s : State) (e : EstPos) : Nat :=
  bitsOf [s.direct, e.inserted, e.uncHigh, e.plateau, e.learned, e.noInput, e.resting, e.limChg, e.limDis]

/-- The 64 bytes of a state row (R251). -/
def stateRow (s : State) (n : Nat) : List Byte :=
  let e := getEst s n
  let t := tempOf s n
  let cent (x : Rat) : Nat := (roundQ (x * 100)).toNat
  let sohC := if ratedAh s = 0 then Config.unstated 0 n else cent (e.capQ / ratedAh s * 100)
  let sohR := match e.rsBol with
    | some b => cent (rsAtFit s e * tempFactor (packOf s) 0 (modelOf s e).tFit 250 / b * 100)
    | none => Config.unstated 1 n
  u16 (cent e.soc) ++ u16 (cent e.socRep) ++ u16 (cent (uncOf e)) ++ u16 (estFlags s e) ++ u32 e.cap ++ u16 e.capUnc ++
    u16 sohC ++ s32 (roundQ (e.vFast * 100)) ++ s32 (roundQ (e.vSlow * 100)) ++ s32 (roundQ (e.ocv * 100)) ++
    s32 (roundQ (e.res * 100)) ++ s32 (roundQ (rsAt s e t * 1000)) ++
    s32 (roundQ (energyBetween s n e.socRep (socHigh s))) ++
    s32 (roundQ (energyBetween s n (socLow s) e.socRep)) ++ s32 (roundQ (e.qSince * 1000)) ++
    u32 (e.refAge / 100) ++ u16 (cent e.refSoc) ++ u8 e.refKind ++ u8 (unsigned 8 (roundQ (e.h * 100))) ++ u16 sohR ++
    u8 e.capN ++ u8 0 ++ u32 e.seq

/-- The 32 bytes of a model row (R253). -/
def modelRow (s : State) (n : Nat) : List Byte :=
  let e := getEst s n
  let m := modelOf s e
  let k (x : Rat) : Nat := (roundQ (x * 1000)).toNat
  u32 (k m.rs) ++ u32 (k m.rFast) ++ u32 (k m.rSlow) ++ u32 (k m.w) ++ u16 (roundQ (m.tauFast * 10000)).toNat ++
    u16 (roundQ (m.tauSlow * 10)).toNat ++ u32 m.seq ++ s16 m.tFit ++ u16 m.socFit ++ u8 (roundQ (m.q * 250)).toNat ++
    u8 m.n ++ u8 (roundQ (e.qLast * 250)).toNat ++ u8 (bitsOf [e.fit.isNone, e.rejected])

/-- CAPABILITY_LOW (R241). -/
def lowCheck (s : State) : State :=
  let p := s.get F.EST_PWR_LOW_P_LOW
  let low := decide (p ≠ 0 ∧ (s.est.p10Chg < p ∨ s.est.p10Dis < p))
  let high := decide (11 * p < 10 * s.est.p10Chg ∧ 11 * p < 10 * s.est.p10Dis)
  if low && s.est.lowArmed then raise C.CAPABILITY_LOW { s with est := { s.est with lowArmed := false } }
  else if high then { s with est := { s.est with lowArmed := true } }
  else s

/-- The outputs of the tick before take effect: rows, summary and capabilities (R35, R224, R239, R251). -/
def publishEst (s : State) : State :=
  let dis := leastPos ((estPositions s).map (fun n => (n, disMargin s n)))
  let chg := leastPos ((estPositions s).map (fun n => (n, chgMargin s n)))
  let is (x : Option (Nat × Rat)) (n : Nat) : Bool := match x with | some (k, _) => k == n | none => false
  let s := (estPositions s).foldl (fun s n =>
    let e := getEst s n
    setEst n { e with seq := e.seq + 1, limChg := is chg n, limDis := is dis n } s) s
  let s := { s with est := { s.est with sumSeq := s.est.sumSeq + 1 } }
  let rows := (estPositions s).map (fun n => (n, stateRow s n))
  let models := (estPositions s).map (fun n => (n, modelRow s n))
  let s := { s with est := { s.est with
    pubState := rows, pubModel := models, pubSum := sumBytes s,
    p10Chg := capability s true 10, p10Dis := capability s false 10 } }
  let s := s.set F.EST_STATUS_UNC_HIGH_CNT ((estPositions s).countP (fun n => (getEst s n).uncHigh))
  lowCheck s

/-! ## Persistence (R242 to R246) -/

/-- What a record holds of a position (R242): SOC to 0.0001 % with its uncertainty, the capacity, h, the anchor with its age
in seconds, Q_SINCE and Q_gross, Rs_BOL and the adopted parameters; nothing else outlives a restore. -/
def recOf (e : EstPos) : EstPos :=
  { soc := (roundQ (e.soc * 10000) : Rat) / 10000
    socRep := e.socRep
    cov := [getAt e.cov 0 0]
    capQ := e.capQ, capSig := e.capSig, capN := e.capN, capKnown := e.capKnown, capAt := e.capAt, capDay := e.capDay
    h := e.h
    anchor := e.anchor.map (fun a => { a with age := a.age / 100 * 100 })
    qSince := e.qSince, qGross := e.qGross
    rsBol := e.rsBol
    fit := e.fit }

def snapshotRecs (s : State) : List (Nat × EstPos) := (estPositions s).map (fun n => (n, recOf (getEst s n)))

/-- The number of configured positions of the committed CVL set, known before the ring has been enumerated. -/
def cfgPositions (s : State) : Nat :=
  (List.range (s.get F.CVL_CFG_BOARDS)).foldl (fun n k => n + s.get (F.CVL_BRD_CFG_COUNT k)) 0

/-- Is a slot valid: magic (a slot once written), CRC, P and PACK match (R246)? -/
def slotValid' (s : State) (x : Option PSlot) : Bool :=
  match x with
  | some x => x.ok && x.pack == packOf s && x.p == cfgPositions s
  | none => false

/-- Is SEQ `a` newer than `b`, modulo 2^32 (R246)? -/
def seqNewer (a b : Nat) : Bool := decide (0 < (a + 2 ^ 32 - b) % 2 ^ 32 ∧ (a + 2 ^ 32 - b) % 2 ^ 32 < 2 ^ 31)

/-- The newer valid slot: whether it is B, and its contents. -/
def newestSlot (s : State) : Option (Bool × PSlot) :=
  let a := if slotValid' s s.est.slotA then s.est.slotA else none
  let b := if slotValid' s s.est.slotB then s.est.slotB else none
  match a, b with
  | some x, some y => if seqNewer y.seq x.seq then some (true, y) else some (false, x)
  | some x, none => some (false, x)
  | none, some y => some (true, y)
  | none, none => none

def slotStatus (s : State) : State :=
  let s := (s.setB F.EST_STATUS_SLOT_A_VALID (slotValid' s s.est.slotA)).setB F.EST_STATUS_SLOT_B_VALID
    (slotValid' s s.est.slotB)
  match newestSlot s with
  | some (b, x) => (s.setB F.EST_STATUS_LAST_SLOT b).set F.EST_SLOT_SEQ_VALUE x.seq
  | none => s

/-- The contents of a write that starts now (R243). -/
def newSlot (pf : Bool) (s : State) : Bool × PSlot :=
  let toB := match newestSlot s with | some (b, _) => !b | none => false
  let seq := match newestSlot s with | some (_, x) => (x.seq + 1) % 2 ^ 32 | none => 1
  (toB, ⟨seq, roundQ (s.ctl.coulomb * 1000), s.sys.opSec, posCount s, packOf s, pf, snapshotRecs s, true⟩)

def putSlot (toB : Bool) (x : PSlot) (s : State) : State :=
  slotStatus { s with est := if toB then { s.est with slotB := some x } else { s.est with slotA := some x } }

/-- The records of a write go into its slot first, under the old header: until the new header stands there the slot's CRC
fails, and a write that is cut leaves it so (R243). -/
def writeOpen (w : PWrite) (s : State) : State :=
  let s := match (if w.toB then s.est.slotB else s.est.slotA) with
    | some x => putSlot w.toB { x with ok := false } s
    | none => s
  { s with est := { s.est with write := some w } }.setB F.EST_STATUS_PERSIST_BUSY true

/-- A write starts (R244); one at a time, none in direct mode or after the power-fail write. -/
def persistStart (s : State) : State :=
  if s.est.write.isSome || s.direct || s.flag F.EST_STATUS_PF_DONE then s
  else
    match s.est.retryNext with
    | some w => writeOpen w { s with est := { s.est with retryNext := none } }
    | none =>
      if s.est.persistReq then
        let d := newSlot false s
        writeOpen ⟨d.1, d.2, false, s.est.persistCtx⟩ { s with est := { s.est with persistReq := false, persistCtx := [] } }
      else s

/-- A write and its read-back end (R243). -/
def persistDone (ok : Bool) (s : State) : State :=
  match s.est.write with
  | none => s
  | some w =>
    let s := { s with est := { s.est with write := none } }.setB F.EST_STATUS_PERSIST_BUSY false
    if ok then
      let s := (putSlot w.toB w.data s).bump F.EST_PERSIST_CNT_VALUE 1
      w.ctxs.foldl (fun s c => notifyOpt (some c) 0x0302 stOk (u32 (s.get F.EST_SLOT_SEQ_VALUE)) s) s
    else
      let s := putSlot w.toB { w.data with ok := false } s
      let s := raise C.PERSIST_FAIL (s.bump F.EST_PERSIST_FAIL_VALUE 1)
      if w.retry then w.ctxs.foldl (fun s c => notifyOpt (some c) 0x0302 stInternal [] s) s
      else { s with est := { s.est with retryNext := some { w with retry := true } } }

/-- PERSIST_DONE (R243). -/
def execPersistDone (ok : Bool) (s : State) : Host.Outcome State Fault Refusal := finish (persistDone ok s)

/-- PWR_FAIL_WARN (R245): the write in progress completes, the power-fail write follows, and PF_DONE blocks more. -/
def estPowerFail (s : State) : State :=
  let s := persistDone true s
  if s.direct then s
  else
    let d := newSlot true s
    ((putSlot d.1 d.2 s).bump F.EST_PERSIST_CNT_VALUE 1).setB F.EST_STATUS_PF_DONE true

/-- A restored position (R246): charge counted since the write, and 0.50 % in quadrature where asked. `secs` operating seconds
have passed. The values of the last reference point are in no record: R227 then grows from the restored SOC and its
uncertainty (DESIGN CHOICE, log entry 157). -/
def restorePos (dq : Rat) (unc : Bool) (secs : Nat) (s : State) (x : Nat × EstPos) : State :=
  let e := x.2
  let adv (v : Rat) : Rat := clampQ 0 100 (v + 100 * dq / e.capQ)
  let p0 := getAt e.cov 0 0 + (if unc then 1 / 4 else 0)
  let soc := adv e.soc
  let gross := e.qGross + absQ dq
  let e := repAdd (100 * dq / e.capQ) { e with
    soc := soc, refSoc := soc, refSig := sqrtQ p0, qSince := e.qSince + dq, qGross := gross,
    anchor := e.anchor.map (fun a => { a with age := a.age + 100 * secs, q := a.q + dq, gross := a.gross + absQ dq }),
    cov := [p0, 0, 0, Config.voltageStart 0, 0, Config.voltageStart 1], qLast := (e.fit.map (fun m => m.q)).getD 0,
    seq := (getEst s x.1).seq }
  estView (setEst x.1 { e with grown := uncTarget s e soc gross 0 } s) x.1

/-- The positions of a slot are restored (R246). -/
def restoreSlot (unc : Bool) (x : PSlot) (mine : Nat → Bool) (s : State) : State :=
  let dq := (s.ctl.coulomb * 1000 - (x.charge : Rat)) / 3600000
  (x.recs.filter (fun e => mine e.1)).foldl (restorePos dq unc (s.sys.opSec - x.opSec)) s

/-- Restoring at start-up step 6, and for REINIT_EST without the 0.50 % (R246, R65). A write under way goes on. -/
def estRestore (unc : Bool) (s : State) : State :=
  let a := slotValid' s s.est.slotA
  let b := slotValid' s s.est.slotB
  let broken (x : Option PSlot) : Bool := x.any (fun y => !y.ok)
  let s := { s with est := { s.est with rows := [], insertNow := [], insertValid := [] } }
  let s := slotStatus (estStatus s)
  match newestSlot s with
  | some (_, x) =>
    let s := restoreSlot unc x (fun _ => true) s
    if a && b then s
    else if broken s.est.slotA || broken s.est.slotB then causeRec C.SLOT_RECOVERED sevWarning [] s
    else raise C.SLOT_RECOVERED s
  | none =>
    let s := { s with est := { s.est with insertValid := List.range (cfgPositions s) } }
    if s.est.slotA.isSome || s.est.slotB.isSome then causeRec C.PERSIST_FAIL sevFault [] s
    else addRec sevInfo 0x06 C.INSERTION.b [] s

/-- A management tick asks for a write when a persisted value has changed (R244). -/
def estManage (s : State) : State :=
  let now := snapshotRecs s
  let same := match newestSlot s with | some (_, x) => x.recs == now | none => now.isEmpty
  if same then s else { s with est := { s.est with persistReq := true } }

/-! ## The estimation tick -/

/-- The estimator's part of an estimation tick, after the acquisition part: a write asked for before this tick starts at
it (R244). -/
def estTick (s : State) : State :=
  let s := estStatus (persistStart s)
  if estRuns s then
    let s := publishEst s
    let s := (positions s).foldl estStep s
    let due := insertDue s
    let s := insertTick due s
    let s := if estActs s then (estPositions (refTick due s)).foldl fitTake (refTick due s) else s
    (estPositions s).foldl estView s
  else s

/-! ## EST_PACK (R218, R258) -/

/-- Default limits of a pack (R218): V_MAX, V_MIN in mV, C_CHG and C_DIS in 0.01C. -/
def packLimits (pack : Nat) : Option (Nat × Nat × Nat × Nat) :=
  match pack with
  | 1 => some (3650, 2500, 100, 100)
  | 2 => some (4250, 2500, 100, 100)
  | 3 => some (4200, 2800, 100, 100)
  | 4 => some (3950, 1500, 100, 100)
  | _ => none

/-- EST_PACK has taken a new pack: its limits load, and every position is inserted at the next tick (R229, R258). -/
def packLoaded (o : Origin) (s : State) : State :=
  let s := match packLimits (packOf s) with
    | some (vx, vn, cc, cd) =>
      storeWord o 0x1304C (BitVec.ofNat 32 (cc * 65536 + cd)) (storeWord o 0x13048 (BitVec.ofNat 32 (vx * 65536 + vn)) s)
    | none => s
  estStatus { s with est := { s.est with insertNow := positions s } }

/-! ## Opcodes (R262) -/

def doEstInsert (c : Ctx) (first count : Nat) (s : State) : State :=
  if count = 0 ∨ 576 < count then replyRange c 0x0300 2 s
  else if posCount s < first + count then replyRange c 0x0300 (if posCount s ≤ first then 0 else 2) s
  else
    let l := (List.range count).map (· + first)
    replyOk c 0x0300 [] { s with est := { s.est with insertNow := s.est.insertNow ++ l } }

/-- EST_INSERT (R262). -/
def execEstInsert (c : Ctx) (first count : BitVec 16) (s : State) : Host.Outcome State Fault Refusal :=
  finish (withCmd c 0x0300 (doEstInsert c first.toNat count.toNat) s)

/-- CAPACITY_SET of one position. -/
def capSet (cap unc : Nat) (s : State) (n : Nat) : State :=
  let e := getEst s n
  let s := { s with est := { s.est with persistReq := true } }
  setEst n { e with
    capQ := ((cap : Nat) : Rat) / 1000, capSig := ((unc : Nat) : Rat) / 100, capN := 0, learned := false,
    capKnown := true, capAt := s.sys.opSec, capDay := today s } s

def doCapacitySet (c : Ctx) (pos cap unc : Nat) (s : State) : State :=
  let rated := s.get F.EST_RATED_CAP_RATED
  if pos ≠ 0xFFFF ∧ posCount s ≤ pos then replyRange c 0x0301 0 s
  else if 2 * cap < rated ∨ 3 * rated < 2 * cap then replyRange c 0x0301 2 s
  else
    let l := if pos = 0xFFFF then positions s else [pos]
    let s := l.foldl (capSet cap unc) s
    replyOk c 0x0301 [] (addRec sevNotice 0x06 0x0012 (u16 pos ++ u32 cap ++ originBytes (Ctx.origin c)) s)

/-- CAPACITY_SET (R262). -/
def execCapacitySet (c : Ctx) (pos : BitVec 16) (cap : BitVec 32) (unc : BitVec 16) (s : State) :
    Host.Outcome State Fault Refusal :=
  finish (withCmd c 0x0301 (doCapacitySet c pos.toNat cap.toNat unc.toNat) s)

def doEstPersist (c : Ctx) (s : State) : State :=
  if s.flag F.EST_STATUS_PF_DONE then replyBusy c 0x0302 100 s
  else
    let s := replyAccepted c 0x0302 s
    { s with est := { s.est with persistReq := true, persistCtx := s.est.persistCtx ++ [c] } }

/-- EST_PERSIST (R262). -/
def execEstPersist (c : Ctx) (s : State) : Host.Outcome State Fault Refusal := finish (withCmd c 0x0302 (doEstPersist c) s)

end Sys2Proof.Machine
end

