-- ==== Sys2Proof/Machine/Bal.lean ====
section
/-!
DEFINITION. Balancing (chapter 8): policies and plans, positions in CV, stopped boards, the Oasis hand-off and its
reports, and the balancing opcodes.
-/

namespace Sys2Proof.Machine

/-! ## Admission (R267) -/

/-- Boards a plan addresses: present, not missing, not stopped (R267, R272). -/
def planBoards (s : State) : List Nat :=
  (boardNums s).filter (fun k => present s k && !missing s k && !s.bal.stopped.contains k)

/-- Does R267 admit a position? -/
def admitted (s : State) (n : Nat) : Bool :=
  let c := getCell s n
  let k := boardOf s n
  (c.tagScan == 0 || c.tagScan == 1) && c.flags &&& 0x0B == 0 && (planBoards s).contains k && !owBusy s k

/-- Is the position's channel on in the plan in force? -/
def wasOn (s : State) (n : Nat) : Bool :=
  match posBoard s n with
  | some (k, j) => tabGet s.bal.plan.masks k 0 / 2 ^ j % 2 == 1
  | none => false

/-! ## TARGET_VOLTAGE (R273) -/

/-- The reading that drives decisions, 0.01 mV. -/
def driving (s : State) (n : Nat) : Option Int :=
  let c := getCell s n
  if s.flag F.MEAS_CFG_PREC_EN then (if c.tagPrec = 2 then some c.vPrec else none)
  else if c.tagScan = 0 ∨ c.tagScan = 1 then some c.vScan else none

def drivingHeld (s : State) (n : Nat) : Bool := s.flag F.MEAS_CFG_PREC_EN && (getCell s n).tagPrec == 3

/-- V_T in 0.01 mV. -/
def vTarget (s : State) : Int :=
  let floor : Int := 100 * (s.get F.BAL_TV_V_FLOOR : Nat)
  match ((positions s).filter (admitted s)).filterMap (driving s) with
  | [] => floor
  | v :: t => max floor (t.foldl (fun m x => min m x) v)

def excessTv (s : State) (n : Nat) : Option Int := (driving s n).map (fun v => v - vTarget s)

/-- Is the channel of an admitted position on in the plan made now, and with what excess (0.01 mV)? -/
def wantTv (s : State) (n : Nat) : Option Rat :=
  match driving s n with
  | some v =>
    let x := v - vTarget s
    let start : Int := 100 * (s.get F.BAL_TV_START_DV : Nat)
    let stop : Int := 100 * (s.get F.BAL_TV_STOP_DV : Nat)
    let floor : Int := 100 * (s.get F.BAL_TV_V_FLOOR : Nat)
    if v < floor ∨ x ≤ stop then none
    else if start ≤ x ∨ wasOn s n then some (x : Rat)
    else none
  | none =>
    let since := tabGet s.bal.heldSince n s.time
    if drivingHeld s n && wasOn s n && decide (s.time < since + sec) then some 0 else none

/-- Since when driving readings have been HELD. -/
def heldStep (s : State) : State :=
  let l := ((positions s).filter (drivingHeld s)).map (fun n => (n, tabGet s.bal.heldSince n s.time))
  { s with bal := { s.bal with heldSince := l } }

/-! ## SOC_ALIGN (R274, R275) -/

/-- Positions SOC_ALIGN admits. -/
def alignAdmits (s : State) (n : Nat) : Bool :=
  let e := getEst s n
  admitted s n && !e.inserted && !e.uncHigh && decide (0 < e.capQ)

/-- Headroom G_n under TOP, and the negated margin −D_n under BOTTOM, Ah: the shed is the largest of these less a
position's own. -/
def alignRoom (s : State) (n : Nat) : Rat :=
  let e := getEst s n
  if s.flag F.BAL_CFG_ALIGN then (socLow s - e.soc) * e.capQ / 100 else (socHigh s - e.soc) * e.capQ / 100

def alignMost (s : State) : Rat :=
  match ((positions s).filter (alignAdmits s)).map (alignRoom s) with
  | [] => 0
  | x :: t => t.foldl maxQ x

/-- shed_n in Ah. -/
def shedOf (s : State) (n : Nat) : Rat := alignMost s - alignRoom s n

/-- START × C_n in Ah. -/
def shedStart (s : State) (n : Nat) : Rat := ((s.get F.BAL_SHED_START : Nat) : Rat) / 10000 * (getEst s n).capQ

def wantAlign (s : State) (n : Nat) : Option Rat :=
  if alignAdmits s n then
    let x := shedOf s n
    if x ≤ 0 then none else if shedStart s n ≤ x ∨ wasOn s n then some x else none
  else none

/-! ## The plan (R266, R269, R270) -/

/-- Insertion by falling excess; equal ones stay in order of position. -/
def insertExcess (e : Nat × Rat) : List (Nat × Rat) → List (Nat × Rat)
  | [] => [e]
  | y :: t => if y.2 < e.2 then e :: y :: t else y :: insertExcess e t

/-- Channels of a board that a plan may switch on at once (R269, R270). -/
def channelLimit (s : State) (k : Nat) : Nat :=
  if brdClass s k = 3 then 16 else min (s.get F.BAL_CFG_MAX_ON) (tabGet s.bal.thermLim k 16)

/-- The mask of a board from the positions that want balancing, and whether the limit cut any. -/
def boardMask (s : State) (wants : List (Nat × Rat)) (k : Nat) : Nat × Bool :=
  let base := brdBase s k
  let mine := wants.filter (fun e => (brdPositions s k).contains e.1)
  let l := (mine.foldl (fun a e => insertExcess e a) []).take (channelLimit s k)
  (l.foldl (fun m e => m ||| 2 ^ (e.1 - base)) 0, decide (l.length < mine.length))

/-- The plan of a policy. -/
def makePlan (policy : Nat) (s : State) : Plan :=
  let want (n : Nat) : Option Rat := if policy = 1 then (if admitted s n then wantTv s n else none)
    else if policy = 2 then wantAlign s n else none
  let wants := (positions s).filterMap (fun n => (want n).map (fun x => (n, x)))
  let ms := (planBoards s).map (fun k => (k, boardMask s wants k))
  let hold := policy = 3 && s.st == stRun && s.flag F.CTL_STATUS_CLOSED
  let cvMask (k : Nat) : Nat :=
    ((brdPositions s k).filter (admitted s)).foldl (fun m n => m ||| 2 ^ (n - brdBase s k)) 0
  { masks := ms.map (fun e => (e.1, e.2.1))
    byp := if policy = 1 ∨ policy = 2 then s.get F.BAL_SHED_I_SHED else 0
    cv := if hold then ((planBoards s).filter (fun k => brdClass s k == 3)).map (fun k => (k, cvMask k)) else []
    capped := ms.any (fun e => e.2.2) }

/-- BAL_SET to a board with the hold time of 3 s (R268, R284); an older one still unanswered is replaced. -/
def balSet (k mask byp : Nat) (s : State) : State :=
  boardSend k 0x18 (u16 mask ++ u16 byp ++ u8 3) (dropCmd k 0x18 s)

/-- FCV_SET to a board with the bypass limit of 20.00 A (R276, R284). -/
def fcvSet (k mask : Nat) (s : State) : State :=
  boardSend k 0x19 (u16 (s.get F.BAL_FCV_V_CV) ++ u16 2000 ++ u16 mask) (dropCmd k 0x19 s)

/-- The hold of BAL_MANUAL masks: they are refreshed each second, and switched off when their time is past (R290). -/
def manualTick (s : State) : State :=
  let run := s.bal.manual.filter (fun e => decide (s.time < e.2.2.2))
  let past := s.bal.manual.filter (fun e => !decide (s.time < e.2.2.2))
  let s := { s with bal := { s.bal with manual := run } }
  let s := past.foldl (fun s e => balSet e.1 0 0 s) s
  run.foldl (fun s e => balSet e.1 e.2.1 e.2.2.1 s) s

/-- The balancing work of a management tick: the policy written takes effect, and a plan is made (R263, R264, R266). -/
def balManage (s : State) : State :=
  if s.direct then s
  else
    let p := s.get F.BAL_CFG_POLICY
    let s := heldStep (s.set F.BAL_STATUS_POLICY_ACTIVE p)
    if balActs s && ringRuns s then
      let plan := makePlan p s
      let plan := { plan with capped := plan.capped || !s.bal.thermCap.isEmpty }
      let s := if plan.capped then raise C.BAL_LIMIT s else s
      { s with bal := { s.bal with next := some plan } }
    else if s.st = stTest then manualTick s
    else s

def planOn (p : Plan) : Bool := p.masks.any (fun e => e.2 != 0)

/-- The number of bits set in a mask of 16. -/
def popcount (m : Nat) : Nat := (List.range 16).countP (fun j => m / 2 ^ j % 2 == 1)

/-- When every board has acknowledged, the plan is applied (R266, R289). -/
def planCheck (s : State) : State :=
  match s.bal.acks with
  | some [] =>
    let p := s.bal.plan
    let s := s.bump F.BAL_PLAN_SEQ_SEQ 1
    let s := (s.set F.BAL_STATUS_ON_COUNT ((p.masks.map (fun e => popcount e.2)).sum)).setB F.BAL_STATUS_CAPPED
      p.capped
    let s := if s.bal.changed then raise C.PLAN_APPLIED s else s
    let pol := s.get F.BAL_STATUS_POLICY_ACTIVE
    let s := if s.bal.wasOn && !planOn p && (pol == 1 || pol == 2) then raise C.TARGET_REACHED s else s
    { s with bal := { s.bal with acks := none, changed := false, wasOn := planOn p } }
  | _ => s

/-- The finished plan goes to the boards at a frame start (R35, R266). -/
def planSend (s : State) : State :=
  match s.bal.next with
  | none => s
  | some p =>
    let s := { s with bal := { s.bal with next := none } }
    if balActs s && ringRuns s && !keepAlive s then
      let old := s.bal.plan
      let ks := planBoards s
      let s := { s with bal := { s.bal with
        plan := p, acks := some ks
        changed := s.bal.changed || old.masks != p.masks || old.cv != p.cv || old.byp != p.byp } }
      let byp (k : Nat) : Nat := if brdClass s k = 3 then p.byp else 0
      let s := ks.foldl (fun s k => balSet k (tabGet p.masks k 0) (byp k) s) s
      let cvKs := ks.filter (fun k => tabGet p.cv k 0 != 0 || tabGet old.cv k 0 != 0)
      planCheck (cvKs.foldl (fun s k => fcvSet k (tabGet p.cv k 0) s) s)
    else s

/-- BALANCE_PLAN_READY (R266). -/
def execBalancePlanReady (s : State) : Host.Outcome State Fault Refusal := finish (planSend s)

/-! ## Stopped boards (R272) -/

/-- The module stops balancing on a board. -/
def balFault (k : Nat) (s : State) : State :=
  if s.bal.stopped.contains k then s
  else
    let s := balStopSend (some k) s
    let p := s.bal.plan
    let s := { s with bal := { s.bal with
      stopped := k :: s.bal.stopped, plan := { p with masks := tabDel p.masks k, cv := tabDel p.cv k }
      manual := tabDel s.bal.manual k, acks := s.bal.acks.map (fun l => l.filter (· != k)),
      diffRun := tabDel s.bal.diffRun k } }
    planCheck (causeRec C.BAL_FAULT sevFault (u8 k) s)

/-- A board acknowledges BAL_SET. -/
def balAck (k : Nat) (s : State) : State :=
  planCheck { s with bal := { s.bal with acks := s.bal.acks.map (fun l => l.filter (· != k)) } }

/-- A plan in force is counted as capped once a board reports THERM_CAP (R269, R270). -/
def thermCapped (s : State) : State :=
  if s.bal.plan.capped then s
  else raise C.BAL_LIMIT ({ s with bal := { s.bal with plan := { s.bal.plan with capped := true } } }.setB
    F.BAL_STATUS_CAPPED true)

/-- RB_BAL_STATE of a board at a mirror refresh (R270, R272): channels in CV are the board's own, and a board that reports
THERM_CAP may have switched off channels by itself, which CS then knows (DEDUCED, log entry 44). -/
def balState (k : Nat) (w : Word) (s : State) : State :=
  let on := fieldOf w 0 16
  let cap := bitOf w 24
  let tc := s.bal.thermCap.filter (· != k)
  let s := { s with bal := { s.bal with thermCap := if cap then k :: tc else tc } }
  let s := if cap then thermCapped s else s
  let m := match s.bal.manual.lookup k with
    | some x => x.1
    | none => tabGet s.bal.plan.masks k 0
  let cv := tabGet s.bal.plan.cv k 0
  let own := cap && (on &&& (0xFFFF ^^^ (m ||| cv))) == 0
  let s := if own then setBrdChan k { brdChan s k with mask := on &&& (brdChan s k).mask } s else s
  let settled := !keepAlive s && (findCmd k 0x18 s).isNone && s.ring.still.isNone && !owBusy s k && !learning s
  let diff := settled && !own && (planBoards s).contains k && ((on ^^^ m) &&& (0xFFFF ^^^ cv)) != 0
  let run := if diff then tabGet s.bal.diffRun k 0 + 1 else 0
  let s := { s with bal := { s.bal with diffRun := tabSet s.bal.diffRun k run } }
  if 2 ≤ run then balFault k s else s

/-- A board's temperature limits its channels: 4 from 85.0 °C, none from 95.0 °C, each lifted 5.0 K below (R270). -/
def thermLimit (old : Nat) (t : Int) : Nat :=
  if 950 ≤ t ∨ (old = 0 ∧ 900 < t) then 0 else if 850 ≤ t ∨ (old ≤ 4 ∧ 800 < t) then 4 else 16

def balTemp (k : Nat) (t : Int) (s : State) : State :=
  if brdClass s k = 2 then
    let n := thermLimit (tabGet s.bal.thermLim k 16) t
    { s with bal := { s.bal with thermLim := if n = 16 then tabDel s.bal.thermLim k else tabSet s.bal.thermLim k n } }
  else s

/-- RB_CV_MASK of a board at a mirror refresh (R276, R288). -/
def balCv (k : Nat) (w : Word) (s : State) : State :=
  let s := s.set (F.BAL_BRD_CV (k - 1)) (fieldOf w 0 16)
  s.set F.BAL_STATUS_CV_COUNT (((boardNums s).map (fun j => popcount (s.get (F.BAL_BRD_CV (j - 1))))).sum)

/-- A channel of the plan goes off: one that is on, and one that may hold its cell. -/
def planOff (k j : Nat) (s : State) : State :=
  let p := s.bal.plan
  let m := tabGet p.masks k 0
  let s := if m / 2 ^ j % 2 = 1 then
      balSet k (m - 2 ^ j) (if brdClass s k = 3 then p.byp else 0)
        { s with bal := { s.bal with plan := { p with masks := tabSet p.masks k (m - 2 ^ j) } } }
    else s
  let p := s.bal.plan
  let c := tabGet p.cv k 0
  if c / 2 ^ j % 2 = 1 then
    fcvSet k (c - 2 ^ j) { s with bal := { s.bal with plan := { p with cv := tabSet p.cv k (c - 2 ^ j) } } }
  else s

/-- The same of a channel that BAL_MANUAL has on. -/
def manualOff (k j : Nat) (s : State) : State :=
  match s.bal.manual.lookup k with
  | some (m, byp, t) =>
    if m / 2 ^ j % 2 = 1 then
      balSet k (m - 2 ^ j) byp { s with bal := { s.bal with manual := tabSet s.bal.manual k (m - 2 ^ j, byp, t) } }
    else s
  | none => s

/-- A broken wire switches off the channels beside it without waiting for a plan (R267). -/
def wireOff (w : Nat) (s : State) : State :=
  (besideWire s w).foldl (fun s n =>
    match posBoard s n with
    | some (k, j) => manualOff k j (planOff k j s)
    | none => s) s

/-- OPEN_WIRE_DONE (R165 to R167): the result of a board's test, 25 ms or 120 ms after its T0. -/
def execOpenWireDone (k : Nat) (s : State) : Host.Outcome State Fault Refusal :=
  finish (match s.acq.tests.find? (fun x => x.board == k && x.start.isSome) with
    | some x =>
      let t := owDone x (s.at (x.start.getD 0 + owLength s))
      let new := (List.range (posCount s + 1)).filter (fun w => t.flag (wbFld w) && !s.flag (wbFld w))
      new.foldl (fun t w => wireOff w t) t
    | none => s)

/-! ## FORMATION_CV (R276 to R278) -/

/-- Is a position in CV? -/
def inCv (s : State) (n : Nat) : Bool :=
  match posBoard s n with
  | some (k, j) => s.get (F.BAL_BRD_CV (k - 1)) / 2 ^ j % 2 == 1
  | none => false

/-- The largest bypass current of a position in CV, 10 mA; none without one. -/
def bypMax (s : State) : Option Int :=
  match ((positions s).filter (inCv s)).map (fun n => tabGet s.bal.report n 0) with
  | [] => none
  | x :: t => some (t.foldl max x)

/-- The reduction of R277. -/
def bypSat (s : State) : State :=
  match bypMax s, s.disp.run with
  | some b, some r =>
    if r.active ∧ ((s.get F.BAL_BYP_BYP_SAT : Nat) : Int) ≤ b then
      let new := s.acq.iScan - ((b - ((s.get F.BAL_BYP_BYP_AIM : Nat) : Int) : Int) : Rat) / 100
      if new < r.req then
        let s := runReq new s
        let s := match s.disp.run with
          | some r => { s with disp := { s.disp with run := some { r with satLow := true } } }
          | none => s
        if r.satLow then s else raise C.BYPASS_SAT s
      else s
    else s
  | _, _ => s

/-- Runs of positions in CV above V_CV + CV_OVS. -/
def ovsStep (s : State) : State :=
  let lim : Int := 10 * (s.get F.BAL_FCV_V_CV : Nat) + 100 * (s.get F.BAL_FCV_CV_OVS : Nat)
  let past (n : Nat) : Bool := inCv s n && scanValid s n && decide (lim < (getCell s n).vScan)
  { s with bal := { s.bal with
    ovsRun := ((positions s).filter past).map (fun n => (n, tabGet s.bal.ovsRun n 0 + 1)) } }

/-- The request is halved; one record names the lowest position whose run is complete (R278). -/
def cvOvershoot (s : State) : State :=
  match s.bal.ovsRun.filter (fun e => decide (10 ≤ e.2)), s.disp.run with
  | (n, _) :: _, some r =>
    if r.active then
      let new := r.req / 2
      let s := runReq new s
      let s := { s with bal := { s.bal with
        ovsRun := s.bal.ovsRun.map (fun e => if 10 ≤ e.2 then (e.1, 0) else e) } }
      addRec sevWarning 0x09 0x0011 (u16 n ++ s32 (getCell s n).vScan ++ s32 (roundQ (new * 1000))) s
    else s
  | _, _ => s

/-- CV_OVERSHOOT (R278), as the tick that finds it does it. -/
def execCvOvershoot (s : State) : Host.Outcome State Fault Refusal := finish (cvOvershoot s)

/-- The balancing part of an estimation tick. -/
def balTick (s : State) : State :=
  let s := if s.get F.BAL_STATUS_POLICY_ACTIVE = 3 ∧ s.direct = false then cvOvershoot (ovsStep (bypSat s))
    else { s with bal := { s.bal with ovsRun := [] } }
  s.setB F.BAL_STATUS_SAT (s.disp.run.any (fun r => r.active && r.satLow))

/-! ## The Oasis hand-off (R279, R280) -/

/-- The target of a position, 0.1 mV; 0xFFFF for none. -/
def oasisTarget (policy : Nat) (s : State) (n : Nat) : Nat :=
  let none16 := 0xFFFF
  if !admitted s n then none16
  else if policy = 1 then
    match excessTv s n with
    | some x =>
      if 100 * (s.get F.BAL_TV_START_DV : Nat) ≤ x then
        (roundQ (((vTarget s + 100 * (s.get F.BAL_TV_STOP_DV : Nat) : Int) : Rat) / 10)).toNat
      else none16
    | none => none16
  else if policy = 2 then
    let e := getEst s n
    let x := shedOf s n
    let soc := clampQ 0 100 (e.soc - 100 * x / e.capQ)
    let t := degC (tempOf s n)
    if alignAdmits s n && decide (shedStart s n ≤ x) && decide (slopeMin s ≤ ocvSlope (packOf s) t e.h soc) then
      (roundQ (ocv (packOf s) t e.h soc * 10)).toNat
    else none16
  else none16

/-- OASIS_TARGETS for one half of a board's channels. -/
def oasisHalf (targets : List (Nat × Nat)) (k h : Nat) (s : State) : State :=
  let one (j : Nat) : List Byte := u16 (tabGet targets (brdBase s k + 8 * h + j) 0xFFFF)
  let inside (j : Nat) : Bool := decide (8 * h + j < brdCount s k)
  let l := ((List.range 8).map (fun j => if inside j then one j else u16 0xFFFF)).flatten
  boardSend k 0x1A (u8 h ++ l ++ u8 (s.get F.BAL_OASIS_TIMEOUT)) s

/-- Steps 1 to 3 of R279. -/
def handoffStart (s : State) : State :=
  let policy := s.get F.BAL_STATUS_POLICY_ACTIVE
  let targets := (positions s).map (fun n => (n, oasisTarget policy s n))
  let ks := if ringRuns s then boardNums s else []
  let s := if ringRuns s then balHalt s else s
  let s := { s with bal := { s.bal with handoff := some (ks ++ ks), handoffFail := [] } }
  ks.foldl (fun s k => oasisHalf targets k 1 (oasisHalf targets k 0 s)) s

/-- A board holds one half of its targets. -/
def handoffAck (k : Nat) (s : State) : State :=
  { s with bal := { s.bal with handoff := s.bal.handoff.map (fun l => l.erase k) } }

/-- A board fails to acknowledge: it holds no targets, and one record names it (R279, R568). -/
def handoffMiss (k : Nat) (s : State) : State :=
  let s := handoffAck k s
  if s.bal.handoffFail.contains k then s
  else addRec sevWarning 0x07 0x0010 (u8 k) { s with bal := { s.bal with handoffFail := k :: s.bal.handoffFail } }

/-! ## Reports after a wake (R282) -/

/-- CS asks every board that is read and not new for its report once enumeration is done. -/
def reportAsk (s : State) : State :=
  if s.bal.reportDue then
    let ks := (boardNums s).filter (fun k => (getBrd s k).read && !s.flag (F.CVL_BRD_STATE_SERIAL_NEW (k - 1)))
    ks.foldl (fun s k => boardSend k 0x1B (u8 1) (boardSend k 0x1B (u8 0) s)) s
  else s

/-- One half of a board's report. -/
def reportIn (k half : Nat) (data : List Byte) (s : State) : State :=
  let reached := numAt data 0 2
  let timed := numAt data 2 2
  let old := tabGet s.bal.reports k {}
  let q := (List.range 8).map (fun j => numAt data (4 + 2 * j) 2)
  let charge := (List.range 16).map (fun j => if j / 8 = half then getAt q (j % 8) 0 else getAt old.charge j 0)
  let s := { s with bal := { s.bal with reports := tabSet s.bal.reports k (OasisRep.mk reached timed charge) } }
  let s := (s.set (F.BAL_OAS_REACHED (k - 1)) reached).set (F.BAL_OAS_TIMED_OUT (k - 1)) timed
  s.setB F.BAL_STATUS_OASIS_VALID true

/-- The reported charge of one position (R282). -/
def reportApply (s : State) (n : Nat) : State :=
  match posBoard s n with
  | some (k, j) =>
    let q : Rat := ((getAt (tabGet s.bal.reports k {}).charge j 0 : Nat) : Rat) / 1000
    let e := getEst s n
    if 0 < q ∧ 0 < e.capQ then
      let d := 100 * q / e.capQ
      let soc := clampQ 0 100 (e.soc - d)
      setEst n { e with
        soc := soc, qGross := e.qGross + q, cov := setAt e.cov 0 (getAt e.cov 0 0 + d * d / 400) } s
    else s
  | none => s

/-- OASIS_REPORT_APPLY (R282): at the first estimation tick after step 8. -/
def execOasisReportApply (s : State) : Host.Outcome State Fault Refusal :=
  finish (if s.bal.reportDue && s.awake then
    let s := { s with bal := { s.bal with reportDue := false } }
    if s.bal.reports.isEmpty then s
    else
      let s := (positions s).foldl reportApply s
      let s := if s.bal.reports.any (fun e => e.2.timedOut != 0) then raise C.BAL_TIMEOUT s else s
      raise C.OASIS_REPORT s
  else s)

/-! ## Opcodes and the policy write (R263, R265, R290) -/

/-- Does the personality, and the ring, offer a policy? -/
def policyOk (s : State) (p vcv : Nat) : Bool :=
  let line := s.get F.SYS_MODE_PERSONALITY == 2
  match p with
  | 0 => true
  | 1 => true
  | 2 => isPlant s
  | 3 => line && fcvBoards s && decide (0 < vcv ∧ vcv ≤ 10 * s.get F.EST_VLIM_V_MAX)
  | _ => false

/-- A new policy is written: stopped boards take part again after a BAL_STOP (R272). -/
def policyWritten (s : State) : State :=
  if s.bal.rearmed then { s with bal := { s.bal with rearmed := false, stopped := [] } } else s

def doBalPolicy (c : Ctx) (p a : Nat) (s : State) : State :=
  if s.flag F.BAL_STATUS_OWNED then reply c 0x0400 stLocked [] s
  else if !policyOk s p (s.get F.BAL_FCV_V_CV) then replyRange c 0x0400 0 s
  else if 1 < a then replyRange c 0x0400 1 s
  else
    let w := withField (withField (s.word 0x14000) 0 2 p) 8 1 a
    replyOk c 0x0400 [] (policyWritten (storeWord (Ctx.origin c) 0x14000 w s))

/-- BAL_POLICY (R290). -/
def execBalPolicy (c : Ctx) (policy align : BitVec 8) (s : State) : Host.Outcome State Fault Refusal :=
  finish (withCmd c 0x0400 (doBalPolicy c policy.toNat align.toNat) s)

def doBalStop (c : Ctx) (s : State) : State :=
  let s := storeWord (Ctx.origin c) 0x14000 (withField (s.word 0x14000) 0 2 0) s
  let s := { s with bal := { s.bal with rearmed := true } }
  replyOk c 0x0401 [] (balHalt s)

/-- BAL_STOP (R290). -/
def execBalStop (c : Ctx) (s : State) : Host.Outcome State Fault Refusal := finish (withCmd c 0x0401 (doBalStop c) s)

def doBalManual (c : Ctx) (k mask byp hold : Nat) (s : State) : State :=
  if k < 1 ∨ 36 < k then replyRange c 0x0402 0 s
  else if boards s < k ∨ present s k = false then replyIncons c 0x0402 0 s
  else if brdClass s k ≠ 3 ∧ s.get F.BAL_CFG_MAX_ON < popcount mask then replyRange c 0x0402 1 s
  else if hold < 1 ∨ 600 < hold then replyRange c 0x0402 5 s
  else
    let s := { s with bal := { s.bal with manual := tabSet s.bal.manual k (mask, byp, s.time + hold * sec) } }
    replyOk c 0x0402 [] (balSet k mask byp s)

/-- BAL_MANUAL (R290): the mask is refreshed until its hold time ends. -/
def execBalManual (c : Ctx) (k : BitVec 8) (mask byp hold : BitVec 16) (s : State) :
    Host.Outcome State Fault Refusal :=
  finish (withCmd c 0x0402 (doBalManual c k.toNat mask.toNat byp.toNat hold.toNat) s)

def doOasisReportRead (c : Ctx) (k : Nat) (s : State) : State :=
  if !s.flag F.BAL_STATUS_OASIS_VALID then replyForbids c 0x0403 s
  else if k < 1 ∨ 36 < k then replyRange c 0x0403 0 s
  else
    let r := tabGet s.bal.reports k {}
    replyOk c 0x0403 (u16 r.reached ++ u16 r.timedOut ++
      ((List.range 16).map (fun j => u16 (getAt r.charge j 0))).flatten) s

/-- OASIS_REPORT_READ (R290). -/
def execOasisReportRead (c : Ctx) (k : BitVec 8) (s : State) : Host.Outcome State Fault Refusal :=
  finish (withCmd c 0x0403 (doOasisReportRead c k.toNat) s)

end Sys2Proof.Machine
end

