-- ==== Sys2Proof/Machine/Dio.lean ====
section
/-!
DEFINITION. Field inputs and outputs (chapter 13): the 100 µs cycle, input filters, output groups with their fail
states and faults, cross-wiring tests, thermal PWM and the PT1000 inputs.
-/

namespace Sys2Proof.Machine

/-- Bit `i` of a field of one bit per input or output. -/
def bitFld (f : Fld) (i : Nat) : Fld := ⟨f.addr, f.lo + i, 1⟩

def setDio (d : Dio) (s : State) : State := { s with dio := d }

/-- One more in a run, or none. -/
def runStep (b : Bool) (k : Nat) (l : List (Nat × Nat)) : List (Nat × Nat) :=
  if b then tabSet l k (tabGet l k 0 + 1) else tabDel l k

def fieldLow (s : State) : Bool := s.flag F.DIO_FIELD_LOW

/-! ## Field supply (R435) -/

def supplyLow (s : State) : State :=
  if 100 ≤ s.dio.lowRun ∧ fieldLow s = false then
    causeRec C.FIELD_SUPPLY_LOW sevWarning [] (s.setB F.DIO_FIELD_LOW true)
  else s

def supplyBack (s : State) : State := if 1000 ≤ s.dio.highRun then s.setB F.DIO_FIELD_LOW false else s

/-- FIELD_SUPPLY_LOW and FIELD_SUPPLY_RECOVER (R435), as the cycle that finds them does them. -/
def execFieldSupplyLow (s : State) : Host.Outcome State Fault Refusal := finish (supplyLow s)
def execFieldSupplyRecover (s : State) : Host.Outcome State Fault Refusal := finish (supplyBack s)

def supplyCycle (volt : Nat) (s : State) : State :=
  let volt := calNat s 31 (10 * volt) / 10
  let s := s.set F.DIO_FIELD_VOLT volt
  let d := s.dio
  let s := setDio { d with
    lowRun := if volt < 1800 then d.lowRun + 1 else 0, highRun := if 1900 < volt then d.highRun + 1 else 0 } s
  supplyBack (supplyLow s)

/-! ## Inputs (R437 to R441) -/

/-- Current of an input in DIO_DI_Iw. -/
def diCurrent (x : Nat) : Fld := if x % 2 = 0 then F.DIO_DI_I_I_LO (x / 2) else F.DIO_DI_I_I_HI (x / 2)

def diFilter (s : State) (x : Nat) : Nat := s.get ⟨0x32010 + 4 * (x / 4), 8 * (x % 4), 8⟩

/-- The class of a current of 0.01 mA after the class of the cycle before (R438). -/
def diClass (wb : Bool) (prev i : Nat) : Nat :=
  if 200 ≤ i then 1
  else if 120 < i then (if prev = 1 then 1 else 0)
  else if 60 ≤ i then 0
  else if 30 ≤ i then (if wb && prev == 2 then 2 else 0)
  else if wb then 2 else 0

/-- The filtered class (R439). -/
def diState (s : State) (x : Nat) : Nat :=
  if s.flag (bitFld F.DIO_DI_BROKEN x) then 2 else if s.flag (bitFld F.DIO_DI_STATE x) then 1 else 0

/-- A class that has lasted the filter time becomes the filtered state (R439, R441). -/
def diChange (x : Nat) (s : State) : State :=
  let c := tabGet s.dio.cls x 0
  let old := diState s x
  if c ≠ old ∧ diFilter s x ≤ tabGet s.dio.run x 0 ∧ fieldLow s = false then
    let s := (s.setB (bitFld F.DIO_DI_STATE x) (c == 1)).setB (bitFld F.DIO_DI_BROKEN x) (c == 2)
    let s := if c = 1 then s.setB (bitFld F.DIO_DI_EDGE_RISE x) true else s
    let s := if old = 1 then s.setB (bitFld F.DIO_DI_EDGE_FALL x) true else s
    let s := if s.flag (bitFld F.DIO_DI_CFG_CHG_EN x) then raise C.DI_CHANGE s else s
    if c = 2 then causeRec C.DI_WIRE_BREAK sevWarning (u8 x) s else s
  else s

/-- DI_STATE_CHANGE (R439). -/
def execDiStateChange (x : Nat) (s : State) : Host.Outcome State Fault Refusal :=
  finish (if x < 16 then diChange x s else s)

/-- One input in a cycle. While LOW the states hold. -/
def diCycle (currents : List Nat) (s : State) (x : Nat) : State :=
  let i := calNat s (11 + x) (getAt currents x 0)
  let s := s.set (diCurrent x) i
  if fieldLow s then s
  else
    let old := tabGet s.dio.cls x 0
    let c := diClass (s.flag (bitFld F.DIO_DI_CFG_WB_EN x)) old i
    let d := s.dio
    let n := if c = old then tabGet d.run x 0 + 1 else 1
    diChange x (setDio { d with cls := tabSet d.cls x c, run := tabSet d.run x n } s)

/-! ## Output groups (R444) -/

/-- The members of an output's group, the commanding one first. -/
def doGroup (s : State) (x : Nat) : List Nat :=
  let q := 4 * (x / 4)
  let p := 2 * (x / 2)
  if s.flag (bitFld F.DIO_DO_CFG_QUAD (x / 4)) then [q, q + 1, q + 2, q + 3]
  else if s.flag (bitFld F.DIO_DO_CFG_PAIR (x / 2)) then [p, p + 1]
  else [x]

def doLead (s : State) (x : Nat) : Nat := (doGroup s x).headD x

/-- The commanding members. -/
def doLeads (s : State) : List Nat := (List.range 8).filter (fun x => doLead s x == x)

/-- A fault bit at each member of a group (R460). -/
def doMark (f : Fld) (x : Nat) (b : Bool) (s : State) : State :=
  (doGroup s x).foldl (fun s m => s.setB (bitFld f m) b) s

def doHas (s : State) (f : Fld) (x : Nat) : Bool := (doGroup s x).any (fun m => s.flag (bitFld f m))

/-! ## Thermal PWM (R452) -/

/-- Is an output driven by the thermal duty? -/
def isPwm (s : State) (x : Nat) : Bool :=
  !s.flag (bitFld F.DIO_DO_CFG_QUAD 1) &&
    ((x == 6 && s.flag F.DIO_DO_CFG_FUNC6) ||
      (x == 7 && s.flag F.DIO_DO_CFG_FUNC7 && !s.flag (bitFld F.DIO_DO_CFG_PAIR 3)))

def pwmDuty (s : State) (x : Nat) : Nat := if x = 6 then s.get F.THM_DUTY_DUTY6 else s.get F.THM_DUTY_DUTY7

/-- The next cycle of a period: a new one takes frequency and duty, in whole cycles. -/
def pwmNext (s : State) (x : Nat) (p : DioPwm) : DioPwm :=
  if p.pos + 1 < p.period then { p with pos := p.pos + 1 }
  else
    let f := max 1 (s.get F.DIO_PWM_FREQ)
    let n := (roundQ ((10000 : Rat) / ((f : Nat) : Rat))).toNat
    ⟨0, n, (roundQ (((pwmDuty s x * n : Nat) : Rat) / 100)).toNat⟩

def pwmCycle (s : State) : State :=
  let d := s.dio
  setDio { d with
    pwm6 := if isPwm s 6 then pwmNext s 6 d.pwm6 else {}, pwm7 := if isPwm s 7 then pwmNext s 7 d.pwm7 else {} } s

def pwmOf (s : State) (x : Nat) : DioPwm := if x = 6 then s.dio.pwm6 else s.dio.pwm7

def pwmOn (s : State) (x : Nat) : Bool := let p := pwmOf s x; decide (p.pos < p.on)

/-! ## Fail states (R446) -/

def failActive (s : State) : Bool := s.direct || s.dio.warm || s.flag F.DIO_DO_STATE_TMO_ACTIVE

/-- What an output is commanded to. An output in thermal PWM keeps its duty under `hold` (DEDUCED, log entry 49). -/
def doWant (s : State) (x : Nat) : Bool :=
  if failActive s then
    match s.get ⟨0x32044, 2 * x, 2⟩ with
    | 0 => false
    | 1 => if isPwm s x then pwmOn s x else s.dio.held / 2 ^ x % 2 == 1
    | _ => true
  else if isPwm s x then pwmOn s x
  else s.flag (bitFld F.DIO_DO_SET_ON x)

/-- Are the outputs powered and released (R446)? In BOOT they are off, but for the fail states of a warm reset. -/
def doPowered (s : State) : Bool := hostPowered s && (s.st != stBoot || s.dio.warm)

/-- Is the switch held off by a fault or a test? -/
def doHeldOff (s : State) (x : Nat) : Bool :=
  let retry := s.dio.retry.any (fun e => e.1 == x)
  ((doHas s F.DIO_DO_FAULT_SHORT x || doHas s F.DIO_DO_FAULT_THERM x) && !retry) ||
    doHas s F.DIO_DO_FAULT_EXT x || doHas s F.DIO_DO_FAULT_CROSS x ||
    s.dio.test.any (fun t => t.off == x || t.cur == some x)

/-- The switches follow the commands written before this cycle start (R436, R443). -/
def doApply (s : State) : State :=
  let s := s.setB F.DIO_DO_STATE_FAIL_ACTIVE (failActive s)
  let one (s : State) (x : Nat) : State :=
    let on := doPowered s && doWant s x && !doHeldOff s x
    let was := s.flag (bitFld F.DIO_DO_STATE_ACTUAL x)
    let s := doMark F.DIO_DO_STATE_ACTUAL x on s
    if was && !on then { s with dio := { s.dio with offAt := tabSet s.dio.offAt x s.time } } else s
  let s := (doLeads s).foldl one s
  if failActive s then s else { s with dio := { s.dio with held := s.get F.DIO_DO_SET_ON } }

/-! ## Short circuit and over-temperature (R447, R448) -/

def inLimit (s : State) (x : Nat) : Bool := doHas s F.DIO_DO_STATE_LIMIT x

/-- A group is switched off. -/
def doOff (x : Nat) (s : State) : State :=
  let s := if s.flag (bitFld F.DIO_DO_STATE_ACTUAL x) then
    { s with dio := { s.dio with offAt := tabSet s.dio.offAt x s.time } } else s
  let s := { s with dio := { s.dio with retry := tabDel s.dio.retry x, limRun := tabDel s.dio.limRun x } }
  doMark F.DIO_DO_STATE_ACTUAL x false s

/-- 5 ms in current limit (R447). -/
def doShort (x : Nat) (s : State) : State :=
  if 50 ≤ tabGet s.dio.limRun x 0 ∧ doHas s F.DIO_DO_FAULT_SHORT x = false then
    causeRec C.DO_SHORT sevWarning [] (doMark F.DIO_DO_FAULT_SHORT x true (doOff x s))
  else s

/-- DO_SHORT (R447). -/
def execDoShort (x : Nat) (s : State) : Host.Outcome State Fault Refusal :=
  finish (if x < 8 then doShort (doLead s x) s else s)

/-- The current-limit run of an output: continuous, or for thermal PWM added up until 100 ms pass without limit. -/
def limitCycle (s : State) (x : Nat) : State :=
  let d := s.dio
  let lim := inLimit s x && s.flag (bitFld F.DIO_DO_STATE_ACTUAL x)
  let keep := isPwm s x && decide (s.time < tabGet d.limLast x 0 + 100 * ms)
  let s := setDio { d with
    limRun := if lim then tabSet d.limRun x (tabGet d.limRun x 0 + 1) else if keep then d.limRun else tabDel d.limRun x
    limLast := if lim then tabSet d.limLast x s.time else d.limLast } s
  doShort x s

/-- A retry under way (R447, R448): out of limit clears SHORT, 5 ms in limit end it, 1 s on clears THERM. A command to
switch off ends it with the fault unchanged (DEDUCED, log entry 164). -/
def retryCycle (s : State) (x : Nat) : State :=
  match s.dio.retry.lookup x with
  | none => s
  | some t =>
    if s.time ≤ t then s
    else if !s.flag (bitFld F.DIO_DO_STATE_ACTUAL x) then
      if isPwm s x || doWant s x then s else { s with dio := { s.dio with retry := tabDel s.dio.retry x } }
    else if doHas s F.DIO_DO_FAULT_SHORT x then
      if !inLimit s x then
        let s := doMark F.DIO_DO_FAULT_SHORT x false s
        if doHas s F.DIO_DO_FAULT_THERM x then s else { s with dio := { s.dio with retry := tabDel s.dio.retry x } }
      else if t + 5 * ms ≤ s.time then doOff x s
      else s
    else if t + sec ≤ s.time then
      doMark F.DIO_DO_FAULT_THERM x false { s with dio := { s.dio with retry := tabDel s.dio.retry x } }
    else s

/-- DO_RETRY (R447, R448): at the first cycle start after a management tick; `cool` names the switches whose junction
has fallen below 135 °C. -/
def execDoRetry (cool : BitVec 8) (s : State) : Host.Outcome State Fault Refusal :=
  finish (if s.dio.retryDue then
    let s := { s with dio := { s.dio with retryDue := false } }
    let due (x : Nat) : Bool := doWant s x && (s.dio.retry.lookup x).isNone &&
      (doHas s F.DIO_DO_FAULT_SHORT x || doHas s F.DIO_DO_FAULT_THERM x) &&
      (!doHas s F.DIO_DO_FAULT_THERM x || (doGroup s x).all (fun m => cool.getLsbD m))
    let l := (doLeads s).filter due
    doApply { s with dio := { s.dio with retry := l.foldl (fun r x => tabSet r x s.time) s.dio.retry } }
  else s)

/-- DO_THERMAL (R448): a switch turns itself off at its junction limit. -/
def execDoThermal (x : Nat) (s : State) : Host.Outcome State Fault Refusal :=
  finish (if x < 8 ∧ hostPowered s then
    let g := doLead s x
    let was := doHas s F.DIO_DO_FAULT_THERM g
    let s := doMark F.DIO_DO_FAULT_THERM g true (doOff g s)
    if was then s else causeRec C.DO_THERMAL sevWarning [] s
  else s)

/-! ## External drive and cross-wiring (R449 to R451) -/

def readsHigh (s : State) (x : Nat) : Bool := doHas s F.DIO_DO_STATE_READBACK x

/-- May an off output's readback be examined now? -/
def extWatch (s : State) (x : Nat) : Bool :=
  let off := !s.flag (bitFld F.DIO_DO_STATE_ACTUAL x) &&
    (if isPwm s x then pwmDuty s x == 0 && !(pwmOn s x) else !doWant s x)
  off && !doHas s F.DIO_DO_FAULT_EXT x && !doHas s F.DIO_DO_FAULT_CROSS x &&
    (match s.dio.offAt.lookup x with | some t => decide (t + 10 * ms ≤ s.time) | none => true)

/-- Candidates: outputs that are on and not grouped with `j`; one in thermal PWM only at 100 %. -/
def crossCands (s : State) (j : Nat) : List Nat :=
  (doLeads s).filter (fun i => i != j && s.flag (bitFld F.DIO_DO_STATE_ACTUAL i) &&
    (!isPwm s i || pwmDuty s i == 100))

/-- No partner is found: external drive (R449). -/
def extFound (j : Nat) (s : State) : State :=
  let d := s.dio
  let s := setDio { d with test := none, extRun := [], extLow := tabDel d.extLow j } s
  causeRec C.DO_EXT_DRIVE sevWarning [] (doMark F.DIO_DO_FAULT_EXT j true s)

/-- An output commanded off has read high for 2 ms: the test starts, or without a candidate it is external drive. -/
def extStart (j : Nat) (s : State) : State :=
  if 20 ≤ tabGet s.dio.extRun j 0 ∧ s.dio.test.isNone ∧ fieldLow s = false then
    match crossCands s j with
    | [] => extFound j s
    | l => { s with dio := { s.dio with test := some { off := j, cands := l, since := s.time + 25000 } } }
  else s

/-- DO_EXT_DRIVE (R449). -/
def execDoExtDrive (x : Nat) (s : State) : Host.Outcome State Fault Refusal :=
  finish (if x < 8 then extStart (doLead s x) s else s)

/-- 100 ms of low readback end external drive. -/
def extClear (x : Nat) (s : State) : State :=
  if 1000 ≤ tabGet s.dio.extLow x 0 then doMark F.DIO_DO_FAULT_EXT x false s else s

/-- EXT_CLEAR (R449). -/
def execExtClear (x : Nat) (s : State) : Host.Outcome State Fault Refusal :=
  finish (if x < 8 then extClear (doLead s x) s else s)

/-- The end of a candidate's pulse (R450): the pair is found, or the next candidate follows one cycle later. -/
def pulseEnd (s : State) : State :=
  match s.dio.test with
  | none => s
  | some t =>
    match t.cur with
    | none => s
    | some i =>
      let s := s.at (t.since + 100000)
      if t.high || readsHigh s t.off then
        if t.cands.isEmpty then extFound t.off s
        else { s with dio := { s.dio with test := some { t with cur := none, since := s.time + 25000, high := false } } }
      else
        let s := { s with dio := { s.dio with test := none, extRun := [], pairs := s.dio.pairs ++ [(i, t.off)] } }
        let s := doMark F.DIO_DO_FAULT_CROSS t.off true (doMark F.DIO_DO_FAULT_CROSS i true s)
        let s := ((s.set F.DIO_DO_CROSS_ON_CH i).set F.DIO_DO_CROSS_OFF_CH t.off).setB F.DIO_DO_CROSS_VALID true
        causeRec C.DO_CROSS sevWarning (u8 i ++ u8 t.off) s

/-- CROSS_TEST_PULSE_END (R450): 400 µs after the pulse began. -/
def execCrossTestPulseEnd (s : State) : Host.Outcome State Fault Refusal := finish (pulseEnd s)

/-- The running test at a cycle: a sample of the window, the end of a pulse, or the next pulse, which never starts on
an output commanded off (R450, R451). -/
def testCycle (s : State) : State :=
  match s.dio.test with
  | none => s
  | some t =>
    match t.cur with
    | some _ =>
      let t := if t.since + 25000 ≤ s.time ∧ readsHigh s t.off then { t with high := true } else t
      let s := { s with dio := { s.dio with test := some t } }
      if t.since + 100000 ≤ s.time then pulseEnd s else s
    | none =>
      if s.time < t.since then s
      else
        match t.cands.dropWhile (fun i => !doWant s i) with
        | [] => extFound t.off s
        | i :: l => { s with dio := { s.dio with test := some { t with cur := some i, cands := l, since := s.time, high := false } } }

/-- While LOW no output fault is evaluated: a test under way is dropped, and the outputs follow their commands (R435; DEDUCED,
log entry 164). -/
def testStop (s : State) : State := setDio { s.dio with test := none, extRun := [] } s

/-- External drive of one output at a cycle; nothing is examined while a test runs. -/
def extCycle (s : State) (x : Nat) : State :=
  let d := s.dio
  let high := readsHigh s x
  let s := setDio { d with
    extRun := runStep (d.test.isNone && extWatch s x && high) x d.extRun
    extLow := runStep (doHas s F.DIO_DO_FAULT_EXT x && !high) x d.extLow } s
  extStart x (extClear x s)

/-! ## The cycle (R436) -/

/-- Readback with its hysteresis (R442), from the terminal voltage in 0.01 V. -/
def readback (outVolts : List Nat) (s : State) (x : Nat) : State :=
  let v := getAt outVolts x 0
  if 1100 ≤ v then s.setB (bitFld F.DIO_DO_STATE_READBACK x) true
  else if v ≤ 500 then s.setB (bitFld F.DIO_DO_STATE_READBACK x) false
  else s

/-- DIO_CYCLE (R436): input currents in 0.01 mA, output voltages and L+ in 0.01 V, outputs in current limit. In SHIP
and OASIS nothing is powered. -/
def execDioCycle (currents outVolts : List Nat) (limit : BitVec 8) (volt : BitVec 16) (s : State) :
    Host.Outcome State Fault Refusal :=
  finish (if hostPowered s then
    let s := supplyCycle volt.toNat (s.tick tkDio 25000)
    let s := (List.range 16).foldl (diCycle currents) s
    let s := ((List.range 8).foldl (readback outVolts) s).set F.DIO_DO_STATE_LIMIT limit.toNat
    let s := (doLeads s).foldl limitCycle s
    let s := (doLeads s).foldl retryCycle s
    let s := if fieldLow s then testStop s else (doLeads s).foldl extCycle (testCycle s)
    doApply (pwmCycle s)
  else s)

/-! ## Commands -/

/-- A write of DIO_DO_SET restarts the host timeout (R443, R446). -/
def doSetWrite (o : Origin) (v : Word) (s : State) : State × WRes :=
  let s := storeWord o 0x32040 (v &&& 0xFF) s
  ({ s with dio := { s.dio with setAt := s.time } }.setB F.DIO_DO_STATE_TMO_ACTIVE false, .ok)

/-- DIO_DO_SET_WRITE (R443). -/
def execDioDoSetWrite (p : Path) (value : BitVec 32) (s : State) : Host.Outcome State Fault Refusal :=
  finish (withWrite p 0x32040 value (doSetWrite (Path.origin p) value) s)

/-- DO_HOST_TIMEOUT (R446): TMO ms without a write; direct mode and the reset fail states do not stop it. -/
def execDoHostTimeout (s : State) : Host.Outcome State Fault Refusal :=
  let t := s.get F.DIO_DO_TMO_TMO
  finish (if t ≠ 0 ∧ s.flag F.DIO_DO_STATE_TMO_ACTIVE = false ∧ hostPowered s then
    let s := (s.at (s.dio.setAt + t * ms)).setB F.DIO_DO_STATE_TMO_ACTIVE true
    addRec sevWarning 0x0C 0x0010 (u8 (s.get F.DIO_DO_SET_ON)) s
  else s)

/-- A 1 to the bit of either output clears the pair that holds it (R450, R461); VALID clears with the recorded pair. -/
def crossAck (v : Word) (s : State) : State × WRes :=
  let hit (e : Nat × Nat) : Bool := ((doGroup s e.1) ++ (doGroup s e.2)).any (fun x => bitOf v x)
  let shown := (s.get F.DIO_DO_CROSS_ON_CH, s.get F.DIO_DO_CROSS_OFF_CH)
  let s := (s.dio.pairs.filter hit).foldl (fun s (e : Nat × Nat) =>
    doMark F.DIO_DO_FAULT_CROSS e.2 false (doMark F.DIO_DO_FAULT_CROSS e.1 false s)) s
  let l := s.dio.pairs.filter (fun e => !hit e)
  let s := setDio { s.dio with pairs := l } s
  (if l.contains shown then s else s.setB F.DIO_DO_CROSS_VALID false, .ok)

/-- CROSS_ACK (R461). -/
def execCrossAck (p : Path) (value : BitVec 32) (s : State) : Host.Outcome State Fault Refusal :=
  finish (withWrite p 0x32058 value (crossAck value) s)

/-! ## PT1000 inputs (R453) -/

def ptFaulted (s : State) (x : Nat) : Bool := s.flag (F.DIO_PT_OPEN x) || s.flag (F.DIO_PT_SHORT x)

/-- One sample: open above 220.0 °C, short below −60.0 °C; three in a row count. -/
def ptSample (ohms : List Nat) (s : State) (x : Nat) : State :=
  let lead : Rat := ((s.get ⟨0x32080, 8 * x, 8⟩ : Nat) : Rat) / 10
  let t := roundQ (10 * Config.pt1000 (calibrated s (7 + x) ((getAt ohms x 0 : Nat) : Rat) / 100 - lead))
  let opn := decide (2200 < t)
  let sht := decide (t < -600)
  let d := s.dio
  let s := setDio { d with
    ptBad := runStep (opn || sht) x d.ptBad, ptGood := runStep (!opn && !sht) x d.ptGood } s
  let bad := tabGet s.dio.ptBad x 0
  if opn || sht then
    if 3 ≤ bad ∧ ptFaulted s x = false then
      let s := ((s.setB (F.DIO_PT_OPEN x) opn).setB (F.DIO_PT_SHORT x) sht).setB (F.DIO_PT_VALID x) false
      if s.get ⟨0x23000, 8 + 2 * x, 2⟩ = 0 then s else causeRec C.PT1000_FAULT sevWarning [] s
    else s
  else if ptFaulted s x && decide (tabGet s.dio.ptGood x 0 < 3) then s
  else
    let s := ((s.setB (F.DIO_PT_OPEN x) false).setB (F.DIO_PT_SHORT x) false).setB (F.DIO_PT_VALID x) true
    s.setI (F.DIO_PT_TEMP x) t

/-- PT1000_SAMPLE (R453): every 100 ms, the loop resistances in 0.01 Ω. -/
def execPt1000Sample (ohms : List Nat) (s : State) : Host.Outcome State Fault Refusal :=
  finish (if hostPowered s then (List.range 4).foldl (ptSample ohms) s else s)

end Sys2Proof.Machine
end

