-- ==== Sys2Proof/Machine/Thm.lean ====
section
/-!
DEFINITION. Thermal management (chapter 11): temperature points, the scan with its throttle, shutdown, release and die
protection, the curves of DO6 and DO7, and the chiller.
-/

namespace Sys2Proof.Machine

def setThm (t : Thm) (s : State) : State := { s with thm := t }

/-! ## Points (R362, R363) -/

/-- Group of a point: 0 CELL, 1 PST, 2 AUX, 3 DIE. -/
def ptGroup (p : Nat) : Nat := if p < 144 then 0 else if p < 148 then 2 else if p < 154 then 1 else 3

/-- Thresholds of a group (R376): T_SHUT, T_THR, T_RESTART. -/
def grpShut (s : State) (g : Nat) : Int := s.getI ⟨0x23010 + 8 * g, 16, 16⟩
def grpThr (s : State) (g : Nat) : Int := s.getI ⟨0x23010 + 8 * g, 0, 16⟩
def grpRestart (s : State) (g : Nat) : Int := s.getI ⟨0x23014 + 8 * g, 0, 16⟩

/-- A throttling point: CELL, PST, and AUX where AUX_THR has its bit. -/
def throttling (s : State) (p : Nat) : Bool :=
  ptGroup p == 0 || ptGroup p == 1 || (ptGroup p == 2 && s.flag ⟨0x23000, 16 + (p - 144), 1⟩)

/-- NTC `i` of board `k` in the mirror: two in each of words 8 and 9, the lower one in the low half (R127). -/
def ntcWord (s : State) (k i : Nat) : Option Int :=
  match s.ring.mirror.lookup (mirrorKey k (8 + i / 2)) with
  | some w => some (signed 16 (fieldOf w (16 * (i % 2)) 16))
  | none => none

/-- What a scan latches of a point. -/
inductive PtRead where
  | valid (t : Int)
  | faulted
  | none
  deriving DecidableEq, Repr

def readNtc (s : State) (k i : Nat) : PtRead :=
  if boards s < k then .faulted
  else if missing s k || !(getBrd s k).read || stBit (lastStatus s k) (12 + i) then .faulted
  else match ntcWord s k i with
    | some t => .valid t
    | none => .none

/-- The reading of point `p`; the PST and die readings come with the scan. -/
def readPoint (pst : List Int) (die : Int) (s : State) (p : Nat) : PtRead :=
  if p < 144 then readNtc s (p / 4 + 1) (p % 4)
  else if p < 148 then
    if ptFaulted s (p - 144) then .faulted
    else if s.flag (F.DIO_PT_VALID (p - 144)) then .valid (s.getI (F.DIO_PT_TEMP (p - 144))) else .none
  else if p < 154 then
    match pst[p - 148]? with
    | some t => if -400 ≤ t ∧ t ≤ 2000 then .valid t else .faulted
    | none => .none
  else .valid (roundQ (calibrated s 32 (die : Rat)))

/-- THM_PTp (R381). The die has no threshold of a group, so its three comparisons read 0 (DEDUCED, log entry 53). -/
def putPoint (p : Nat) (r : PtRead) (s : State) : State :=
  let g := ptGroup p
  match r with
  | .valid t =>
    let s := ((s.setI (F.THM_PT_TEMP p) t).setB (F.THM_PT_VALID p) true).setB (F.THM_PT_FAULTED p) false
    ((s.setB (F.THM_PT_NEAR p) (g < 3 && decide (grpThr s g - 50 ≤ t))).setB (F.THM_PT_ABOVE_THR p)
      (g < 3 && decide (grpThr s g ≤ t))).setB (F.THM_PT_ABOVE_SHUT p) (g < 3 && decide (grpShut s g ≤ t))
  | .faulted => (s.setWord (F.THM_PT_TEMP p).addr 0).setB (F.THM_PT_FAULTED p) true
  | .none => s.setWord (F.THM_PT_TEMP p).addr 0

/-- A point is latched; one that becomes faulted raises SENSOR_OPEN with its record, but on an unconfigured board
(R363). -/
def latchPoint (pst : List Int) (die : Int) (s : State) (p : Nat) : State :=
  let was := s.flag (F.THM_PT_FAULTED p)
  let r := readPoint pst die s p
  let s := putPoint p r s
  if r = .faulted ∧ was = false ∧ (144 ≤ p ∨ p / 4 < boards s) then causeRec C.SENSOR_OPEN sevWarning [] s else s

def ptValid (s : State) (p : Nat) : Bool := s.flag (F.THM_PT_VALID p)
def ptTemp (s : State) (p : Nat) : Int := s.getI (F.THM_PT_TEMP p)

/-- The valid points of a kind, rising. -/
def validPts (s : State) (f : Nat → Bool) : List Nat := (List.range 155).filter (fun p => f p && ptValid s p)

def thrPts (s : State) : List Nat := validPts s (throttling s)

def highest (s : State) (l : List Nat) : Option Int :=
  l.foldl (fun m p => some (match m with | some x => max x (ptTemp s p) | none => ptTemp s p)) none

def lowest (s : State) (l : List Nat) : Option Int :=
  l.foldl (fun m p => some (match m with | some x => min x (ptTemp s p) | none => ptTemp s p)) none

/-- Some configured board has no valid NTC (R364). -/
def ntcLost (s : State) : Bool :=
  (boardNums s).any (fun k => (List.range 4).all (fun i => !ptValid s (4 * (k - 1) + i)))

/-- Margin of a point to its T_THR. -/
def margin (s : State) (p : Nat) : Int := grpThr s (ptGroup p) - ptTemp s p

/-- The valid throttling point with the least margin; 0 without one. -/
def hotPoint (s : State) : Nat :=
  ((thrPts s).foldl (fun (m : Option Nat) p =>
    match m with | some q => if margin s p < margin s q then some p else some q | none => some p) none).getD 0

/-! ## Cell temperatures (R365) -/

def boardHot (s : State) (k : Nat) : Option Int :=
  highest s ((List.range 4).map (· + 4 * (k - 1)) |>.filter (ptValid s))

/-- TEMP of channel `j` of board `k` from its sources. -/
def channelTemp (s : State) (k j : Nat) : Option Int :=
  let p := 4 * (k - 1) + (if brdClass s k = 1 then j / 3 else j / 4)
  if p < 4 * k ∧ ptValid s p = true then some (ptTemp s p)
  else match boardHot s k with
    | some t => some t
    | none =>
      if missing s k || !(getBrd s k).read then none
      else match s.ring.mirror.lookup (mirrorKey k 10) with
        | some w => some (signed 16 (fieldOf w 0 16))
        | none => none

def mapTemps (s : State) : State :=
  let one (s : State) (n : Nat) : State :=
    match posBoard s n with
    | some (k, j) =>
      (match channelTemp s k j with
      | some t => { s with thm := { s.thm with temps := tabSet s.thm.temps n t } }
      | none => s)
    | none => s
  (positions s).foldl one s

/-! ## The throttle (R367, R368) -/

def thmStep (s : State) : Nat := s.get F.THM_STATUS_STEP

/-- The floor of R364. -/
def stepFloor (s : State) : Nat := if s.flag F.THM_STATUS_FAULT_FORCE then s.get F.THM_CFG_FAULT_STEP else 0

def stepUp (n : Nat) (s : State) : State := causeRec C.THROTTLE_STEP sevInfo [] (s.set F.THM_STATUS_STEP n)

/-- Some valid throttling point at or above its T_THR; every one at or below T_THR − 3.0 K. -/
def tooHot (s : State) : Bool := (thrPts s).any (fun p => decide (margin s p ≤ 0))
def coolEnough (s : State) : Bool := (thrPts s).all (fun p => decide (30 ≤ margin s p))

/-- The rise timer has reached 5.0 s: the step rises by one and the timer restarts (R367). -/
def throttleStep (s : State) : State :=
  match s.thm.riseAt with
  | some t =>
    if t + 5 * sec ≤ s.time then
      let s := setThm { s.thm with riseAt := some s.time } s
      if thmStep s < 8 then stepUp (thmStep s + 1) s else s
    else s
  | none => s

/-- The recovery timer has reached 30.0 s (R367). -/
def throttleRecover (s : State) : State :=
  match s.thm.fallAt with
  | some t =>
    if t + 30 * sec ≤ s.time then
      let s := setThm { s.thm with fallAt := some s.time } s
      if stepFloor s < thmStep s then
        causeRec C.THROTTLE_RECOVER sevInfo [] (s.set F.THM_STATUS_STEP (thmStep s - 1))
      else s
    else s
  | none => s

def throttle (s : State) : State :=
  if tooHot s then
    throttleStep (setThm { s.thm with riseAt := some (s.thm.riseAt.getD s.time), fallAt := none } s)
  else if coolEnough s then
    throttleRecover (setThm { s.thm with riseAt := none, fallAt := some (s.thm.fallAt.getD s.time) } s)
  else setThm { s.thm with riseAt := none, fallAt := none } s

/-- The floor lifts the step (R364; DEDUCED, log entry 54). -/
def liftStep (s : State) : State := if thmStep s < stepFloor s then stepUp (stepFloor s) s else s

/-! ## Shutdown (R369, R370, R381) -/

/-- The words of the shutdown record, with VALID as 0 and without the CRC. -/
def shutWords (p cause state : Nat) (value : Int) (s : State) : List Word :=
  let secs := if timeValid s then sysSeconds s else 0
  let temp (q : Nat) : Word :=
    if ptValid s q then BitVec.ofInt 32 (ptTemp s q) &&& 0xFFFF else 0x8000
  let pair (i : Nat) : Word :=
    temp (2 * i) ||| ((if 2 * i + 1 < 155 then temp (2 * i + 1) else 0) <<< 16)
  [s.word 0x23600 + 1, BitVec.ofNat 32 s.sys.opSec, BitVec.ofNat 32 s.time, BitVec.ofNat 32 (s.time / 2 ^ 32),
    BitVec.ofNat 32 secs, BitVec.ofNat 32 (secs / 2 ^ 32), BitVec.ofNat 32 (p + 2 ^ 16 * cause + 2 ^ 24 * state),
    BitVec.ofInt 32 value &&& 0xFFFF] ++ (List.range 78).map pair

/-- The record replaces the previous one (R370). -/
def writeShut (p cause state : Nat) (value : Int) (s : State) : State :=
  let ws := shutWords p cause state value s
  let crc := crc32c ((ws.map (fun w => u32 w.toNat)).flatten)
  let put (s : State) (e : Word × Nat) : State := s.setWord (0x23600 + 4 * e.2) e.1
  let s := ws.zipIdx.foldl put s
  (s.setWord 0x23758 (BitVec.ofNat 32 crc)).set ⟨0x2361C, 16, 8⟩ 1

/-- A thermal shutdown: the demand first, then the latch, the step and the records (R369). -/
def shutdown (p cause : Nat) (value : Int) (s : State) : State :=
  let state := s.st
  let s := if state = stRun ∨ state = stPrecharge then demandScs 0x0A s else sei 0x0A s
  let s := (s.setB F.THM_STATUS_SHUT_LATCH true).setB F.THM_STATUS_RELEASE_READY false
  let s := if thmStep s = 8 then s else addRec sevInfo 0x0A 0x0000 [] (s.set F.THM_STATUS_STEP 8)
  let s := causeRec C.SHUTDOWN sevSafety (u16 p ++ u16 (unsigned 16 value) ++ u8 state) s
  writeShut p cause state value s

/-- The valid throttling points at or above their T_SHUT, and the one furthest above. -/
def overPts (s : State) : List Nat := (thrPts s).filter (fun p => decide (grpShut s (ptGroup p) ≤ ptTemp s p))

def overMost (s : State) (l : List Nat) : Option Nat :=
  l.foldl (fun (m : Option Nat) p =>
    match m with
    | some q => if ptTemp s q - grpShut s (ptGroup q) < ptTemp s p - grpShut s (ptGroup p) then some p else some q
    | none => some p) none

/-- The second consecutive scan with a point above begins a shutdown, while none is latched (DEDUCED, log entry 54). -/
def shutCheck (s : State) : State :=
  let l := overPts s
  let die := ptTemp s 154
  let s := setThm { s.thm with
    aboveRun := if l.isEmpty then 0 else s.thm.aboveRun + 1
    dieRun := if 1250 ≤ die then s.thm.dieRun + 1 else 0 } s
  if s.flag F.THM_STATUS_SHUT_LATCH then s
  else if 2 ≤ s.thm.aboveRun then
    match overMost s l with
    | some p => shutdown p 1 (ptTemp s p) s
    | none => s
  else if 2 ≤ s.thm.dieRun then shutdown 154 2 die s
  else s

/-! ## Release (R371) -/

/-- Every valid point of the three groups below its T_RESTART and the die below 100.0 °C. -/
def allCool (s : State) : Bool :=
  (validPts s (fun p => ptGroup p != 3)).all (fun p => decide (ptTemp s p < grpRestart s (ptGroup p))) &&
    decide (ptTemp s 154 < 1000)

/-- 600 s have passed: RELEASE_READY sets. -/
def releaseReady (s : State) : State :=
  match s.thm.coldAt with
  | some t =>
    if t + 600 * sec ≤ s.time ∧ s.flag F.THM_STATUS_FAULT_FORCE = false ∧
        s.flag F.THM_STATUS_RELEASE_READY = false then
      raise C.RELEASE_READY (s.setB F.THM_STATUS_RELEASE_READY true)
    else s
  | none => s

def releaseCheck (s : State) : State :=
  let s := if allCool s then releaseReady (setThm { s.thm with coldAt := some (s.thm.coldAt.getD s.time) } s)
    else (setThm { s.thm with coldAt := none } s).setB F.THM_STATUS_RELEASE_READY false
  s.set F.THM_RESTART_S_VALUE (match s.thm.coldAt with | some t => min 600 ((s.time - t) / sec) | none => 0)

/-! ## The die (R372) -/

def dieCheck (s : State) : State :=
  let t := ptTemp s 154
  if 1100 ≤ t ∧ s.flag F.THM_STATUS_DIE_HOT = false then
    causeRec C.DIE_HOT sevWarning [] (s.setB F.THM_STATUS_DIE_HOT true)
  else if t < 1000 then s.setB F.THM_STATUS_DIE_HOT false
  else s

/-! ## The curves (R373) -/

/-- Base of a curve's fields: 0 for DO6, 1 for DO7. -/
def coolFld (o lo n : Nat) : Fld := ⟨0x23030 + 4 * o, lo, n⟩

def coolMin (s : State) (o : Nat) : Nat := if o = 0 then s.get F.THM_COOL_MIN_DMIN6 else s.get F.THM_COOL_MIN_DMIN7

/-- Input `x` has ROLE 2. -/
def outletRole (s : State) (x : Nat) : Bool := s.get ⟨0x23000, 8 + 2 * x, 2⟩ == 2

def curveSource (s : State) (src : Nat) : Option Int :=
  match src with
  | 0 => highest s (validPts s (fun p => ptGroup p == 0))
  | 1 => lowest s (validPts s (fun p => ptGroup p == 0))
  | 2 => highest s (validPts s (fun p => ptGroup p == 1))
  | _ => highest s (validPts s (fun p => ptGroup p == 2 && outletRole s (p - 144)))

/-- On and duty of curve `o` after `was`: x in tenths of a kelvin over SPAN. -/
def curveNext (s : State) (o : Nat) (was : Bool) : Bool × Nat :=
  let mode := s.get (coolFld o 30 2)
  if mode = 1 ∨ mode = 2 then
    match curveSource s (s.get (coolFld o 28 2)) with
    | none => if mode = 1 then (true, 100) else (false, 0)
    | some t =>
      let start := s.getI (coolFld o 0 16)
      let d := if mode = 1 then t - start else start - t
      let on := decide (0 < d) || (was && decide (-20 < d))
      let x : Rat := (d : Rat) / ((max 1 (s.get (coolFld o 16 8)) : Nat) : Rat)
      let lo : Rat := ((coolMin s o : Nat) : Rat) / 100
      (on, if on then (roundQ (100 * minQ 1 (maxQ lo x))).toNat else 0)
  else (false, 0)

/-- The duties follow the curves, but while COOL_TEST sets them (R383). -/
def showDuties (s : State) : State :=
  if s.thm.testEnd.isSome then s
  else (s.set F.THM_DUTY_DUTY6 s.thm.curve6.2).set F.THM_DUTY_DUTY7 s.thm.curve7.2

def curves (s : State) : State :=
  showDuties (setThm { s.thm with
    curve6 := curveNext s 0 s.thm.curve6.1, curve7 := curveNext s 1 s.thm.curve7.1 } s)

/-! ## The chiller (R374) -/

def chlPeriod (s : State) : Nat := s.get F.THM_CHL_PERIOD * 100 * ms

/-- COOL_FAULT sets: no reply for 5 periods, or two consecutive replies with FAULT. -/
def coolFault (s : State) : State :=
  if s.flag F.THM_STATUS_COOL_FAULT then s
  else causeRec C.COOLANT_FAULT sevWarning [] (setThm { s.thm with goods := 0 } (s.setB F.THM_STATUS_COOL_FAULT true))

/-- Do no reply for 5 periods or two faulty replies stand? -/
def coolDue (s : State) : Bool :=
  s.flag F.THM_CHL_EN &&
    (decide (2 ≤ s.thm.faults) ||
      (match s.thm.replyAt with | some t => decide (t + 5 * chlPeriod s ≤ s.time) | none => false))

def coolCheck (s : State) : State :=
  if s.flag F.THM_CHL_EN then (if coolDue s then coolFault s else s)
  else setThm { s.thm with reqAt := none, replyAt := none, faults := 0 } s

/-- COOLANT_FAULT (R374): the 5 periods end, or the second faulty reply stands. -/
def execCoolantFault (s : State) : Host.Outcome State Fault Refusal :=
  finish (if s.flag F.THM_CHL_EN && s.awake && supActs s then
    if coolDue s then coolFault s
    else match s.thm.replyAt with
      | some t => coolFault (s.at (t + 5 * chlPeriod s))
      | none => s
  else s)

/-- Mode and demand of a request: the cooling curve with the larger duty, else the heating one. -/
def chlDemand (s : State) : Nat × Nat :=
  let best (mode : Nat) : Option Nat :=
    let one (o : Nat) (c : Bool × Nat) : Option Nat :=
      if s.get (coolFld o 30 2) == mode && c.1 then some c.2 else none
    match one 0 s.thm.curve6, one 1 s.thm.curve7 with
    | some a, some b => some (max a b)
    | some a, none => some a
    | none, b => b
  match best 1 with
  | some d => (1, d)
  | none => match best 2 with
    | some d => (2, d)
    | none => (0, Config.unstated 3 s.thm.alive)

/-- The 8 bytes of a request. What R374 does not state (demand and setpoint in mode 0, a temperature without a valid
point) is a free value (DESIGN CHOICE, log entry 41). -/
def chlFrame (s : State) : List Byte :=
  let m := chlDemand s
  let set := if m.1 = 1 then s.get F.THM_CHL_SET_SET_COOL else if m.1 = 2 then s.get F.THM_CHL_SET_SET_HEAT
    else Config.unstated 4 s.thm.alive
  let cells := validPts s (fun p => ptGroup p == 0)
  let t (x : Option Int) : Nat := match x with | some v => unsigned 16 v | none => Config.unstated 5 s.thm.alive
  u8 (m.1 + 16 * s.thm.alive) ++ u8 m.2 ++ u16 set ++ u16 (t (highest s cells)) ++ u16 (t (lowest s cells))

/-- CHILLER_REQUEST (R374): every PERIOD, from EN on. The 5 periods of COOLANT_FAULT run from the first request. -/
def execChillerRequest (s : State) : Host.Outcome State Fault Refusal :=
  finish (if s.flag F.THM_CHL_EN && s.awake && supActs s && canOn s .canb then
    let s := match s.thm.reqAt with | some t => s.at (t + chlPeriod s) | none => s
    let f : CanFrame := ⟨8, false, false, false, chlFrame s, 0⟩
    let t := s.thm
    txPut .canb 31 f (setThm { t with
      reqAt := some s.time, alive := (t.alive + 1) % 16, replyAt := some (t.replyAt.getD s.time) } s)
  else s)

/-- CHILLER_REPLY (R374): receive object 63 of CANB takes it too. -/
def execChillerReply (data : List Byte) (s : State) : Host.Outcome State Fault Refusal :=
  finish (if s.flag F.THM_CHL_EN && canOn s .canb && (data.length ≤ 8 || canFdEn s .canb) then
    let id := ownerWord (s.word F.THM_CHL_RXID_ID.addr)
    let f : CanFrame := ⟨data.length, decide (8 < data.length), false, false, data, s.time⟩
    let s := canIn .canb id.1 id.2 f s
    let bad := bitOf (BitVec.ofNat 32 (numAt data 0 1)) 1
    let t := s.thm
    let s := setThm { t with
      replyAt := some s.time
      faults := if bad then t.faults + 1 else 0
      goods := if bad then 0 else t.goods + 1 } s
    if coolDue s then coolFault s
    else if 5 ≤ s.thm.goods then s.setB F.THM_STATUS_COOL_FAULT false
    else s
  else s)

/-! ## The scan (R366) -/

/-- FAST and NEAR_LIMIT. -/
def fastCheck (s : State) : State :=
  let near := (thrPts s).any (fun p => decide (margin s p ≤ 50))
  let was := s.flag F.THM_STATUS_FAST
  let s := s.setB F.THM_STATUS_FAST near
  if near && !was then raise C.NEAR_LIMIT s else s

/-- A COOL_TEST whose hold is over ends, and the curves resume (R383). -/
def testDue (s : State) : State :=
  match s.thm.testEnd with
  | some t => if t ≤ s.time then showDuties (setThm { s.thm with testEnd := none } s) else s
  | none => s

/-- One scan on the latched readings, 0.1 °C. -/
def scanThermal (pst : List Int) (die : Int) (s : State) : State :=
  let s := mapTemps ((List.range 155).foldl (latchPoint pst die) s)
  let s := s.setB F.THM_STATUS_FAULT_FORCE (ntcLost s)
  let s := s.set F.THM_STATUS_FAULT_CNT ((List.range 155).countP (fun p => s.flag (F.THM_PT_FAULTED p)))
  let s := s.set F.THM_STATUS_HOT_POINT (hotPoint s)
  let s := liftStep (throttle s)
  let s := dieCheck (fastCheck s)
  let s := releaseCheck (shutCheck s)
  coolCheck (curves (testDue s))

/-- Spacing of scans. -/
def scanPeriod (s : State) : Nat := if s.flag F.THM_STATUS_FAST then 100 * ms else sec

/-- THROTTLE_STEP, THROTTLE_RECOVER and RELEASE_READY (R367, R371), as the scan that finds them does them. -/
def execThrottleStep (s : State) : Host.Outcome State Fault Refusal :=
  finish (if s.awake && supActs s then throttleStep s else s)
def execThrottleRecover (s : State) : Host.Outcome State Fault Refusal :=
  finish (if s.awake && supActs s then throttleRecover s else s)
def execReleaseReady (s : State) : Host.Outcome State Fault Refusal :=
  finish (if s.awake && supActs s then releaseReady s else s)

/-! ## Opcodes (R383) -/

def doThermalRelease (c : Ctx) (s : State) : State :=
  if s.flag F.THM_STATUS_SHUT_LATCH = false then replyOk c 0x0700 [] s
  else if s.flag F.THM_STATUS_RELEASE_READY then
    let s := s.setB F.THM_STATUS_SHUT_LATCH false
    replyOk c 0x0700 [] (addRec sevNotice 0x0A 0x0010 (originBytes (Ctx.origin c)) s)
  else replyForbids c 0x0700 s

/-- THERMAL_RELEASE (R371, R383). -/
def execThermalRelease (c : Ctx) (s : State) : Host.Outcome State Fault Refusal :=
  finish (withCmd c 0x0700 (doThermalRelease c) s)

def doCoolTest (c : Ctx) (d6 d7 hold : Nat) (s : State) : State :=
  if 100 < d6 then replyRange c 0x0701 0 s
  else if 100 < d7 then replyRange c 0x0701 1 s
  else if hold = 0 ∨ 600 < hold then replyRange c 0x0701 2 s
  else
    let s := (s.set F.THM_DUTY_DUTY6 d6).set F.THM_DUTY_DUTY7 d7
    replyOk c 0x0701 [] (setThm { s.thm with testEnd := some (s.time + hold * sec) } s)

/-- COOL_TEST (R383). -/
def execCoolTest (c : Ctx) (duty6 duty7 : BitVec 8) (hold : BitVec 16) (s : State) : Host.Outcome State Fault Refusal :=
  finish (withCmd c 0x0701 (doCoolTest c duty6.toNat duty7.toNat hold.toNat) s)

/-- COOL_TEST_END (R383). -/
def execCoolTestEnd (s : State) : Host.Outcome State Fault Refusal :=
  finish (match s.thm.testEnd with | some t => testDue (s.at t) | none => s)

end Sys2Proof.Machine
end

