-- ==== Sys2Proof/Machine/Twl.lean ====
section
/-!
DEFINITION. The two-wire local port (R556 to R563). What the bus answers comes with the events; a bus clear brings its
own outcome: whether SDA has read high within nine pulses.
-/

namespace Sys2Proof.Machine

def twlResult (code : Nat) (s : State) : State :=
  { s.set F.TWL_STATUS_RESULT code with bus := { s.bus with twlRun := false } }

/-- BUSY: a transfer or a bus clear runs (R562). -/
def twlBusy (s : State) : State := s.setB F.TWL_STATUS_BUSY (s.bus.twlRun || s.bus.twlCycle)

/-- The bus clear (R558): it frees the bus, or STUCK sets and LCL_PWR is cycled once until the bus is free again. -/
def twlBusClear (free : Bool) (s : State) : State :=
  if free then twlBusy ({ s with bus := { s.bus with twlCycled := false } }.setB F.TWL_STATUS_STUCK false)
  else
    let s := causeRec C.TWL_STUCK sevWarning [] ((s.setB F.TWL_STATUS_STUCK true).bump F.TWL_CNT_STUCK_VALUE 1)
    twlBusy (if s.bus.twlCycled then s else { s with bus := { s.bus with twlCycle := true, twlCycled := true } })

/-- LCL_PWR, the switched supply of the sensors (R556, R561). -/
def lclPower (s : State) : Bool := hostPowered s && s.flag F.TWL_CFG_PWR_EN && !s.bus.twlCycle

/-- A bus clear on command may cycle LCL_PWR again (R558). -/
def twlClearNew (free : Bool) (s : State) : State :=
  twlBusClear free { s with bus := { s.bus with twlCycled := false, twlCycle := false } }

/-- The bytes of a transfer: the address with W, the write bytes, and the address with R where bytes are read. -/
def twlBytes (s : State) : List Byte :=
  let a := s.get F.TWL_XFER_ADDR
  let buf := ((List.range 8).map (fun w => u32 (s.get (F.TWL_WBUF_VALUE w)))).flatten
  u8 (2 * a) ++ buf.take (s.get F.TWL_XFER_WR_LEN) ++
    (if s.get F.TWL_XFER_RD_LEN = 0 then [] else u8 (2 * a + 1))

/-- A write of TWL_XFER (R556, R561): the lengths and the address are stored; GO starts the transfer. `clear` is the
outcome of the bus clear that a GO runs where it finds SDA low (R558). -/
def twlGo (o : Origin) (v : Word) (clear : Option Bool) (s : State) : State × WRes :=
  if 32 < fieldOf v 24 8 ∨ 32 < fieldOf v 16 8 then (s, .range)
  else
    let ok := !s.flag F.TWL_STATUS_BUSY && s.flag F.TWL_CFG_EN
    if bitOf v 0 && !ok then (writeRejected 0x42004 o s, .locked)
    else
      let s := storeWord o 0x42004 (v &&& 0xFFFF7F00) s
      if bitOf v 0 then
        let s := ((s.set F.TWL_STATUS_RETRIES_USED 0).set F.TWL_STATUS_RESULT 0)
        if s.flag F.TWL_STATUS_STUCK then (twlBusy (twlResult 6 s), .ok)
        else match clear with
          | some false => (twlBusClear false (twlResult 6 s), .ok)
          | _ =>
            let s := s.send (.twl (twlBytes s))
            (twlBusy { s with bus := { s.bus with twlRun := true } }, .ok)
      else (s, .ok)

/-- TWL_GO (R556). -/
def execTwlGo (p : Path) (value : BitVec 32) (clear : Option Bool) (s : State) : Host.Outcome State Fault Refusal :=
  finish (withWrite p 0x42004 value (twlGo (Path.origin p) value clear) s)

/-- TWL_TRANSFER_DONE (R556, R562): OK with the bytes read, or a NACK at a byte counted as ARB_BYTE is. -/
def execTwlTransferDone (nack : Option (BitVec 6)) (data : List Byte) (s : State) : Host.Outcome State Fault Refusal :=
  finish (if s.bus.twlRun then
    match nack with
    | some n =>
      let addr := n = 0 ∨ n.toNat = s.get F.TWL_XFER_WR_LEN + 1
      twlBusy ((twlResult (if addr then 2 else 3) s).set F.TWL_STATUS_NACK_BYTE n.toNat)
    | none =>
      let d := data.take (s.get F.TWL_XFER_RD_LEN)
      let put (s : State) (i : Nat) : State :=
        if i < d.length then s.set ⟨0x42030 + 4 * (i / 4), 8 * (i % 4), 8⟩ (numAt d i 1) else s
      twlBusy (twlResult 1 ((List.range 32).foldl put s))
  else s)

/-- TWL_ARB_LOST (R557). -/
def execTwlArbLost (byte : BitVec 6) (bit : BitVec 3) (s : State) : Host.Outcome State Fault Refusal :=
  finish (if s.bus.twlRun then
    let s := (s.set F.TWL_STATUS_ARB_BYTE byte.toNat).set F.TWL_STATUS_ARB_BIT bit.toNat
    let s := raise C.TWL_ARB_LOST (s.bump F.TWL_CNT_ARB_VALUE 1)
    let n := s.get F.TWL_STATUS_RETRIES_USED
    if n < s.get F.TWL_CFG_RETRIES then (s.set F.TWL_STATUS_RETRIES_USED (n + 1)).send (.twl (twlBytes s))
    else twlBusy (twlResult 4 s)
  else s)

/-- TWL_TIMEOUT (R556): the bus has stayed busy for 100 ms, or a target has stretched SCL for 25 ms; a bus clear
follows. -/
def execTwlTimeout (free : Bool) (s : State) : Host.Outcome State Fault Refusal :=
  finish (if s.bus.twlRun then twlBusClear free (twlResult 5 s) else s)

/-- A write of TWL_CTRL: CLEAR runs a bus clear, ABORT ends the transfer after the current byte (R558, R561). -/
def twlCtrl (v : Word) (free : Bool) (s : State) : State × WRes :=
  let s := if bitOf v 0 && s.bus.twlRun then twlBusy (twlResult 7 s) else s
  if bitOf v 1 then
    let s := if s.bus.twlRun then twlResult 7 s else s
    (twlClearNew free s, .ok)
  else (s, .ok)

/-- TWL_CLEAR (R558): a write with CLEAR at 1 and the outcome of the bus clear. -/
def execTwlClear (p : Path) (value : BitVec 32) (free : Bool) (s : State) : Host.Outcome State Fault Refusal :=
  finish (withWrite p 0x42008 value (twlCtrl value free) s)

/-- TWL_ABORT (R558): a write with ABORT at 1. -/
def execTwlAbort (p : Path) (value : BitVec 32) (s : State) : Host.Outcome State Fault Refusal :=
  finish (withWrite p 0x42008 value (twlCtrl (value &&& 1) true) s)

/-- TWL_PWR_CYCLE_END (R558): LCL_PWR has been off 100 ms and on 10 ms, and the bus clear has run once more. -/
def execTwlPwrCycleEnd (free : Bool) (s : State) : Host.Outcome State Fault Refusal :=
  finish (if s.bus.twlCycle then
    let s := { s with bus := { s.bus with twlCycle := false, twlCycled := !free } }
    twlBusy (if free then s.setB F.TWL_STATUS_STUCK false else s)
  else s)

/-- REINIT_TWL resets the controller and runs a bus clear (R65). -/
def twlReinit (free : Bool) (s : State) : State :=
  let s := if s.bus.twlRun then twlResult 7 s else s
  twlClearNew free s

end Sys2Proof.Machine
end

