-- ==== Sys2Proof/Machine/Sys.lean ====
section
/-!
DEFINITION. States, start-up and recovery (chapters 1 and 2): wakes, the end of start-up, state requests, the entry to
OASIS and SHIP, warm reset, commissioning, the re-initialise opcodes, direct mode and clock losses.
-/

namespace Sys2Proof.Machine

/-! ## Wakes and the boot ROM -/

/-- SERVICE_REQ_WAKE (R46): asserted for 100 ms in SHIP or OASIS. -/
def execServiceReqWake (b : BootPins) (s : State) : Host.Outcome State Fault Refusal :=
  finish (if s.sys.powered && (s.st == stShip || s.st == stOasis) then wake b 1 s else s)

/-- WAKE_CONTACT (R46, R51): closed for 50 ms while WAKE_EN is 1. -/
def execWakeContact (b : BootPins) (s : State) : Host.Outcome State Fault Refusal :=
  finish (if s.sys.powered && (s.st == stShip || s.st == stOasis) && s.flag F.SYS_AON_CFG_WAKE_EN then wake b 2 s
    else s)

/-- WAKE_TIMER_EXPIRY (R46, R51): the timer started at the entry expires; none while the AON clock is lost. -/
def execWakeTimerExpiry (b : BootPins) (s : State) : Host.Outcome State Fault Refusal :=
  finish (match s.sys.wakeAt with
    | some t => if (s.st = stShip ∨ s.st = stOasis) ∧ s.sys.clkLost / 2 ^ 11 % 2 = 0 then wake b 3 (s.at t) else s
    | none => s)

/-- SERVICE_REQ_RECOVERY (R54, R604): asserted for 3 s at step 2. -/
def execServiceReqRecovery (s : State) : Host.Outcome State Fault Refusal :=
  finish (match s.sys.svcWait with
    | some t => enterRecovery 1 (s.at (t + 3 * sec))
    | none => s)

/-- SERVICE_REQ_RELEASE (R54): released `waited` counts after step 2; every later instant shifts by that. -/
def execServiceReqRelease (waited : Nat) (b : BootPins) (s : State) : Host.Outcome State Fault Refusal :=
  finish (match s.sys.svcWait with
    | some t =>
      if waited < 3 * sec then
        let s := s.at (t + waited)
        romStart 4 false (badBanks b.bad { s with sys := { s.sys with svcWait := none, bootWait := s.sys.bootWait + waited } })
      else s
    | none => s)

/-- The boot step at which a failing supervisor of BOOT stands: step 5, 7 while the ring is enumerated, then 8. -/
def bootStep (s : State) : Nat :=
  if s.flag F.CVL_STATUS_ENUM_BUSY then 7 else if s.get F.CVL_STATUS_GEN = 0 then 5 else 8

/-- A boot with a running supervisor fails (R53). -/
def bootLost (b : BootPins) (s : State) : State :=
  if s.st = stBoot ∧ s.sys.supRuns then bootFail (bootStep s) b s else s

/-- BOOT_TIMEOUT (R53): step 9 has not completed within 5 s of the zero instant, waits at step 2 left out (R54). -/
def execBootTimeout (b : BootPins) (s : State) : Host.Outcome State Fault Refusal :=
  finish (if s.sys.powered then bootLost b (if s.st = stBoot then s.at (s.sys.bootZero + s.sys.bootWait + 5 * sec) else s)
    else s)

/-- BOOT_HEARTBEAT_LOSS (R53): the supervisor heartbeat is missing for 50 ms between steps 5 and 9. -/
def execBootHeartbeatLoss (b : BootPins) (s : State) : Host.Outcome State Fault Refusal := finish (bootLost b s)

/-- Step 6 restores the learned values (R52, R246). -/
def restoreDue (s : State) : State :=
  match s.sys.restore with
  | some unc => estRestore unc { s with sys := { s.sys with restore := none } }
  | none => s

/-- Enumeration completes and CS goes on: learned values that step 6 left to restore, positions of boards with a new
serial inserted at their first valid reading (R120, R229), the boards asked for their Oasis reports (R282). The
thresholds of R402 have been written at step 3, and `found` says which boards hold them. -/
def enumFinish (v : RingView) (s : State) : State :=
  let s := enumDone v (restoreDue s)
  let new := (boardNums s).filter (fun k => present s k && s.flag (F.CVL_BRD_STATE_SERIAL_NEW (k - 1)))
  let pos := (new.map (brdPositions s)).flatten
  reportAsk { s with est := { s.est with insertValid := (s.est.insertValid ++ pos).dedup } }

/-- After the first SCAN: the causes and records of the demand that the ZSL registered in OASIS (R131). -/
def reportOasis (s : State) : State :=
  match s.sys.oasisDemand with
  | some code => demandReport code { s with sys := { s.sys with oasisDemand := none } }
  | none => s

/-- Step 8: the auxiliary contact of a contactor; one that shows it closed with its coil off is suspected of a weld
(R409, R416). -/
def auxCheck (c : Nat) (closed : Bool) (s : State) : State :=
  let fb := closed != s.flag ⟨0x31000, c, 1⟩
  let s := s.setB (konFb c) fb
  if fb && !holds s c && !(s.safe.openAt.any (fun e => e.1 == c)) then weldSet c s else s

/-- Step 9 (R28, R46, R52, R62): BOOT ends in ISOLATED, COMMISSION or STANDBY, and direct mode is left. -/
def bootDone (r : BootResult) (s : State) : State :=
  let s := restoreDue (s.at (s.sys.bootZero + r.milliseconds * ms))
  let s := [0, 1, 2].foldl (fun s c => auxCheck c (getAt r.auxClosed c false) s) s
  let s := (s.setB F.SYS_MODE_DIRECT false).set F.SYS_BOOT_FAIL_COUNT 0
  let s := s.set F.SYS_BOOT_BOOT_TIME (min 0xFFFF ((s.time - s.sys.bootZero) / ms))
  let iso := s.flag F.SAFE_STATUS_SP_LATCH || s.flag F.SAFE_STATUS_ZSL_LATCH
  let s := reportOasis (if iso then setLatches s else s)
  let new := if iso then stIsolated else if s.get F.SYS_MODE_PERSONALITY = 0 then stCommission else stStandby
  let s := raise C.BOOT_DONE (changeState new 0x08 0 inside s)
  let confirm := if s.flag F.FWU_STATUS_UNCONFIRMED ∧ s.fwu.confirmAt = none then some (s.time + 600 * sec)
    else s.fwu.confirmAt
  let s := s.set F.SYS_BOOT_BANK (s.get F.FWU_BANKS_ACT_SUP)
  { s with
    dio := { s.dio with warm := false }
    fwu := { s.fwu with confirmAt := confirm }
    est := { s.est with commCheck := s.est.commCheck || new == stCommission }
    sys := { s.sys with lastAdmit := s.time } }

/-- BOOT_DONE (R52): the ring is enumerated, or taken over, and its first SCAN has been read. -/
def execBootDone (r : BootResult) (s : State) : Host.Outcome State Fault Refusal :=
  finish (if s.st = stBoot && s.sys.supRuns && !s.flag F.CVL_STATUS_ENUM_BUSY && s.get F.CVL_STATUS_GEN != 0 then
    bootDone r s
  else s)

/-! ## OASIS and SHIP -/

/-- The module goes to sleep (R43, R50, R51, R575, R655): the reply, then everything of the ZMC off, the field outputs too
(R446); in SHIP the feed switches open as well (R631). -/
def sleepNow (code : Nat) (c : Ctx) (s : State) : State :=
  let s := if code = stOasis ∧ s.bal.handoffFail = [] then raise C.OASIS_HANDOFF s else s
  let s := replyOk c 0x0010 (u8 code) s
  let s := changeState code 0x01 code (Ctx.origin c) (s.setB F.SYS_STATE_TRANSITION false)
  let s := flushAll (((s.set F.CVL_STATUS_MODE 0).set F.CVL_STATUS_GEN 0).set F.DIO_DO_STATE_ACTUAL 0)
  let t := s.get F.SYS_AON_TIMER_TIMER
  let timed := t ≠ 0 ∧ (code = stOasis ∨ s.flag F.SYS_AON_CFG_SHIP_TIMER)
  let s := { s with sys := { s.sys with
    sleep := none, supRuns := false, wakeAt := if timed then some (s.time + t * sec) else none } }
  if code = stShip then s.setWord 0x3000 0 else s

/-- The entry completes once the boards have their targets and the AON write is done (R51, R279, R655). -/
def sleepTry (s : State) : State :=
  match s.sys.sleep with
  | some (code, c) =>
    if !s.flag (postBusy .aon) && (code == stShip || s.bal.handoff == some []) then sleepNow code c s else s
  | none => s

/-- OASIS_HANDOFF (R279): every board has acknowledged its targets or has failed to. -/
def execOasisHandoff (s : State) : Host.Outcome State Fault Refusal := finish (sleepTry s)

/-- What follows when a word has taken its posted value: a new pack loads its limits (R258), a KON_CFG write raises
PARAM_CHANGED (R432), the ZSL takes its part of a SAFE set (R419), and a new mark or threshold is compared (R578). -/
def postEffect (p : Post) (s : State) : State :=
  if p.host then s
  else if p.addr = 0x13040 then packLoaded p.origin s
  else if p.addr = 0x31000 then raise C.PARAM_CHANGED s
  else if p.addr = 0x30000 then zslTake s
  else if p.addr = 0x50040 ∨ p.addr = 0x50044 then checkNear s
  else s

/-- POSTED_WRITE_COMPLETE (R82): the mirror takes the value; an entry to OASIS or SHIP may wait for it (R51). -/
def execPostedWriteComplete (d : Domain) (s : State) : Host.Outcome State Fault Refusal :=
  finish (match takePost d s with
    | some (p, s) => sleepTry (postEffect p (applyPost p s))
    | none => s)

/-- POST_FAIL (R84): ten times the maximum completion time after the write. A failed board command abandons its write
by itself (R115). -/
def execPostFail (d : Domain) (s : State) : Host.Outcome State Fault Refusal :=
  finish (match s.sys.posts.find? (fun p => p.dom == d) with
    | some p => sleepTry (postAbandon d (s.at (p.at_ + 10 * postMax s d)))
    | none => s)

/-- STATE_REQUEST OASIS or SHIP from STANDBY (R46, R50, R51, R631). -/
def sleepStart (c : Ctx) (code timer : Nat) (s : State) : State :=
  if s.flag F.FEED_STATUS_CHG_BUSY || s.flag F.FEED_STATUS_SWAP_BUSY then replyBusy c 0x0010 1000 s
  else
    let p : Post := ⟨.aon, 0x60, 0x1FFFF, BitVec.ofNat 32 timer, Ctx.origin c, false, s.time⟩
    match postWrite p s with
    | (s, .ok) =>
      let s := { s with sys := { s.sys with sleep := some (code, c) } }.setB F.SYS_STATE_TRANSITION true
      if code = stOasis then handoffStart s else s
    | (s, r) => reply c 0x0010 (wresStatus 0 r).1 (wresStatus 0 r).2 s

/-! ## STATE_REQUEST (R46 to R48, R63, R655) -/

/-- OK with the state at this moment. -/
def reqOk (c : Ctx) (s : State) : State := replyOk c 0x0010 (u8 s.st) s

/-- STATE_FORBIDS with the present state. -/
def reqForbids (c : Ctx) (s : State) : State := reply c 0x0010 stForbids (u8 s.st) s

/-- The conditions of STATE_REQUEST RUN (R46). -/
def runConditions (s : State) : Bool :=
  !siDemanding s 0 && !siDemanding s 1 && s.flag F.CVL_WADI_TONE && !s.flag F.THM_STATUS_SHUT_LATCH &&
    !s.flag (konWeld 0) && !s.flag (konWeld 1) && !s.flag (konWeld 2)

/-- RUN: from a contactor hold at once (R58), else through precharge. -/
def requestRun (c : Ctx) (s : State) : State :=
  if runConditions s then
    if s.flag F.SYS_STATE_HOLD then
      let s := { s with sys := { s.sys with holdEnd := none } }.setB F.SYS_STATE_HOLD false
      reqOk c (changeState stRun 0x01 stRun (Ctx.origin c) s)
    else
      let s := changeState stPrecharge 0x01 stRun (Ctx.origin c) s
      let s := { s with sys := { s.sys with runCtx := some c } }.setB F.SYS_STATE_TRANSITION true
      closeContactor 1 (respond c false 0x0010 stAccepted (u8 s.st) s)
  else reqForbids c s

/-- STANDBY (R46 to R48, R58). While an entry to OASIS or SHIP waits, the request is one for the present state: OK, and
the entry goes on (DESIGN CHOICE, log entry 138). -/
def requestStandby (c : Ctx) (s : State) : State :=
  if s.sys.stop.isSome then reqOk c s
  else if s.st = stStandby then
    if s.flag F.SYS_STATE_HOLD then reqOk c (endHold s) else reqOk c s
  else if s.st = stPrecharge then
    let s := openAll { s with ctl := { s.ctl with pre := none } }
    reqOk c (runDone stForbids (changeState stStandby 0x01 stStandby (Ctx.origin c) s))
  else if s.st = stRun then controlledStop (some c) (respond c false 0x0010 stAccepted (u8 s.st) s)
  else if s.st = stTest then reqOk c (changeState stStandby 0x01 stStandby (Ctx.origin c) s)
  else reqForbids c s

/-- SAFE_STOP and ISOLATED: in RUN the demand goes to SP, elsewhere it is SEI at once (R387, R390); the change is
recorded as the request's (R49, trigger 0x01). -/
def requestSafe (c : Ctx) (code : Nat) (s : State) : State :=
  if code = stIsolated then reqOk c (seiBy 0x01 stIsolated (Ctx.origin c) 0x12 (abandonClose s))
  else if s.st = stRun then
    let s := { s with safe := { s.safe with scsCtx := s.safe.scsCtx ++ [c] } }
    demandScs 0x11 (abandonClose s)
  else reqOk c (seiBy 0x01 stSafeStop (Ctx.origin c) 0x11 (abandonClose s))

/-- The effect of STATE_REQUEST: the argument counts for OASIS and SHIP and is ignored for any other target (DESIGN
CHOICE, log entry 140). -/
def doStateRequest (c : Ctx) (code arg : Nat) (s : State) : State :=
  if 0xA < code then replyRange c 0x0010 0 s
  else if 86400 < arg then replyRange c 0x0010 1 s
  else if code = stStandby ∧ (s.st = stStandby ∨ s.sys.stop.isSome) then requestStandby c s
  else if code = s.st ∨ (code = stSafeStop ∧ s.st = stIsolated) then reqOk c s
  else if code = stStandby ∨ code = stSafeStop ∨ code = stIsolated then
    if code = stStandby then requestStandby c s else requestSafe c code s
  else if s.direct then reqForbids c s
  else if s.flag F.SYS_STATE_TRANSITION then replyBusy c 0x0010 100 s
  else if s.st ≠ stStandby then reqForbids c s
  else if code = stRun then requestRun c s
  else if s.flag F.SYS_STATE_HOLD then reqForbids c s
  else if code = stOasis ∨ code = stShip then sleepStart c code arg s
  else if code = stTest ∨ code = stCommission then
    let s := { s with est := { s.est with commCheck := s.est.commCheck || code == stCommission } }
    reqOk c (changeState code 0x01 code (Ctx.origin c) s)
  else reqForbids c s

/-- STATE_REQUEST (R63, R655). -/
def execStateRequest (c : Ctx) (target : BitVec 8) (arg : BitVec 32) (s : State) : Host.Outcome State Fault Refusal :=
  finish (withCmd c 0x0010 (doStateRequest c target.toNat arg.toNat) s)

/-- STOP_TIMEOUT (R48): |I| has not fallen below I_zero within 5 s of the request. -/
def execStopTimeout (s : State) : Host.Outcome State Fault Refusal := finish (stopTimeout s)

/-- No command admitted for 10 min in TEST (R46). -/
def testIdle (s : State) : State :=
  if s.st = stTest ∧ s.sys.lastAdmit + 600 * sec ≤ s.time then changeState stStandby 0x10 0 inside s else s

/-- TEST_TIMEOUT (R46). -/
def execTestTimeout (s : State) : Host.Outcome State Fault Refusal :=
  finish (if s.st = stTest then testIdle (s.at (s.sys.lastAdmit + 600 * sec)) else s)

/-- HOLD_TIMEOUT (R58): a contactor hold has lasted 10 s. -/
def execHoldTimeout (s : State) : Host.Outcome State Fault Refusal :=
  finish (match s.sys.holdEnd with
    | some t => if s.flag F.SYS_STATE_HOLD then endHold (s.at t) else s
    | none => s)

/-- HOLD_CURRENT (R58): |I| at or above I_zero for 10 ms during a hold. -/
def execHoldCurrent (s : State) : Host.Outcome State Fault Refusal :=
  finish (if s.flag F.SYS_STATE_HOLD ∧ 10 ≤ s.safe.holdRun then sei 0x13 s else s)

/-! ## Warm reset and recovery -/

/-- Leaving RECOVERY (R28, R607). -/
def recoveryExit (b : BootPins) (s : State) : State :=
  let s := changeState stBoot 0x13 0 inside (warmRestart false (s.set F.SYS_BOOT_FAIL_COUNT 0))
  let s := s.setB F.SYS_RESET_CAUSE_RECOVERY_EXIT true
  bootFrom b { s with fwu := { s.fwu with exitAt := none, rescue := {} } }

def doWarmReset (c : Ctx) (b : BootPins) (s : State) : State :=
  let s := replyAccepted c 0x0011 s
  if s.st = stRecovery then recoveryExit b s else warmReset b s

/-- WARM_RESET (R58, R607). -/
def execWarmReset (c : Ctx) (b : BootPins) (s : State) : Host.Outcome State Fault Refusal :=
  finish (withCmd c 0x0011 (doWarmReset c b) s)

/-- RECOVERY_EXIT_TIMEOUT (R607): 10 s without a packet once both active banks are VALID. -/
def execRecoveryExitTimeout (b : BootPins) (s : State) : Host.Outcome State Fault Refusal :=
  finish (match s.fwu.exitAt with
    | some t => if s.st = stRecovery then recoveryExit b (s.at t) else s
    | none => s)

def doEnterRecovery (c : Ctx) (b : BootPins) (s : State) : State :=
  if s.flag F.SYS_STATE_HOLD then replyForbids c 0x0012 s
  else if s.fwu.pln.isSome then replyBusy c 0x0012 100 s
  else
    let s := replyAccepted c 0x0012 s
    let s := warmRestart false { s with sys := { s.sys with recoveryReq := true } }
    bootFrom b (changeState stBoot 0x05 0 (Ctx.origin c) s)

/-- ENTER_RECOVERY (R57). -/
def execEnterRecovery (c : Ctx) (b : BootPins) (s : State) : Host.Outcome State Fault Refusal :=
  finish (withCmd c 0x0012 (doEnterRecovery c b) s)

/-! ## Commissioning -/

def doSetPersonality (c : Ctx) (p : Nat) (s : State) : State :=
  if s.get F.SYS_MODE_PERSONALITY ≠ 0 then reply c 0x0014 stLocked [] (writeRejected 0x20 (Ctx.origin c) s)
  else if p = 1 ∨ p = 2 then
    let old := s.word 0x20
    let s := s.set F.SYS_MODE_PERSONALITY p
    replyOk c 0x0014 [] (configRec (Ctx.origin c) 0x20 (s.word 0x20) old s)
  else replyRange c 0x0014 0 s

/-- SET_PERSONALITY (R55): once in the life of the module. -/
def execSetPersonality (c : Ctx) (p : BitVec 8) (s : State) : Host.Outcome State Fault Refusal :=
  finish (withCmd c 0x0014 (doSetPersonality c p.toNat) s)

/-- The number of the first check of R59 that fails; 0 if all pass. -/
def commissionCheck (s : State) : Nat :=
  let n := s.get F.CVL_CFG_BOARDS
  let found (k : Nat) : Bool := (getBrd s k).read && present s k && !s.flag (F.CVL_BRD_STATE_SERIAL_NEW (k - 1))
  let wires := (boardNums s).all (fun k => (brdWires s k).all (fun w => (s.acq.wires.lookup w).isSome))
  if s.get F.SYS_MODE_PERSONALITY = 0 then 1
  else if n = 0 ∨ 36 < n ∨ n ≠ boards s ∨ !((boardNums s).all found) then 2
  else if 2000000 < posCount s * s.get F.EST_VLIM_V_MAX then 3
  else if packOf s = 0 then 4
  else if !wires then 5
  else if !s.flag F.SAFE_STATUS_SET_VALID then 6
  else 0

def doCommissionDone (c : Ctx) (s : State) : State :=
  let k := commissionCheck s
  if k ≠ 0 then replyIncons c 0x0015 k s
  else
    let s := { s with est := { s.est with commCheck := true } }
    replyOk c 0x0015 (u8 0) (changeState stStandby 0x04 0 (Ctx.origin c) s)

/-- COMMISSION_DONE (R59). -/
def execCommissionDone (c : Ctx) (s : State) : Host.Outcome State Fault Refusal :=
  finish (withCmd c 0x0015 (doCommissionDone c) s)

/-! ## Re-initialise (R65) -/

def doReinitCvl (c : Ctx) (s : State) : State :=
  if anyClosed s || s.flag F.SYS_STATE_HOLD then replyForbids c 0x0C01 s
  else if keepAlive s || s.flag F.CVL_STATUS_ENUM_BUSY then replyBusy c 0x0C01 100 s
  else enumStart (some c) (balHalt (replyAccepted c 0x0C01 s))

/-- REINIT_CVL: the ring is enumerated again; the completion comes with ENUM_DONE. -/
def execReinitCvl (c : Ctx) (s : State) : Host.Outcome State Fault Refusal :=
  finish (withCmd c 0x0C01 (doReinitCvl c) s)

/-- ACCEPTED, the effect, and the completion with OK. -/
def reinit (c : Ctx) (op : Nat) (f : State → State) (s : State) : State :=
  notifyOpt (some c) op stOk [] (f (replyAccepted c op s))

def doReinitTwl (c : Ctx) (free : Bool) (s : State) : State := reinit c 0x0C04 (twlReinit free) s

/-- REINIT_TWL (R65): `free` says whether the bus clear finds the bus free. -/
def execReinitTwl (c : Ctx) (free : Bool) (s : State) : Host.Outcome State Fault Refusal :=
  finish (withCmd c 0x0C04 (doReinitTwl c free) s)

/-- A port's link goes down. -/
def linkDown (i : Nat) (s : State) : State :=
  if s.flag (F.ETH_STAT_LINK i) then
    raise C.LINK_CHANGE (((s.setB (F.ETH_STAT_LINK i) false).set (F.ETH_STAT_SPEED_ACT i) 0).setB
      (F.ETH_STAT_DUPLEX i) false)
  else s

/-- A port restarts (R65); where it was the slave port, the messages of PTP stop (R512). -/
def ethReinit (i : Nat) (s : State) : State :=
  let slave := s.get (if i = 0 then F.PTP_STATUS_PORT1_STATE else F.PTP_STATUS_PORT2_STATE) = ptpSlave
  linkDown i (if slave then ptpStop s else s)

def doReinitEth (c : Ctx) (port : Nat) (s : State) : State :=
  if port < 1 ∨ 2 < port then replyRange c 0x0C05 0 s else reinit c 0x0C05 (ethReinit (port - 1)) s

/-- REINIT_ETH (R65): the PHY restarts and negotiates its link again. -/
def execReinitEth (c : Ctx) (port : BitVec 8) (s : State) : Host.Outcome State Fault Refusal :=
  finish (withCmd c 0x0C05 (doReinitEth c port.toNat) s)

def doReinitEis (c : Ctx) (s : State) : State := reinit c 0x0C06 (eisAbandon 0x4) s
def doReinitEst (c : Ctx) (s : State) : State := reinit c 0x0C07 (estRestore false) s

/-- REINIT_EIS (R65, R194). -/
def execReinitEis (c : Ctx) (s : State) : Host.Outcome State Fault Refusal :=
  finish (withCmd c 0x0C06 (doReinitEis c) s)

/-- REINIT_EST (R65, R246). -/
def execReinitEst (c : Ctx) (s : State) : Host.Outcome State Fault Refusal :=
  finish (withCmd c 0x0C07 (doReinitEst c) s)

/-- A lane restarts: the filters of its positions from the newer valid slot, and every sweep of a measurement up to now is
lost to them (R65, R209). -/
def laneRestart (lane : Nat) (s : State) : State :=
  let mine (e : Nat) : Bool := e / 72 == lane
  let lose (m : Meas) : Meas := { m with
    lostLanes := lane :: m.lostLanes
    due := m.due.map (fun d => { d with lost := lane :: d.lost })
    acc := m.acc.filter (fun e => !mine e.1) }
  let s := { s with eis := { s.eis with
    meas := s.eis.meas.map lose, closing := s.eis.closing.map lose, lanes := s.eis.lanes.filter (fun e => !mine e.1) } }
  match newestSlot s with
  | some (_, x) => restoreSlot false x mine s
  | none => s

def doReinitDsp (c : Ctx) (lane : Nat) (s : State) : State :=
  if 7 < lane then replyRange c 0x0C08 0 s
  else reinit c 0x0C08 (fun s => laneRestart lane (s.bumpSat (F.DSP_LANE_STATUS_REINIT_CNT lane))) s

/-- REINIT_DSP (R65, R209). -/
def execReinitDsp (c : Ctx) (lane : BitVec 8) (s : State) : Host.Outcome State Fault Refusal :=
  finish (withCmd c 0x0C08 (doReinitDsp c lane.toNat) s)

/-! ## Supervisor loss -/

/-- A lost supervisor enters direct mode, with cause 0x04 while a hand-over runs (R24, R600 result 7). -/
def supLost (cause : Nat) (s : State) : State :=
  if s.awake && !s.direct then
    if s.fwu.ho.isSome then
      let s := ({ s with fwu := { s.fwu with ho := none } }.set F.FWU_LAST_HO_RES 7).set F.FWU_STATUS_HO_STATE 0
      enterDirect 4 s
    else enterDirect cause s
  else s

/-- SUPERVISOR_WATCHDOG (R24): no heartbeat for 50 ms after BOOT. -/
def execSupervisorWatchdog (s : State) : Host.Outcome State Fault Refusal := finish (supLost 2 s)

/-- SUPERVISOR_EXCEPTION (R24, R53): not recovered by the supervisor; in BOOT the boot fails. -/
def execSupervisorException (b : BootPins) (s : State) : Host.Outcome State Fault Refusal :=
  finish (if s.st = stBoot then bootLost b s else supLost 3 s)

/-! ## Clocks and heartbeats (R19, R20, R29 to R31) -/

/-- The reaction to a lost island clock (R29); a lost port clock is a ring break at the end of the frame (R122). In BOOT a lost CORE clock stops the supervisor's heartbeat (R53). -/
def clockReact (i : Island) (s : State) : State :=
  match i with
  | .ref => sei 0x0E s
  | .core => if s.st = stBoot then bootLost ⟨false, 0⟩ s else if s.awake then enterDirect 5 s else s
  | .dsp => if s.awake && s.sys.supRuns && !s.direct then demandScs 0x11 s else s
  | .ctl => sei 0x0E s
  | .pwm => sei 0x0E s
  | .cva => portLink 0 false s
  | .cvb => portLink 1 false s
  | .eth => ptpStop (linkDown 1 (linkDown 0 s))
  | .time => sei 0x0E s
  | .safe => sei 0x0D { s with safe := { s.safe with spBeat := false } }
  | .logic => sei 0x0E { s with safe := { s.safe with zslBeat := false } }
  | .aon => s

/-- An island clock is lost: its bits in SYS_CLK_STATUS, CLK_LOSS, and the reaction. -/
def clockLoss (i : Island) (s : State) : State :=
  let b := 2 ^ islandBit i
  let s := { s with sys := { s.sys with clkLost := s.sys.clkLost ||| b } }
  let s := s.set F.SYS_CLK_STATUS_RUNNING (s.get F.SYS_CLK_STATUS_RUNNING &&& (0xFFF ^^^ b))
  let s := s.set F.SYS_CLK_STATUS_LOST (s.get F.SYS_CLK_STATUS_LOST ||| b)
  clockReact i (raise C.CLK_LOSS s)

/-- CLOCK_LOSS (R29, R31). In SHIP and OASIS only the wake timer goes with the AON clock. -/
def execClockLoss (i : Island) (s : State) : Host.Outcome State Fault Refusal :=
  finish (if hostPowered s then clockLoss i s
    else if i = .aon ∧ s.sys.powered then { s with sys := { s.sys with clkLost := s.sys.clkLost ||| 2048, wakeAt := none } }
    else s)

/-- CLOCK_RESTORE (R31): within tolerance for 100 µs; no reaction is undone. -/
def execClockRestore (i : Island) (s : State) : Host.Outcome State Fault Refusal :=
  let b := 2 ^ islandBit i
  finish (if s.sys.clkLost &&& b = b then
    let s := { s with sys := { s.sys with clkLost := s.sys.clkLost &&& (0xFFF ^^^ b) } }
    if hostPowered s then
      let s := s.set F.SYS_CLK_STATUS_RUNNING (s.get F.SYS_CLK_STATUS_RUNNING ||| b)
      match i with
      | .cva => portLink 0 true s
      | .cvb => portLink 1 true s
      | .safe => { s with safe := { s.safe with spBeat := true } }
      | .logic => { s with safe := { s.safe with zslBeat := true } }
      | _ => s
    else s
  else s)

/-- HEARTBEAT_LOSS (R20): the ZSL misses SP's heartbeat, or SP the ZSL's (`bySp`); not in the pause of a PLN
activation (R602, R603). A heartbeat that was lost is there again from the next start-up, or with the clock that took it
away (DESIGN CHOICE, log entry 163). -/
def execHeartbeatLoss (bySp : Bool) (s : State) : Host.Outcome State Fault Refusal :=
  let x := if bySp then { s.safe with zslBeat := false } else { s.safe with spBeat := false }
  finish (if enginesUp s then sei 0x0D { s with safe := x } else s)

/-- LOGIC_CLOCK_STOP (R19, R29): the charge pumps drop PWM_EN and every low side; SP opens the high sides. -/
def execLogicClockStop (s : State) : Host.Outcome State Fault Refusal :=
  finish (if hostPowered s then clockLoss .logic s else s)

end Sys2Proof.Machine
end

