-- ==== Sys2Proof/Machine/Pwr.lean ====
section
/-!
DEFINITION. The supply feeds (chapter 19): presence, power-on and brown-out, changeovers with their interlock line, the
power-fail warning, and swap tests. The sequencer is ZSL logic and works in OASIS too.
-/

namespace Sys2Proof.Machine

/-! ## Feeds -/

/-- Code of a feed in FEED_STATUS.ACTIVE (R633). -/
def feedCode : Feed → Nat
  | .a => 1 | .b => 2

def otherFeed : Feed → Feed
  | .a => .b | .b => .a

def feedPresent : Feed → Fld
  | .a => F.FEED_STATUS_A_PRESENT | .b => F.FEED_STATUS_B_PRESENT

def feedSwitch : Feed → Fld
  | .a => F.FEED_STATUS_SW_A | .b => F.FEED_STATUS_SW_B

def feedVolt : Feed → Fld
  | .a => F.FEED_VA_VALUE | .b => F.FEED_VB_VALUE

def feedSince (s : State) : Feed → Option Nat
  | .a => s.pwr.aSince | .b => s.pwr.bSince

def feedGone (s : State) : Feed → Nat
  | .a => s.pwr.aGone | .b => s.pwr.bGone

/-- The feed that supplies the module, and the one named by PREF. -/
def activeFeed (s : State) : Option Feed :=
  match s.get F.FEED_STATUS_ACTIVE with
  | 1 => some .a
  | 2 => some .b
  | _ => none

/-- A field of FEED_CFG as the ZSL has it: after a power-on the reset values until the supervisor reloads the MRAM copy
(start-up step 6; the text before R633). -/
def feedCfg (s : State) (f : Fld) : Nat := if s.pwr.loaded then s.get f else fieldOf (resetWord f.addr) f.lo f.n

def prefFeed (s : State) : Feed := if feedCfg s F.FEED_CFG_PREF = 1 then .b else .a

/-- The ZSL runs: powered and not in SHIP (R631). -/
def zslOn (s : State) : Bool := s.sys.powered && s.st != stShip

/-- A feed's switch closes, the other stays open, and it supplies the module. Where nothing supplied it before, the 5 s
of R622 for the store begin. -/
def closeFeed (f : Feed) (s : State) : State :=
  let low := if s.get F.FEED_STATUS_ACTIVE = 0 ∧ s.flag F.FEED_STATUS_STORE_OK = false then some s.time else s.pwr.storeLow
  let s := ((s.setB (feedSwitch (otherFeed f)) false).setB (feedSwitch f) true).set F.FEED_STATUS_ACTIVE (feedCode f)
  { s with pwr := { s.pwr with last := some f, storeLow := low } }

/-- The calibrated reading of a feed's voltage, mV (R645). -/
def feedMv (s : State) (f : Feed) (mv : BitVec 16) : Nat :=
  min 65535 (calNat s (match f with | .a => 27 | .b => 28) mv.toNat)

/-- A feed is found present, with its voltage in mV; one that was present keeps its instant. -/
def markPresent (f : Feed) (mv : Nat) (s : State) : State :=
  let t := (feedSince s f).getD s.time
  let s := (s.setB (feedPresent f) true).set (feedVolt f) mv
  match f with
  | .a => { s with pwr := { s.pwr with aSince := some t } }
  | .b => { s with pwr := { s.pwr with bSince := some t } }

/-- FEED_IL as the module reads it; while the module drives the line, it reads low (R624). -/
def noteIl (high : Bool) (s : State) : State :=
  if s.flag F.FEED_STATUS_IL_DRIVE then s else s.setB F.FEED_STATUS_IL_LEVEL high

/-- A feed is found absent; STANDBY_ABSENT may be raised again once it had been present for 10 s (R627). -/
def markAbsent (f : Feed) (mv : Nat) (s : State) : State :=
  let long := (feedSince s f).any (fun t => decide (t + 10 * sec ≤ s.time))
  let s := (s.setB (feedPresent f) false).set (feedVolt f) mv
  let s := { s with pwr := { s.pwr with standbyArmed := s.pwr.standbyArmed || long } }
  match f with
  | .a => { s with pwr := { s.pwr with aSince := none, aGone := s.time } }
  | .b => { s with pwr := { s.pwr with bSince := none, bGone := s.time } }

/-! ## Swap tests: their end (R629, R635) -/

def swapRecord (s : State) : State :=
  let r := s.get F.FEED_SWAP_RESULT
  let p := u8 r ++ u8 (s.get F.FEED_SWAP_REASON) ++ u16 (s.get F.FEED_SWAP_VMIN) ++ u32 (s.get F.FEED_IIN_VALUE)
  causeRec C.SWAP_TEST_DONE (if r = 1 ∨ r = 5 ∨ r = 6 then sevInfo else sevFault) p (s.bump F.FEED_SWAP_CNT_VALUE 1)

/-- A swap test ends with a result. VMIN keeps the value of the last test that took a reading (DESIGN CHOICE, log entry
167). -/
def swapEnd (res : Nat) (s : State) : State :=
  match s.pwr.swap with
  | some x =>
    let s := (s.set F.FEED_SWAP_RESULT res).set F.FEED_SWAP_REASON 0
    let s := if x.endAt.isSome then s.set F.FEED_SWAP_VMIN (x.vmin / 10) else s
    let s := { s with pwr := { s.pwr with swap := none, swapAt := s.sys.opSec, retryAt := none } }
    swapRecord (s.setB F.FEED_STATUS_SWAP_BUSY false)
  | none => s

/-! ## Changeovers (R621, R623 to R625) -/

/-- Nothing of R626 is in progress. -/
def feedIdle (s : State) : Bool := s.pwr.chg.isNone && s.pwr.swap.isNone && !s.flag F.FEED_STATUS_PF_WARN

/-- The check of FEED_IL before a changeover: a line held low is a veto (R624). -/
def checkIl (ilHigh : Bool) (s : State) : State :=
  (s.setB F.FEED_STATUS_IL_LEVEL ilHigh).setB F.FEED_STATUS_VETO (!ilHigh)

/-- Instant 0 of a changeover: the old switch opens, the new one closes, FEED_IL is driven low and reads so. -/
def startChg (dest : Feed) (forced : Bool) (use : Nat) (s : State) : State :=
  let s := { s with pwr := { s.pwr with chg := some ⟨dest, forced, s.time, use⟩ } }
  let s := ((s.setB F.FEED_STATUS_CHG_BUSY true).setB F.FEED_STATUS_IL_DRIVE true).setB F.FEED_STATUS_IL_LEVEL false
  (s.setB (feedSwitch (otherFeed dest)) false).setB (feedSwitch dest) true

/-- The window of a changeover closes, and FEED_IL is released to its pull-up (R624). -/
def endChg (s : State) : State :=
  let s := { s with pwr := { s.pwr with chg := none } }
  ((s.setB F.FEED_STATUS_CHG_BUSY false).setB F.FEED_STATUS_IL_DRIVE false).setB F.FEED_STATUS_IL_LEVEL true

/-- FEED_IIN and FEED_POWER (R636): the input current `i` in mA and, with the voltage of the feed that supplies the
module, the input power in mW; 0 where nothing supplies it. -/
def inputReading (i : Nat) (s : State) : State :=
  let v := match s.get F.FEED_STATUS_ACTIVE with
    | 1 => s.get F.FEED_VA_VALUE
    | 2 => s.get F.FEED_VB_VALUE
    | _ => 0
  (s.set F.FEED_IIN_VALUE i).set F.FEED_POWER_VALUE (v * i / 1000)

/-- A power-fail warning cuts a hand-over that stands before Mk: the old bank stays active, and the completion carries
result 6 (R600). -/
def handoverPf (s : State) : State :=
  match s.fwu.ho with
  | some h => if h.mk_.isNone then notifyOpt (some h.ctx) 0x0A03 stOk (u8 6) (handoverCut s) else s
  | none => s

/-- What the supervisor does at a power-fail warning: persistence, then the recorder flush (R245, R575, R591, R600). -/
def pfSave (s : State) : State :=
  if hostPowered s then
    let s := if s.sys.supRuns then estPowerFail s else s
    flushAll (handoverPf (closeXfer s))
  else s

/-- PWR_FAIL_WARN (R625): nothing supplies the input bus; a swap test ends with result 3 or 6 (R632). -/
def pfWarn (s : State) : State :=
  if s.flag F.FEED_STATUS_PF_WARN then s
  else
    let s := raise C.PWR_FAIL_WARN (s.setB F.FEED_STATUS_PF_WARN true)
    let s := ((s.set F.FEED_STATUS_ACTIVE 0).setB F.FEED_STATUS_SW_A false).setB F.FEED_STATUS_SW_B false
    let s := match s.pwr.swap with
      | some x => swapEnd (if x.res = 3 ∨ x.res = 6 then x.res else if x.endAt.isSome then 3 else 6) s
      | none => s
    pfSave (inputReading 0 { s with pwr := { s.pwr with storeLow := none } })

/-- A feed that supplied the module is absent: a forced changeover, or the warning (R625). -/
def forceChg (f : Feed) (ilHigh : Bool) (use : Nat) (s : State) : State :=
  let o := otherFeed f
  if s.flag (feedPresent o) then
    let s := checkIl ilHigh s
    if ilHigh then startChg o true use s else pfWarn s
  else pfWarn s

/-- CHANGEOVER_CONFIRM (R623): the input bus is at 17.5 V again. -/
def execChangeoverConfirm (s : State) : Host.Outcome State Fault Refusal :=
  finish (match s.pwr.chg with
    | none => s
    | some x =>
      if zslOn s && s.flag (feedPresent x.dest) then
        let s := closeFeed x.dest (endChg s)
        let s := causeRec C.CHANGEOVER (if x.forced then sevWarning else sevNotice) [] (s.bump F.FEED_CHG_CNT_VALUE 1)
        match s.pwr.swap with
        | some y =>
          if x.use = 1 then
            let t := s.time + feedCfg s F.FEED_CFG_SWAP_DWELL * sec
            { s with pwr := { s.pwr with swap := some { y with endAt := some t } } }
          else swapEnd y.res s
        | none => s
      else s)

/-- CHANGEOVER_TIMEOUT (R623, R625, R632): not confirmed by 1.0 ms. A planned one goes back to the former feed, where
that is still present; a failure with neither feed left is a power-fail warning. -/
def execChangeoverTimeout (s : State) : Host.Outcome State Fault Refusal :=
  finish (match s.pwr.chg with
    | none => s
    | some x =>
      let s := endChg (s.at (x.at_ + ms))
      let s := s.setB (feedSwitch x.dest) false
      let old := otherFeed x.dest
      if !x.forced && s.flag (feedPresent old) then
        let s := addRec sevWarning 0x02 C.CHANGEOVER.b [] (closeFeed old s)
        match s.pwr.swap with
        | some y => swapEnd (if x.use = 1 then 2 else y.res) s
        | none => s
      else pfWarn s)

/-- FEED_IL_FAULT (R621, R624): both gate senses read closed (`gates`), so that the switch that closed more recently
opens; or the line reads high while the module drives it low. -/
def execFeedIlFault (gates : Bool) (s : State) : Host.Outcome State Fault Refusal :=
  finish (if zslOn s then
    if gates then
      let newer : Option Feed := match s.pwr.chg with
        | some x => some x.dest
        | none => (activeFeed s).map otherFeed
      let s := match newer with | some f => s.setB (feedSwitch f) false | none => s
      raise C.FEED_IL_FAULT s
    else if s.flag F.FEED_STATUS_IL_DRIVE then
      causeRec C.FEED_IL_FAULT sevFault [] (s.setB F.FEED_STATUS_IL_LEVEL true)
    else s
  else s)

/-! ## Presence (R620, R625, R627) -/

/-- Power-on (R46, R52, R56): the first present feed is switched on and start-up runs. With `both` the other feed has
become present in the same 10 ms, and the feed that PREF names is closed: A, since the ZSL has its reset values. -/
def powerOn (f : Feed) (both ilHigh : Bool) (mv : Nat) (b : BootPins) (s : State) : State :=
  let again := s.flag F.SYS_RESET_CAUSE_BROWNOUT && !s.flag F.SYS_RESET_CAUSE_POR
  let s := if again then { s with sys := { s.sys with powered := true } } else powerReset false s
  let s := markPresent f mv s
  let s := if both then markPresent (otherFeed f) mv s else s
  let s := noteIl ilHigh (closeFeed (if both then prefFeed s else f) s)
  let s := causeRec C.STATE_CHANGE sevNotice (u8 0 ++ u8 stBoot ++ u8 0x07 ++ u8 0 ++ originBytes inside) s
  bootFrom b s

/-- A feed becomes present: it ends a power-fail warning where it may be closed (R625), and PF_DONE (R245). In a warning
the row stands for the 1 ms of R625, of a feed that was present all along too (DESIGN CHOICE, log entry 167). -/
def feedUp (f : Feed) (ilHigh : Bool) (mv : Nat) (s : State) : State :=
  let s := (markPresent f mv s).setB F.EST_STATUS_PF_DONE false
  if s.flag F.FEED_STATUS_PF_WARN then
    if s.pwr.last = some f then closeFeed f (s.setB F.FEED_STATUS_PF_WARN false)
    else
      let s := checkIl ilHigh s
      if ilHigh then closeFeed f (s.setB F.FEED_STATUS_PF_WARN false) else s
  else
    let s := noteIl ilHigh s
    if activeFeed s = none ∧ s.pwr.chg = none then closeFeed f s else s

/-- FEED_PRESENT (R620): above the rising threshold for 10 ms. In SHIP the ZSL is off and finds no feed. -/
def execFeedPresent (f : Feed) (both ilHigh : Bool) (mv : BitVec 16) (b : BootPins) (s : State) :
    Host.Outcome State Fault Refusal :=
  finish (if !s.sys.powered then powerOn f both ilHigh (feedMv s f mv) b s
    else if s.st = stShip then s
    else feedUp f ilHigh (feedMv s f mv) s)

/-- FEED_ABSENT (R620, R625, R627, R629, R632): below the falling threshold for 50 µs. A changeover under way goes on;
in the first one of a swap test the loss of the original feed gives result 6. -/
def execFeedAbsent (f : Feed) (ilHigh : Bool) (mv : BitVec 16) (s : State) : Host.Outcome State Fault Refusal :=
  finish (if zslOn s && s.flag (feedPresent f) then
    let v := feedMv s f mv
    let s := markAbsent f v s
    let s := causeRec (match f with | .a => C.FEED_A_LOST | .b => C.FEED_B_LOST) sevWarning [] s
    match s.pwr.chg with
    | some x =>
      match s.pwr.swap with
      | some y =>
        if x.use = 1 ∧ y.orig = f then { s with pwr := { s.pwr with swap := some { y with res := 6 } } } else s
      | none => s
    | none =>
      if activeFeed s = some f then
        match s.pwr.swap with
        | some y =>
          let res := if y.res = 6 then 6 else 3
          let y := { y with res := res, vmin := min y.vmin v }
          forceChg f ilHigh 2 { s with pwr := { s.pwr with swap := some y } }
        | none => forceChg f ilHigh 0 s
      else
        match s.pwr.swap with
        | some y => if y.orig = f then { s with pwr := { s.pwr with swap := some { y with res := 6 } } } else s
        | none => s
  else s)

/-- BROWN_OUT (R56, R625): the store is exhausted while a power-fail warning stands. -/
def execBrownOut (s : State) : Host.Outcome State Fault Refusal :=
  finish (if zslOn s && s.flag F.FEED_STATUS_PF_WARN then powerReset true s else s)

/-- STANDBY_ABSENT (R627): with DUAL, the feed that does not supply the module has been absent for 100 ms. -/
def execStandbyAbsent (s : State) : Host.Outcome State Fault Refusal :=
  finish (match activeFeed s with
    | some f =>
      let o := otherFeed f
      if zslOn s && feedCfg s F.FEED_CFG_DUAL == 1 && !s.flag (feedPresent o) && s.pwr.standbyArmed then
        let s := s.at (feedGone s o + 100 * ms)
        causeRec C.STANDBY_ABSENT sevWarning [] { s with pwr := { s.pwr with standbyArmed := false } }
      else s
    | none => s)

/-! ## Requests (R626) -/

/-- A request for a planned changeover to a feed. -/
def feedGo (f : Feed) (o : Origin) (s : State) : State × WRes :=
  if activeFeed s = some f then (s, .ok)
  else if feedIdle s && s.flag (feedPresent f) then
    let s := checkIl (s.flag F.FEED_STATUS_IL_LEVEL) s
    if s.flag F.FEED_STATUS_VETO then (writeRejected 0x300C o s, .locked) else (startChg f false 0 s, .ok)
  else (writeRejected 0x300C o s, .locked)

/-- FEED_GO_A (R626). -/
def execFeedGoA (p : Path) (ilHigh : Bool) (s : State) : Host.Outcome State Fault Refusal :=
  finish (withWrite p 0x300C 1 (fun s => feedGo .a (Path.origin p) (noteIl ilHigh s)) s)

/-- FEED_GO_B (R626). -/
def execFeedGoB (p : Path) (ilHigh : Bool) (s : State) : Host.Outcome State Fault Refusal :=
  finish (withWrite p 0x300C 2 (fun s => feedGo .b (Path.origin p) (noteIl ilHigh s)) s)

/-- AUTO_RETURN (R626): the PREF feed has been present for 60 s while the module runs on the other. -/
def execAutoReturn (ilHigh : Bool) (s : State) : Host.Outcome State Fault Refusal :=
  let f := prefFeed s
  finish (match feedSince s f with
    | some t =>
      if zslOn s && feedCfg s F.FEED_CFG_AUTO_RET == 1 && activeFeed s == some (otherFeed f) && feedIdle s then
        let s := checkIl ilHigh (s.at (t + 60 * sec))
        if ilHigh then startChg f false 0 s else s
      else s
    | none => s)

/-! ## Swap tests (R629) -/

/-- The reason that refuses a swap test, 0 for none, tested in the order of R629's table (DESIGN CHOICE, log entry 167). In a
power-fail warning no feed supplies the module: reason 3, or 1 with neither present. -/
def swapReason (s : State) : Nat :=
  match activeFeed s with
  | some f =>
    if !s.flag (feedPresent (otherFeed f)) then 1
    else if !s.flag F.FEED_STATUS_STORE_OK then 2
    else if !feedIdle s then 3
    else if !s.flag F.FEED_STATUS_IL_LEVEL then 4
    else 0
  | none => if s.flag F.FEED_STATUS_A_PRESENT || s.flag F.FEED_STATUS_B_PRESENT then 3 else 1

/-- A swap test starts, or is refused. -/
def swapStart (s : State) : State :=
  let r := swapReason s
  let s := if r = 4 ∨ r = 0 then checkIl (r = 0) s else s
  match activeFeed s with
  | some f =>
    if r = 0 then
      let s := { s with pwr := { s.pwr with swap := some { orig := f } } }.setB F.FEED_STATUS_SWAP_BUSY true
      startChg (otherFeed f) false 1 s
    else swapRecord ((s.set F.FEED_SWAP_RESULT 5).set F.FEED_SWAP_REASON r)
  | none => swapRecord ((s.set F.FEED_SWAP_RESULT 5).set F.FEED_SWAP_REASON r)

/-- SWAP_TEST (R629): a write of 1 to FEED_CTRL.SWAP_TEST. -/
def execSwapTest (p : Path) (ilHigh : Bool) (s : State) : Host.Outcome State Fault Refusal :=
  finish (withWrite p 0x300C 4 (fun s => (swapStart (noteIl ilHigh s), .ok)) s)

/-- SWAP_TEST_PERIODIC (R629): PERIOD days after the last test, and every hour after a refusal. -/
def execSwapTestPeriodic (ilHigh : Bool) (s : State) : Host.Outcome State Fault Refusal :=
  let n := s.get F.FEED_SWAP_CFG_PERIOD
  finish (if supActs s && n != 0 && decide (s.pwr.swapAt + n * 86400 ≤ s.sys.opSec) &&
      s.pwr.retryAt.all (fun t => decide (t ≤ s.sys.opSec)) then
    let s := swapStart (noteIl ilHigh s)
    if s.pwr.swap.isSome then s else { s with pwr := { s.pwr with retryAt := some (s.sys.opSec + 3600) } }
  else s)

/-- SWAP_DWELL_END (R629): `vmin` is the lowest of the readings of the dwell in mV, `iin` the input current in mA. Too
little current goes before a low reading, and a vetoed return ends the test on the tested feed with the result found
(DESIGN CHOICE, log entry 167). -/
def execSwapDwellEnd (vmin iin : BitVec 16) (ilHigh : Bool) (s : State) : Host.Outcome State Fault Refusal :=
  finish (match s.pwr.swap, s.pwr.chg with
    | some x, none =>
      match x.endAt with
      | some t =>
        let i := min 65535 (calNat s 29 iin.toNat)
        let s := inputReading i (s.at t)
        let low := min x.vmin (feedMv s (otherFeed x.orig) vmin)
        let res := if x.res = 6 then 6 else if i < 100 then 2 else if low < 18000 then 4 else 1
        let s := checkIl ilHigh { s with pwr := { s.pwr with swap := some { x with vmin := low, res := res } } }
        if res = 6 ∨ !ilHigh then swapEnd res s else startChg x.orig false 2 s
      | none => s
    | _, _ => s)

/-! ## Store and rails (R622) -/

/-- STORE_OK (R622): the store's voltage in mV; STORE_OK stands from 39.0 V. -/
def execStoreOk (mv : BitVec 16) (s : State) : Host.Outcome State Fault Refusal :=
  finish (if zslOn s then
    let v := min 65535 (calNat s 30 mv.toNat)
    let low := if 39000 ≤ v ∨ activeFeed s = none then none
      else if s.flag F.FEED_STATUS_STORE_OK then some s.time else s.pwr.storeLow
    let s := { s with pwr := { s.pwr with storeLow := low } }
    (s.set F.FEED_STORE_VALUE v).setB F.FEED_STATUS_STORE_OK (decide (39000 ≤ v))
  else s)

/-- RAIL_FAULT (R622): STORE_OK has stayed 0 for 5 s while a feed supplies the module, raised once for such a spell, or a
rail is out of tolerance (`rail`). -/
def execRailFault (rail : Bool) (s : State) : Host.Outcome State Fault Refusal :=
  finish (if zslOn s then
    if rail then raise C.RAIL_FAULT s
    else match s.pwr.storeLow with
      | some t => causeRec C.RAIL_FAULT sevFault [] { (s.at (t + 5 * sec)) with pwr := { s.pwr with storeLow := none } }
      | none => s
  else s)

end Sys2Proof.Machine
end

