-- ==== Sys2Proof/Machine/Relay.lean ====
section
/-!
DEFINITION. The relay of images to neighbour modules (R594 to R596): the sending side, which acts as host towards its
neighbour, and the progress reports of every side. The frames of a host that relays to this module enter as packets.
-/

namespace Sys2Proof.Machine

/-! ## Progress (R596) -/

def serialNum (s : State) : Nat := s.get64 F.ID_SERIAL_LO_SERIAL F.ID_SERIAL_HI_SERIAL

def progressBytes (s : State) (hop stage detail stored : Nat) : List Byte :=
  u8 hop ++ u8 stage ++ u8 detail ++ u8 0 ++ u64 (serialNum s) ++ u32 stored

/-- A progress frame goes back out of the port the images came by, to the module of the hop before. -/
def progressOut (x : RelayRx) (b : List Byte) (s : State) : State := s.send (.relay x.port 2 (x.hop - 1) (x.left + 1) x.id b)

/-- The sending of this module ends. -/
def relayIdle (s : State) : State := { s with fwu := { s.fwu with tx := none } }.setB F.FWU_STATUS_RELAY_BUSY false

/-- The origin ends the relay with its last stage. -/
def relayEnd (x : RelayTx) (stage : Nat) (s : State) : State :=
  notifyOpt x.ctx 0x0A05 (if stage = 3 then stInternal else stOk) (u8 x.hops ++ u8 stage) (relayIdle s)

/-- A progress frame has reached the origin: one notification with ACCEPTED; the relay ends at the first stage 3 or 4,
or at stage 2 of the last hop. -/
def originProgress (x : RelayTx) (b : List Byte) (s : State) : State :=
  let hop := numAt b 0 1
  let stage := numAt b 1 1
  let x := { x with hops := if stage = 2 then x.hops + 1 else x.hops }
  let s := { s with fwu := { s.fwu with tx := some x } }
  let s := (s.set F.FWU_STATUS_HOPS_DONE x.hops).set F.FWU_LAST_RELAY_STAGE stage
  let s := notifyOpt x.ctx 0x0A05 stAccepted b (raise C.RELAY_PROGRESS s)
  if stage = 3 ∨ stage = 4 ∨ (stage = 2 ∧ hop = x.hop + x.left) then relayEnd x stage s else s

/-- A report of this module as a sender about its neighbour: to its own request, or back towards the origin. -/
def senderReport (x : RelayTx) (stage detail : Nat) (s : State) : State :=
  let b := progressBytes s x.hop stage detail 0
  if x.ctx.isSome then originProgress x b s
  else
    let s := relayIdle s
    match s.fwu.rx with
    | some r => progressOut r b s
    | none => s

/-! ## Sending (R595) -/

/-- The image that the sender is sending. -/
def txImage (x : RelayTx) (s : State) : List Byte :=
  let k := getBank s (idleBank s x.typ)
  if k.factory then Config.delivered x.typ else k.bytes

/-- An RCP-2 request in the default session (R465). -/
def hostPacket (seq op : Nat) (payload : List Byte) : List Byte :=
  let h := u16 0x485A ++ u8 2 ++ u8 0 ++ u16 seq ++ u16 op ++ u16 payload.length ++ u32 0 ++ u8 0 ++ u8 0 ++ payload
  h ++ u32 (crc32c h)

/-- One packet of the sender goes out and waits for its reply. -/
def relaySend (op : Nat) (payload : List Byte) (s : State) : State :=
  match s.fwu.tx with
  | none => s
  | some x =>
    let n := s.fwu.relaySeq
    let b := hostPacket n op payload
    let s := s.send (.relay x.port 1 x.hop x.left x.id b)
    { s with fwu := { s.fwu with
      relaySeq := (n + 1) % 65536, tx := some { x with flight := x.flight ++ [{ seq := n, op := op, bytes := b, at_ := s.time }] } } }

/-- FW_BEGIN of the present image. -/
def relayBegin (x : RelayTx) (s : State) : State :=
  relaySend 0x0A00 (u8 x.typ ++ u32 (txImage x s).length) { s with fwu := { s.fwu with tx := some x } }

/-- FW_DATA blocks of 1,020 bytes, at most 16 in flight; FW_VERIFY once the last is answered. -/
def relayFill : Nat → State → State
  | 0, s => s
  | k + 1, s =>
    match s.fwu.tx with
    | none => s
    | some x =>
      let l := txImage x s
      if l.length ≤ x.next then (if x.flight.isEmpty then relaySend 0x0A02 [] s else s)
      else if 16 ≤ x.flight.length then s
      else
        let d := (l.drop x.next).take 1020
        relayFill k (relaySend 0x0A01 (u32 x.next ++ d)
          { s with fwu := { s.fwu with tx := some { x with next := x.next + d.length } } })

/-- The sender starts on its first image, SUP before PLN. -/
def relayStart (c : Option Ctx) (p : EthPort) (hop left id : Nat) (types : List Nat) (s : State) : State :=
  match types with
  | [] => s
  | t :: r =>
    let x : RelayTx := { ctx := c, port := p, hop := hop, left := left, id := id, rest := r, typ := t }
    relayBegin x (s.setB F.FWU_STATUS_RELAY_BUSY true)

/-- The image types whose inactive bank is VALID (R594). -/
def relayTypes (s : State) : List Nat := [1, 2].filter (fun t => s.flag (bankValid (idleBank s t)))

/-- The neighbour has verified an image: the next one, or the end of this module's sending. A SUP image alone ends the
relay with the first hop (DEDUCED, log entry 62). -/
def relayVerified (x : RelayTx) (s : State) : State :=
  match x.rest with
  | t :: r => relayBegin { x with typ := t, rest := r, next := 0 } s
  | [] =>
    if x.ctx.isNone then relayIdle s
    else if x.typ = 1 then
      let s := senderReport x 2 0 s
      (match s.fwu.tx with | some y => relayEnd y 2 s | none => s)
    else s

/-- A reply or a completion of the neighbour. -/
def relayReply (x : RelayTx) (b : List Byte) (s : State) : State :=
  let seq := numAt b 4 2
  let op := numAt b 6 2
  let status := numAt b 14 1
  let x := { x with flight := x.flight.filter (fun e => !(e.seq == seq)) }
  let s := { s with fwu := { s.fwu with tx := some x } }
  if status ≠ stOk ∧ status ≠ stAccepted then senderReport x 3 status s
  else if op = 0x0A00 ∨ op = 0x0A01 then relayFill 17 s
  else if op = 0x0A02 ∧ status = stOk then
    if numAt b 16 1 = 0 then relayVerified x s else if x.ctx.isNone then relayIdle s else s
  else s

/-- Is this a reply to a packet of the sender, whole and undamaged? -/
def isReply (b : List Byte) : Bool :=
  decide (20 ≤ b.length) && b.take 3 == [0x5A, 0x48, 0x02] && numAt b 3 1 % 2 == 1 &&
    numAt b 8 2 + 20 == b.length && crc32c (b.take (b.length - 4)) == numAt b (b.length - 4) 4

/-- RELAY_RESEND (R595): a packet has had no reply for 2 s; after the third resend the hop fails, with a detail that the
spec does not state (DEDUCED, log entry 62). -/
def execRelayResend (seq : BitVec 16) (s : State) : Host.Outcome State Fault Refusal :=
  finish (match s.fwu.tx with
    | none => s
    | some x =>
      match x.flight.find? (fun e => e.seq == seq.toNat) with
      | none => s
      | some e =>
        let s := s.at (e.at_ + 2 * sec)
        if e.tries < 3 then
          let again (y : RelayPkt) : RelayPkt := if y.seq = e.seq then { y with tries := y.tries + 1, at_ := s.time } else y
          let s := { s with fwu := { s.fwu with tx := some { x with flight := x.flight.map again } } }
          s.send (.relay x.port 1 x.hop x.left x.id e.bytes)
        else
          let v := s.fresh
          senderReport x 3 (v.1 % 256) v.2)

/-! ## FW_RELAY (R491, R594, R608) -/

def portOf (n : Nat) : EthPort := if n = 2 then .eth2 else .eth1
def otherPort : EthPort → EthPort
  | .eth1 => .eth2
  | .eth2 => .eth1

def linkUp (s : State) (p : EthPort) : Bool := s.flag (F.ETH_STAT_LINK (portIdx p))

def doFwRelay (c : Ctx) (port hops : Nat) (s : State) : State :=
  if port < 1 ∨ 2 < port then replyRange c 0x0A05 0 s
  else if hops < 1 ∨ 254 < hops then replyRange c 0x0A05 1 s
  else if s.fwu.xfer.isSome || s.flag F.FWU_STATUS_RELAY_BUSY then replyBusy c 0x0A05 100 s
  else if (relayTypes s).isEmpty then replyIncons c 0x0A05 0 s
  else
    let v := (replyAccepted c 0x0A05 s).fresh
    let id := v.1 % 2 ^ 32
    let s := (v.2.set F.FWU_RELAY_ID_VALUE id).set F.FWU_STATUS_HOPS_DONE 0
    if linkUp s (portOf port) then relayStart (some c) (portOf port) 1 (hops - 1) id (relayTypes s) s
    else notifyOpt (some c) 0x0A05 stOk (u8 0 ++ u8 4) (s.set F.FWU_LAST_RELAY_STAGE 4)

/-- FW_RELAY (R594). -/
def execFwRelay (c : Ctx) (port hops : BitVec 8) (s : State) : Host.Outcome State Fault Refusal :=
  finish (withCmd c 0x0A05 (doFwRelay c port.toNat hops.toNat) s)

/-! ## The receiving side -/

/-- The relay that a request belongs to, if a neighbour sent it. -/
def relayOf (c : Ctx) (s : State) : Option RelayRx :=
  match c.src with
  | .relay p => s.fwu.rx.filter (fun x => x.port == p)
  | _ => none

/-- Stage 1: the transfer of the first image has started. -/
def relayBegun (c : Ctx) (s : State) : State :=
  match relayOf c s with
  | some x => if x.done.isEmpty then progressOut x (progressBytes s x.hop 1 0 0) s else s
  | none => s

/-- The images of the relay are stored: they go on to the next hop, out of the other port (R595 step 4). -/
def relayForward (x : RelayRx) (s : State) : State :=
  if x.left = 0 then s
  else if !linkUp s (otherPort x.port) then progressOut x (progressBytes s x.hop 4 0 0) s
  else if s.fwu.tx.isSome then progressOut x (progressBytes s (x.hop + 1) 3 stBusy 0) s
  else relayStart none (otherPort x.port) (x.hop + 1) (x.left - 1) x.id ((relayTypes s).filter x.done.contains) s

/-- Bytes of the images stored. -/
def relayStored (x : RelayRx) (s : State) : Nat :=
  x.done.foldl (fun n t => n + (getBank s (idleBank s t)).bytes.length) 0

/-- Stages 2 and 3: an image of the relay has been verified with a result; PLN is the last of a hop. -/
def relayResult (c : Ctx) (typ r : Nat) (s : State) : State :=
  match relayOf c s with
  | none => s
  | some x =>
    if r ≠ 0 then progressOut x (progressBytes s x.hop 3 r (relayStored x s)) s
    else
      let x := { x with done := typ :: x.done }
      let s := { s with fwu := { s.fwu with rx := some x } }
      if typ = 2 then relayForward x (progressOut x (progressBytes s x.hop 2 0 (relayStored x s)) s) else s

/-- RELAY_PROGRESS (R596): a progress frame arrives at a port. -/
def execRelayProgress (p : EthPort) (id : BitVec 32) (bytes : List (BitVec 8)) (s : State) :
    Host.Outcome State Fault Refusal :=
  finish (if hostPowered s then
    match s.fwu.tx.filter (fun x => x.ctx.isSome && x.port == p && x.id == id.toNat) with
    | some x => originProgress x bytes s
    | none =>
      (match s.fwu.rx.filter (fun r => r.port != p && r.id == id.toNat) with
      | some r => progressOut r bytes s
      | none => s)
  else s)

end Sys2Proof.Machine
end

