-- ==== Sys2Proof/Machine/Fwu.lean ====
section
/-!
DEFINITION. Firmware update (chapter 18): transfers, verification, the in-service hand-over, PLN activation and
confirmation. The relay has a file of its own.
-/

namespace Sys2Proof.Machine

/-! ## Transfers (R590, R591) -/

/-- Did this request's session open the transfer? -/
def ownsXfer (c : Ctx) (x : Xfer) : Bool := x.src == c.src && x.session == c.session

/-- Largest size of a type (R586). -/
def imageLimit (typ : Nat) : Nat := if typ = 3 then 2097152 else 33554432

/-- The conditions of a type and the transport in RECOVERY (R590, R605, R606). -/
def typeTakes (c : Ctx) (typ : Nat) (s : State) : Bool :=
  if s.st = stRecovery then
    if s.flag F.FWU_STATUS_RESCUE then typ != 3 else (typ == 3) == (c.src == .tws)
  else typ != 3

/-- The bank that receives a type. -/
def xferBank (s : State) (typ : Nat) : Nat := if typ = 3 then 4 else idleBank s typ

def beginXfer (c : Ctx) (typ size : Nat) (s : State) : State :=
  let b := xferBank s typ
  let s := if typ = 3 then s else markInvalid b s
  let s := setBank b {} { s with fwu := { s.fwu with xfer := some ⟨typ, size, c.src, c.session, s.time⟩ } }
  ((s.setB F.FWU_STATUS_XFER_OPEN true).set F.FWU_STATUS_XFER_TYPE typ).set F.FWU_XFER_OFFSET_VALUE 0 |>.set
    F.FWU_XFER_SIZE_VALUE size

def doFwBegin (c : Ctx) (typ size : Nat) (s : State) : State :=
  if typ < 1 ∨ 3 < typ then replyRange c 0x0A00 0 s
  else if size < 257 ∨ imageLimit typ < size then replyRange c 0x0A00 1 s
  else if !typeTakes c typ s then replyIncons c 0x0A00 0 s
  else if s.fwu.xfer.any (fun x => !ownsXfer c x) then replyBusy c 0x0A00 1000 s
  else if typ = 1 ∧ (s.fwu.ho.isSome ∨ s.flag F.FWU_STATUS_UNCONFIRMED) then replyForbids c 0x0A00 s
  else if typ = 2 ∧ s.fwu.pln.isSome then replyForbids c 0x0A00 s
  else relayBegun c (replyOk c 0x0A00 [] (beginXfer c typ size s))

/-- FW_BEGIN (R590). -/
def execFwBegin (c : Ctx) (typ : BitVec 8) (size : BitVec 32) (s : State) : Host.Outcome State Fault Refusal :=
  finish (withCmd c 0x0A00 (doFwBegin c typ.toNat size.toNat) s)

def doFwData (c : Ctx) (off : Nat) (data : List Byte) (s : State) : State :=
  if data.length < 1 ∨ 1020 < data.length then reply c 0x0A01 stBadLen [] s
  else
    match s.fwu.xfer with
    | none => replyIncons c 0x0A01 0 s
    | some x =>
      let at_ := s.get F.FWU_XFER_OFFSET_VALUE
      if !ownsXfer c x then replyIncons c 0x0A01 0 s
      else if off ≠ at_ then replyRange c 0x0A01 0 s
      else if x.size < off + data.length then replyRange c 0x0A01 4 s
      else
        let b := xferBank s x.typ
        let k := getBank s b
        let s := setBank b { k with bytes := k.bytes ++ data } s
        let s := { s with fwu := { s.fwu with xfer := some { x with at_ := s.time } } }
        replyOk c 0x0A01 [] (s.set F.FWU_XFER_OFFSET_VALUE (off + data.length))

/-- FW_DATA (R591). -/
def execFwData (c : Ctx) (offset : BitVec 32) (data : List (BitVec 8)) (s : State) :
    Host.Outcome State Fault Refusal :=
  finish (withCmd c 0x0A01 (doFwData c offset.toNat data) s)

/-- TRANSFER_ABORT (R591, R614): 60 s without FW_DATA. -/
def execTransferAbort (s : State) : Host.Outcome State Fault Refusal :=
  finish (match s.fwu.xfer with
    | some x =>
      let s := s.at (x.at_ + 60 * sec)
      closeXfer (addRec sevWarning 0x10 0x0010 (u8 x.typ ++ u32 (s.get F.FWU_XFER_OFFSET_VALUE)) s)
    | none => s)

/-! ## Verification (R588) -/

def doFwVerify (c : Ctx) (s : State) : State :=
  match s.fwu.xfer with
  | none => replyIncons c 0x0A02 0 s
  | some x =>
    if !ownsXfer c x then replyIncons c 0x0A02 0 s
    else if s.fwu.verify.isSome then replyBusy c 0x0A02 100 s
    else ({ replyAccepted c 0x0A02 s with fwu := { s.fwu with verify := some c } }).setB F.FWU_STATUS_VERIFY_BUSY true

/-- FW_VERIFY (R588). -/
def execFwVerify (c : Ctx) (s : State) : Host.Outcome State Fault Refusal :=
  finish (withCmd c 0x0A02 (doFwVerify c) s)

/-- In RECOVERY, the 10 s of R607 begin once both active banks are VALID. -/
def exitStart (s : State) : State :=
  if s.st = stRecovery ∧ s.flag (bankValid (actBank s 1)) ∧ s.flag (bankValid (actBank s 2)) then
    { s with fwu := { s.fwu with exitAt := some (s.time + 10 * sec) } }
  else s

/-- What an image that has passed becomes (R588, R605, R606). -/
def imagePassed (typ b : Nat) (s : State) : State :=
  let s := causeRec C.IMAGE_OK sevInfo [] s
  if typ = 3 then s.setB F.FWU_STATUS_RESCUE true
  else
    let s := markValid b s
    if typ = 1 ∧ s.st = stRecovery then
      { (s.set F.FWU_BANKS_ACT_SUP (b % 2)).setB F.FWU_STATUS_UNCONFIRMED true with
        fwu := { s.fwu with failed := false, confirmAt := none } }
    else s

/-- The verification of an open transfer completes with its result. -/
def verifyDone (c : Ctx) (readError : Bool) (s : State) : State :=
  let s := ({ s with fwu := { s.fwu with verify := none } }).setB F.FWU_STATUS_VERIFY_BUSY false
  match s.fwu.xfer with
  | none =>
    let s := causeRec C.IMAGE_BAD sevWarning (u8 0 ++ u8 1) (s.set F.FWU_LAST_VERIFY_RES 1)
    notifyOpt (some c) 0x0A02 stOk (u8 1 ++ u32 0) s
  | some x =>
    let b := xferBank s x.typ
    let k := { getBank s b with bad := readError }
    let r := if s.get F.FWU_XFER_OFFSET_VALUE ≠ x.size then 1 else checkImage s x.typ k
    let s := closeXfer ((setBank b k s).set F.FWU_LAST_VERIFY_RES r)
    let s := if r = 0 then imagePassed x.typ b s else causeRec C.IMAGE_BAD sevWarning (u8 x.typ ++ u8 r) s
    relayResult c x.typ r (exitStart (notifyOpt (some c) 0x0A02 stOk (u8 r ++ u32 (imgVersion k)) s))

/-- FW_VERIFY_DONE (R588): `readError` says whether the flash read had an error. -/
def execFwVerifyDone (readError : Bool) (s : State) : Host.Outcome State Fault Refusal :=
  finish (match s.fwu.verify with
    | some c => verifyDone c readError s
    | none => s)

/-- Per bank its type, version, anti-rollback count and VALID, each in a byte; then the transfer offset (R491). -/
def doFwStatus (c : Ctx) (s : State) : State :=
  let one (b : Nat) : List Byte :=
    let k := getBank s b
    u8 (b / 2 + 1) ++ u8 (imgVersion k) ++ u8 (imgArb k) ++ u8 (s.get (bankValid b))
  replyOk c 0x0A06 (((List.range 4).map one).flatten ++ u32 (s.get F.FWU_XFER_OFFSET_VALUE)) s

/-- FW_STATUS (R491). -/
def execFwStatus (c : Ctx) (s : State) : Host.Outcome State Fault Refusal :=
  finish (withCmd c 0x0A06 (doFwStatus c) s)

/-! ## Confirmation (R589, R593) -/

/-- A fuse counter rises to the count of the active image, the inactive bank may lose VALID, and the record. -/
def confirmImage (typ : Nat) (s : State) : State :=
  let k := getBank s (actBank s typ)
  let fuse := max (s.get (fuseFld typ)) (imgArb k)
  let s := s.set (fuseFld typ) fuse
  let o := idleBank s typ
  let s := if s.flag (bankValid o) && decide (imgArb (getBank s o) < fuse) then markInvalid o s else s
  addRec sevNotice 0x10 0x0012 (u8 typ ++ u32 (imgVersion k) ++ u8 fuse) s

/-- FW_CONFIRM (R593): 600 s without a failure. -/
def execFwConfirm (s : State) : Host.Outcome State Fault Refusal :=
  finish (match s.fwu.confirmAt with
    | some t =>
      if s.flag F.FWU_STATUS_UNCONFIRMED && !s.fwu.failed then
        let s := { s.at t with fwu := { s.fwu with confirmAt := none } }
        confirmImage 1 ((s.setB F.FWU_STATUS_UNCONFIRMED false).set F.FWU_CONFIRM_S_VALUE 0)
      else s
    | none => s)

/-! ## Hand-over (R597 to R600) -/

/-- The checks of R597. -/
def handoverOk (s : State) : Bool :=
  let b := idleBank s 1
  let k := getBank s b
  let write := imgNum (getBank s (actBank s 1)) 0x18 2
  s.flag (bankValid b) && decide (s.get F.FWU_BANKS_FUSE_SUP ≤ imgArb k) && s.fwu.ho.isNone &&
    !s.flag F.FWU_STATUS_UNCONFIRMED && decide (imgNum k 0x1A 2 ≤ write ∧ write ≤ imgNum k 0x1C 2)

def doFwActivateSup (c : Ctx) (s : State) : State :=
  let ok := handoverOk s
  let s := replyAccepted c 0x0A03 s
  if ok then { s with fwu := { s.fwu with ho := some { ctx := c } } }.set F.FWU_STATUS_HO_STATE 1
  else notifyOpt (some c) 0x0A03 stOk (u8 1) (s.set F.FWU_LAST_HO_RES 1)

/-- FW_ACTIVATE_SUP (R597). -/
def execFwActivateSup (c : Ctx) (s : State) : Host.Outcome State Fault Refusal :=
  finish (withCmd c 0x0A03 (doFwActivateSup c) s)

/-- The hand-over ends with a result. -/
def handoverEnd (r : Nat) (s : State) : State :=
  match s.fwu.ho with
  | none => s
  | some h =>
    let s := ({ s with fwu := { s.fwu with ho := none } }.set F.FWU_LAST_HO_RES r).set F.FWU_STATUS_HO_STATE 0
    let s := if r = 0 then causeRec C.HANDOVER_DONE sevNotice [] s else causeRec C.HANDOVER_FAIL sevWarning [] s
    notifyOpt (some h.ctx) 0x0A03 stOk (u8 r) s

/-- M1 and Mk at a management tick. -/
def handoverTick (s : State) : State :=
  match s.fwu.ho with
  | none => s
  | some h =>
    if h.m1 = none then { s with fwu := { s.fwu with ho := some { h with m1 := some s.time } } }
    else if s.get F.FWU_STATUS_HO_STATE = 2 then
      { s with fwu := { s.fwu with ho := some { h with mk_ := some s.time } } }.set F.FWU_STATUS_HO_STATE 3
    else s

/-- HANDOVER_READY (R598, R600): the new image reports READY, or has failed its checks. -/
def execHandoverReady (ok : Bool) (s : State) : Host.Outcome State Fault Refusal :=
  finish (match s.fwu.ho with
    | some h =>
      if h.m1.isSome ∧ s.get F.FWU_STATUS_HO_STATE = 1 then
        if ok then s.set F.FWU_STATUS_HO_STATE 2 else handoverEnd 2 s
      else s
    | none => s)

/-- HANDOVER_READY_TIMEOUT (R600): READY not reported by M1 + 20 s. -/
def execHandoverReadyTimeout (s : State) : Host.Outcome State Fault Refusal :=
  finish (match s.fwu.ho with
    | some h =>
      match h.m1 with
      | some t => if s.get F.FWU_STATUS_HO_STATE = 1 then handoverEnd 3 (s.at (t + 20 * sec)) else s
      | none => s
    | none => s)

/-- Ownership has changed (R593, R598). -/
def takeOver (mk_ : Nat) (s : State) : State :=
  let b := idleBank s 1
  let s := (s.set F.FWU_BANKS_ACT_SUP (b % 2)).setB F.FWU_STATUS_UNCONFIRMED true
  let s := s.set F.SYS_BOOT_BANK (b % 2)
  handoverEnd 0 { s with fwu := { s.fwu with failed := false, confirmAt := some (mk_ + 600 * sec) } }

/-- HANDOVER_DONE (R598, R600): what came of the change of owner at Mk, as a result of R600: 0 done; 4 a bad final
snapshot; 5 commands still running 200 ms after Mk, which fails at the third management tick; 7 the old image failed. -/
def execHandoverDone (result : BitVec 8) (s : State) : Host.Outcome State Fault Refusal :=
  finish (match s.fwu.ho with
    | some h =>
      match h.mk_ with
      | some t =>
        if s.get F.FWU_STATUS_HO_STATE = 3 then
          if result = 0 then takeOver t s
          else if result = 4 then handoverEnd 4 s
          else if result = 5 then
            if 2 ≤ h.misses then handoverEnd 5 s
            else
              let h := { h with mk_ := none, misses := h.misses + 1 }
              { s with fwu := { s.fwu with ho := some h } }.set F.FWU_STATUS_HO_STATE 2
          else if result = 7 then supLost 3 s
          else s
        else s
      | none => s
    | none => s)

/-- FWU_CONFIRM_S: the seconds left of R593. -/
def confirmShow (s : State) : State :=
  match s.fwu.confirmAt with
  | some t => s.set F.FWU_CONFIRM_S_VALUE ((t - s.time + sec - 1) / sec)
  | none => s.set F.FWU_CONFIRM_S_VALUE 0

/-! ## PLN activation (R601 to R603) -/

def plnOk (s : State) : Bool :=
  s.flag (bankValid (idleBank s 2)) && !s.flag F.SYS_STATE_HOLD && !anyContactor s

def plnResult (c : Ctx) (r : Nat) (s : State) : State :=
  notifyOpt (some c) 0x0A04 stOk (u8 r) (s.set F.FWU_LAST_PLN_RES r)

/-- The PLN_ACTIVATED record (R614): result, VERSION of the image, origin. -/
def plnRecord (c : Ctx) (r version : Nat) (s : State) : State :=
  addRec sevNotice 0x10 0x0014 (u8 r ++ u32 version ++ originBytes (Ctx.origin c)) s

def doFwActivatePln (c : Ctx) (s : State) : State :=
  if s.fwu.pln.isSome then replyBusy c 0x0A04 100 s
  else
    let ok := plnOk s
    let s := replyAccepted c 0x0A04 s
    if s.st = stRecovery then exitStart (plnResult c 0 (s.set F.FWU_BANKS_ACT_PLN (idleBank s 2 % 2)))
    else if !ok then plnResult c 1 s
    else
      let s := eisAbandon 0x4 (balHalt s)
      let s := { s with fwu := { s.fwu with pln := some (c, s.time) } }.setB F.FWU_STATUS_PLN_PAUSE true
      let s := lanesReady false s
      (s.set F.CVL_STATUS_MODE 0).set F.CVL_STATUS_GEN 0

/-- FW_ACTIVATE_PLN (R601, R602): the pause P0 begins once SP has announced it. -/
def execFwActivatePln (c : Ctx) (s : State) : Host.Outcome State Fault Refusal :=
  finish (withCmd c 0x0A04 (doFwActivatePln c) s)

/-- PLN_HEARTBEAT_TIMEOUT (R603): no SP heartbeat 1,000 ms after P0. -/
def execPlnHeartbeatTimeout (s : State) : Host.Outcome State Fault Refusal :=
  finish (match s.fwu.pln with
    | some (_, t) =>
      if s.flag F.FWU_STATUS_PLN_PAUSE then (let s := s.at (t + sec); sei 0x0D { s with safe := { s.safe with spBeat := false } }) else s
    | none => s)

/-- The engines run again, on the new or on the previous bank, and the ring is enumerated. -/
def plnBack (v : RingView) (s : State) : State :=
  let s := { lanesReady true (s.setB F.FWU_STATUS_PLN_PAUSE false) with safe := { s.safe with spBeat := true } }
  enumFinish v (estRestore false (enumStart none s))

/-- Both banks have failed (R46, R603): BOOT, then RECOVERY. The spec names no entry cause of RECOVERY_ENTER for it:
a free value. -/
def plnLost (s : State) : State :=
  let s := changeState stBoot 0x11 0 inside (warmRestart false (s.setB F.FWU_STATUS_PLN_PAUSE false))
  let f := s.fresh
  enterRecovery (f.1 % 256) f.2

/-- PLN_ACTIVATION_DONE (R593, R602, R603): result 0 the new image runs, 2 the previous one again, 3 neither. -/
def execPlnActivationDone (result : BitVec 8) (v : RingView) (s : State) :
    Host.Outcome State Fault Refusal :=
  finish (match s.fwu.pln with
    | none => s
    | some (c, _) =>
      let ver := imgVersion (getBank s (idleBank s 2))
      let x := { s with fwu := { s.fwu with pln := none } }
      if result = 0 then
        let x := plnBack v x
        let x := packRevShow (confirmImage 2 (x.set F.FWU_BANKS_ACT_PLN (idleBank x 2 % 2)))
        plnResult c 0 (plnRecord c 0 ver (x.setB F.SYS_RESET_CAUSE_PLN_ACT true))
      else if result = 2 then plnResult c 2 (plnRecord c 2 ver (plnBack v x))
      else if result = 3 then plnLost (plnRecord c 3 ver (x.set F.FWU_LAST_PLN_RES 3))
      else s)

end Sys2Proof.Machine
end

