-- ==== Sys2Proof/Machine/Commit.lean ====
section
/-!
DEFINITION. Shadowed configuration (R77 to R81): shadow writes, commits and discards with their tests, and what each
block does when its set becomes active.
-/

namespace Sys2Proof.Machine

/-! ## The shadow set -/

/-- The shadow words of a block. -/
def shadowOf (b : Block) (s : State) : List (Nat × Word) := s.shadow.filter (fun e => blockOf e.1 == some b)

/-- The state as it would be with a block's shadow active: what a commit checks (R78). -/
def shadowView (b : Block) (s : State) : State :=
  { s with regs := (shadowOf b s).foldl (fun r e => rfSet r e.1 e.2) s.regs }

/-- The words that a commit would change. -/
def changedWords (b : Block) (s : State) : List Nat :=
  ((shadowOf b s).filter (fun e => e.2 != s.word e.1)).map (·.1)

/-- A shadow word takes a value; a word equal to the active one is not listed. -/
def setShadow (a : Nat) (w : Word) (s : State) : State :=
  { s with shadow := if w = s.word a then tabDel s.shadow a else tabSet s.shadow a w }

/-- A rejection sets REJ_CAUSE and raises COMMIT_REJECT (R80). -/
def rejectCommit (b : Block) (cause : Nat) (s : State) : State := raise C.COMMIT_REJECT (s.set (shRej b) cause)

/-- A write of the bits in `mask` lands in the shadow (R78), unless a commit is pending (R80). -/
def shadowWrite (b : Block) (a : Nat) (mask v : Word) (s : State) : State × WRes :=
  if s.flag (shPending b) then (rejectCommit b 6 s, .busy 100)
  else (setShadow a ((s.shadowWord a &&& ~~~mask) ||| (v &&& mask)) (s.bump (shToken b) 1), .ok)

/-! ## Checks of each block -/

def inRange (lo hi x : Nat) : Bool := decide (lo ≤ x ∧ x ≤ hi)

/-- CTL (R313, with the ranges of R325 and R326). -/
def ctlChecks (s : State) : Bool :=
  ctlCross s.word && inRange 1 10000 (s.get F.CTL_RAMP_STOP_RATE) && inRange 1 10000 (s.get F.CTL_RAMP_CLOSE_RAMP) &&
    inRange 1 255 (s.get F.CTL_PRE_PRE_TMAX) && inRange 50 99 (s.get F.CTL_PRE_PRE_THR) &&
    inRange 1 10000 (s.get F.CTL_PRE_R_PRE) && inRange 0 64 (s.get F.CTL_RC_GAIN_Q1) &&
    inRange 0 100 (s.get F.CTL_RC_GAIN_LEAD) && inRange 0 32768 (s.get F.CTL_RC_GAIN_K_L)

/-- The loop-closed rule and the IRATED rule (R312). -/
def ctlState (s : State) : Option WRes :=
  let diff := changedWords .ctl s
  let shut := s.flag F.CTL_STATUS_CLOSED || s.flag F.CTL_STATUS_CLOSE_PENDING
  if shut && diff.any (fun a => !(0x20024 ≤ a && a ≤ 0x20034)) then some .loopClosed
  else if s.st != stCommission && diff.contains 0x20020 then some .forbids
  else none

/-- CVL (R135): the configured boards and their positions. -/
def cvlChecks (s : State) : Bool :=
  let n := s.get F.CVL_CFG_BOARDS
  let cls (k : Nat) : Nat := s.get (F.CVL_BRD_CFG_CLASS k)
  let cnt (k : Nat) : Nat := s.get (F.CVL_BRD_CFG_COUNT k)
  let base (k : Nat) : Nat := s.get (F.CVL_BRD_CFG_BASE k)
  let p := (List.range n).foldl (fun x k => x + cnt k) 0
  let covers (i : Nat) : Nat := (List.range n).countP (fun k => decide (base k ≤ i ∧ i < base k + cnt k))
  inRange 1 36 n &&
    (List.range 36).all (fun k =>
      if k < n then cls k != 0 && inRange 1 (if cls k = 1 then 12 else 16) (cnt k) && decide (base k + cnt k ≤ p)
      else cls k == 0) &&
    (List.range p).all (fun i => covers i == 1)

/-- May a CVL set be committed now (R135)? -/
def cvlState (s : State) : Bool :=
  (s.st == stStandby || s.st == stTest || s.st == stCommission) && !anyContactor s && !s.flag F.SYS_STATE_HOLD

/-- EST (R254, with the ranges of R255 to R257). -/
def estChecks (s : State) : Bool :=
  let hi := s.get F.EST_WINDOW_SOC_HIGH
  let lo := s.get F.EST_WINDOW_SOC_LOW
  let dm := s.get F.EST_LEARN_DSOC_MIN
  let um := s.get F.EST_UNC_UNC_MAX
  decide (lo + 1000 ≤ hi ∧ dm + lo ≤ hi ∧ 100 ≤ um) && inRange 125 250 (s.get F.EST_CFG_Q_MIN) &&
    inRange 1 50 (s.get F.EST_CFG_I_THRESH) && inRange 10 1000 (s.get F.EST_REST_DVDT_MAX) &&
    inRange 5 240 (s.get F.EST_REST_REST_MIN) && inRange 5 50 (s.get F.EST_VIRT_RESID_MAX) &&
    inRange 10 100 (s.get F.EST_VIRT_I_MAX) && inRange 10 600 (s.get F.EST_VIRT_HOLD_S) && inRange 2000 8000 dm &&
    inRange 10 200 (s.get F.EST_LEARN_SLOPE_MIN) && inRange 5 100 (s.get F.EST_LEARN_CAP_SIG_MAX) &&
    inRange 100 5000 um && inRange 100 2000 (s.get F.EST_UNC_CONV_SPAN) &&
    inRange 1 5000 (s.get F.EST_NOISE_SIGMA_I) && inRange 10 1000 (s.get F.EST_NOISE_SIGMA_V) &&
    inRange 0 10000 hi && inRange 0 10000 lo

/-- THM (R377, with the ranges of R375, R378 and R379). -/
def thmGroup (s : State) (g : Nat) (lo hi : Int) : Bool :=
  let shut := grpShut s g
  let thr := grpThr s g
  let re := grpRestart s g
  decide (re + 30 ≤ thr ∧ thr + 50 ≤ shut ∧ lo ≤ re ∧ lo ≤ thr ∧ lo ≤ shut ∧ re ≤ hi ∧ thr ≤ hi ∧ shut ≤ hi)

def thmCurve (s : State) (o : Nat) : Bool :=
  inRange 0 2 (s.get (coolFld o 30 2)) && inRange 10 255 (s.get (coolFld o 16 8)) &&
    (s.get (coolFld o 28 2) != 3 || (List.range 4).any (outletRole s)) && inRange 0 100 (coolMin s o)

def thmChecks (s : State) : Bool :=
  thmGroup s 0 (-200) 800 && thmGroup s 1 0 1500 && thmGroup s 2 (-200) 1000 &&
    inRange 0 8 (s.get F.THM_CFG_FAULT_STEP) && thmCurve s 0 && thmCurve s 1 && inRange 1 100 (s.get F.THM_CHL_PERIOD)

/-- Pairwise different. -/
def distinct (l : List (Bool × Nat)) : Bool := decide l.Nodup

/-- CAN (R534, with the ranges of R545 and R546). -/
def canChecks (ch : CanCh) (s : State) : Bool :=
  let f (off lo n : Nat) : Nat := s.get (canFld ch off lo n)
  let q := f 4 0 6 * (1 + f 4 24 8 + f 4 16 8)
  let qd := f 8 0 6 * (1 + f 8 24 8 + f 8 16 8)
  let rx := (List.range 64).filterMap (fun j =>
    if rxOwned s ch j then none else objWord (s.word (canBase ch + 0x100 + 4 * j)))
  let tx := (List.range 32).filterMap (fun i =>
    if txOwned s ch i then none else objWord (s.word (canBase ch + 0x300 + 4 * i)))
  let fd := s.flag (canFld ch 0 2 1)
  inRange 1 128 (f 4 24 8) && inRange 1 64 (f 4 16 8) && inRange 1 64 (f 4 8 8) && inRange 1 32 (f 4 0 6) &&
    inRange 1 32 (f 8 24 8) && inRange 1 16 (f 8 16 8) && inRange 1 16 (f 8 8 8) && inRange 1 32 (f 8 0 6) &&
    inRange 40 4000 q && decide (f 4 8 8 ≤ f 4 16 8) &&
    (!fd || (inRange 8 q qd && decide (f 8 8 8 ≤ f 8 16 8) && (decide (40 ≤ qd) || s.flag (canFld ch 0xC 8 1)))) &&
    (!s.flag (canFld ch 0 4 1) || decide (320 ≤ q)) && distinct rx && distinct tx &&
    (rx ++ tx).all (fun e => e.1 || decide (e.2 < 0x800))

/-- The range and cross-field checks of a block on its shadow set (R78). -/
def blockChecks (b : Block) (s : State) : Bool :=
  let v := shadowView b s
  match b with
  | .ctl => ctlChecks v
  | .cvl => cvlChecks v
  | .est => estChecks v
  | .thm => thmChecks v
  | .safe => safeChecks v
  | .cana => canChecks .cana v
  | .canb => canChecks .canb v

/-- The state rule of a block (R80, case 0x5). -/
def blockState (b : Block) (s : State) : Option WRes :=
  match b with
  | .ctl => ctlState s
  | .cvl => if cvlState s then none else some .forbids
  | .safe => if safeCommitState s then none else some .forbids
  | _ => none

/-! ## Application -/

/-- A SAFE set is active: its CRC and record, the values that the ZSL evaluates posted, with those before still in force
there, the demand of an input that is used from now on, and the board thresholds where they changed (R402, R404, R419,
R421). -/
def safeApplied (old : State) (o : Origin) (s : State) : State :=
  let before := (zslCfg old, old.safe.zslOld.elim (old.word F.SAFE_AUXOC_AUX_OC.addr) (·.2))
  let s := safeActive o { s with safe := { s.safe with zslOld := some before } }
  let s := newDemands old (postOwn ⟨.zsl, 0x30000, 0, 0, o, false, s.time⟩ s)
  if old.word 0x30014 = s.word 0x30014 ∧ old.word 0x30018 = s.word 0x30018 then s
  else ((boardNums s).filter (fun k => present s k)).foldl sendThresholds s

/-- What a block does when its set has become active. -/
def blockApplied (b : Block) (o : Origin) (old s : State) : State :=
  match b with
  | .ctl => ctlApplied old s
  | .safe => safeApplied old o s
  | .cana => canCommitted .cana (canIdents old .cana) s
  | .canb => canCommitted .canb (canIdents old .canb) s
  | _ => s

/-- At the block's boundary a pending set becomes active as a whole (R78): one CONFIG_WRITE record for each word it
changes (R569, DEDUCED, log entry 21), and COMMIT_DONE. -/
def applyCommit (b : Block) (s : State) : State :=
  if s.flag (shPending b) then
    let o := tabGet s.sys.commitBy (blockIdx b) inside
    let l := shadowOf b s
    let t := l.foldl (fun s e => storeWord o e.1 e.2 s) s
    let t := ({ t with
      shadow := t.shadow.filter (fun e => blockOf e.1 != some b)
      sys := { t.sys with
        commitBy := tabDel t.sys.commitBy (blockIdx b)
        commitAt := tabDel t.sys.commitAt (blockIdx b)
        cleanTok := tabSet t.sys.cleanTok (blockIdx b) (t.get (shToken b)) } }).setB (shPending b) false
    raise C.COMMIT_DONE (blockApplied b o s t)
  else s

/-- A boundary of a block at this instant: a commit that landed in the same clock waits for the following one (R78). -/
def boundaryCommit (b : Block) (s : State) : State :=
  if (s.sys.commitAt.lookup (blockIdx b)).all (fun t => decide (t < s.time)) then applyCommit b s else s

/-- A CAN channel counts as idle at once while EN is 0 or it is bus-off (R534). -/
def idleNow (b : Block) (s : State) : Bool :=
  match b with
  | .cana => !canEn s .cana || s.flag (canBusOff .cana)
  | .canb => !canEn s .canb || s.flag (canBusOff .canb)
  | _ => false

def canBlock : CanCh → Block
  | .cana => .cana
  | .canb => .canb

/-- CAN_ERROR (R541); a commit that waits for bus idle applies at once where the channel goes bus-off (R534). -/
def execCanError (ch : CanCh) (tx : Bool) (lec : BitVec 3) (dominant : Bool) (s : State) :
    Host.Outcome State Fault Refusal :=
  let b := canBlock ch
  finish (if canOn s ch && (!tx || (canChan s ch).cur.isSome) then
    let s := canError ch tx lec.toNat dominant s
    if idleNow b s then applyCommit b s else s
  else s)

/-! ## Commit and discard -/

/-- Is a write of a commit register authorised: a SAFE 0x5A commit needs an authorised RCP session (R80, R482)? -/
def commitAuth (b : Block) (p : Path) (s : State) : Bool :=
  match b with
  | .safe => (match p with | .rcp c => authorised c s | .win => false)
  | _ => true

/-- A commit that has passed every test: PENDING sets. -/
def acceptCommit (b : Block) (o : Origin) (s : State) : State :=
  let s := { s with sys := { s.sys with
    commitBy := tabSet s.sys.commitBy (blockIdx b) o, commitAt := tabSet s.sys.commitAt (blockIdx b) s.time } }
  let s := s.setB (shPending b) true
  if idleNow b s then applyCommit b s else s

/-- The shadow is reloaded from the active set; TOKEN increments (R78). -/
def discardNow (b : Block) (s : State) : State :=
  let s := (discardShadow b s).bump (shToken b) 1
  { s with sys := { s.sys with cleanTok := tabSet s.sys.cleanTok (blockIdx b) (s.get (shToken b)) } }

/-- A full-word write of <BLOCK>_COMMIT, tested in the order of R80. -/
def commitWrite (b : Block) (p : Path) (v : Word) (s : State) : State × WRes :=
  let key := fieldOf v 24 8
  if key ≠ 0x5A ∧ key ≠ 0xD1 then (rejectCommit b 2 s, .range)
  else if s.flag (shPending b) then (rejectCommit b 6 s, .busy 100)
  else if fieldOf v 0 16 ≠ s.get (shToken b) then (rejectCommit b 1 s, .incons 0)
  else if key = 0xD1 then (discardNow b s, .ok)
  else if !commitAuth b p s then (rejectCommit b 4 s, .auth)
  else match blockState b s with
    | some r => (rejectCommit b 5 s, r)
    | none =>
      if blockChecks b s then (acceptCommit b (Path.origin p) s, .ok) else (rejectCommit b 3 s, .incons 0)

/-- The word of a commit with a key and a token. -/
def commitWord (key : Nat) (token : BitVec 16) : Word := BitVec.ofNat 32 (key * 2 ^ 24 + token.toNat)

/-- BLOCK_COMMIT (R78): KEY 0x5A. -/
def execBlockCommit (p : Path) (b : Block) (token : BitVec 16) (s : State) : Host.Outcome State Fault Refusal :=
  let w := commitWord 0x5A token
  finish (withWrite p (commitAddr b) w (commitWrite b p w) s)

/-- SHADOW_DISCARD (R78): KEY 0xD1. -/
def execShadowDiscard (p : Path) (b : Block) (token : BitVec 16) (s : State) : Host.Outcome State Fault Refusal :=
  let w := commitWord 0xD1 token
  finish (withWrite p (commitAddr b) w (commitWrite b p w) s)

/-- COMMIT_APPLY (R78): the block's first boundary after the commit, for a boundary with no row of its own (a bus idle
of a CAN channel) as for the others. -/
def execCommitApply (b : Block) (s : State) : Host.Outcome State Fault Refusal :=
  finish (if hostPowered s then applyCommit b s else s)

/-! ## Re-initialise of CAN (R65, R81) -/

/-- A stopped controller counts as idle: a pending commit applies; other shadow writes stay. -/
def doReinitCana (c : Ctx) (s : State) : State := reinit c 0x0C02 (fun s => applyCommit .cana (canReinit .cana s)) s
def doReinitCanb (c : Ctx) (s : State) : State := reinit c 0x0C03 (fun s => applyCommit .canb (canReinit .canb s)) s

/-- REINIT_CANA (R65, R81). -/
def execReinitCana (c : Ctx) (s : State) : Host.Outcome State Fault Refusal :=
  finish (withCmd c 0x0C02 (doReinitCana c) s)

/-- REINIT_CANB (R65, R81). -/
def execReinitCanb (c : Ctx) (s : State) : Host.Outcome State Fault Refusal :=
  finish (withCmd c 0x0C03 (doReinitCanb c) s)

end Sys2Proof.Machine
end

