-- ==== Sys2Proof/Machine/Ticks.lean ====
section
/-!
DEFINITION. The commands that run the whole module at once: ticks and frame starts with the commits that become active
at them (R77, R78), and the events of the ring that reach into several chapters.
-/

namespace Sys2Proof.Machine

/-! ## Ticks (R32, R33) -/

/-- FRAME_START (R102). -/
def execFrameStart (lastA : BitVec 6) (s : State) : Host.Outcome State Fault Refusal :=
  finish (if ringRuns s && !isC1 s then ringFrame lastA.toNat (boundaryCommit .cvl (s.tick tkFrame 15625)) else s)

/-- CARAVAN1_SCAN (R117). -/
def execCaravan1Scan (slots : List BoardSlot) (errors : Nat) (reports : List BypassReport) (lastA : Option (BitVec 6))
    (s : State) : Host.Outcome State Fault Refusal :=
  finish (if ringRuns s && isC1 s then
    scanIn slots errors reports (lastA.map (·.toNat)) (boundaryCommit .cvl (s.tick tkFrame 2500000))
  else s)

/-- PWM_PERIOD_START (R294): CTL commits, then accepted closes (R309). -/
def execPwmPeriodStart (s : State) : Host.Outcome State Fault Refusal :=
  finish (if enginesUp s then closeTake (boundaryCommit .ctl (pwmTick s)) else s)

/-- PROTECTION_TICK (R401): `ampl` is the tone amplitude over the latest 1 ms, in 0.1 Vpp (R140). -/
def execProtectionTick (ampl : BitVec 8) (s : State) : Host.Outcome State Fault Refusal :=
  finish (if enginesUp s then
    latchSummary (settle (protectionWork (wadiLow (wadiAmpl ampl.toNat (boundaryCommit .safe (s.tick tkProtection ms))))))
  else s)

/-- The estimator's and the recipe engine's part runs with the supervisor's images loaded, not in RECOVERY (R43, R52). -/
def lanesRun (s : State) : Bool := enginesUp s && s.st != stRecovery && (s.st != stBoot || s.sys.supRuns)

/-- The extremes of V_SCAN over positions with a valid reading, and of TEMP; the positions admitted by R267 in CV at or
below a current (R349). -/
def tickView (s : State) : TickView :=
  let l := (positions s).filter (scanValid s)
  let v (n : Nat) : Int := (getCell s n).vScan
  let most (f : Int → Int → Int) (d : Int) (g : Nat → Int) (l : List Nat) : Int :=
    match l with
    | [] => d
    | n :: t => t.foldl (fun m n => f m (g n)) (g n)
  let amps (n : Nat) : Rat := s.acq.iScan - ((tabGet s.bal.report n 0 : Int) : Rat) / 100
  { vHigh := most max 0 v l
    vLow := most min 100000000 v l
    tHigh := most max (-32768) (fun n => (getCell s n).temp) (positions s)
    cvBelow := fun thr => (positions s).all (fun n => !admitted s n || (inCv s n && decide (amps n * 1000 ≤ (thr : Rat)))) }

/-- RECIPE_TMAX_EXPIRY (R350): the estimation tick at which TMAX is met; a TERM that holds there goes first. -/
def execRecipeTmaxExpiry (s : State) : Host.Outcome State Fault Refusal :=
  finish (match s.disp.run with
    | some r =>
      if r.active then
        let t := r.stepAt + stTmax (stepRec (getRecipe s r.recipe) r.step) * sec
        let s := s.at ((t + 2499999) / 2500000 * 2500000)
        recipeAct (tickView s) s
      else s
    | none => s)

/-- DSP_LANEn_STATUS.FILTER (R214). -/
def filterBits (s : State) : State :=
  (List.range 8).foldl (fun s n => s.setB (F.DSP_LANE_STATUS_FILTER n)
    (s.flag F.EST_STATUS_RUN && s.flag (F.DSP_LANE_STATUS_READY n))) s

/-- The parts of an estimation tick in order: SCAN, sum check and diagnosis; balancing; the recipe engine; the filters
and the published rows (R149, R224, R277, R350). -/
def estimationWork (s : State) : State :=
  let s := gradeTick (balTick (acqTick s))
  let s := recipeTick (tickView s) s
  acqPrune (measSoc (filterBits (estTick s)))

/-- ESTIMATION_TICK (R224). -/
def execEstimationTick (s : State) : Host.Outcome State Fault Refusal :=
  finish (if lanesRun s then estimationWork (boundaryCommit .est (s.tick tkEstimation 2500000)) else s)

/-- The peak lane loads of the last management tick are measurements of the implementation: free values (R214, DESIGN CHOICE, log
entry 3). -/
def laneLoads (s : State) : State :=
  (List.range 8).foldl (fun s n => let f := s.fresh; f.2.set (F.DSP_LANE_STATUS_LOAD n) (f.1 % 101)) s

/-- The supervisor's part of a management tick (R32). -/
def managementWork (s : State) : State :=
  let s := missRecord (estManage (balManage s))
  laneLoads (confirmShow (handoverTick (testIdle s)))

/-- MANAGEMENT_TICK (R32): operating seconds run while the module is on (R565), and the recorder reports its drops, in direct
mode too (R574). -/
def execManagementTick (s : State) : Host.Outcome State Fault Refusal :=
  finish (if hostPowered s then
    let s := s.tick tkManagement sec
    let s := holdSeconds { s with
      sys := { s.sys with opSec := s.sys.opSec + 1 }
      dio := { s.dio with retryDue := true } }
    dropSummary (if supActs s then managementWork s else s)
  else s)

/-- THERMAL_SCAN (R366): PST and die readings in 0.1 °C. Thermal policy is the supervisor's (R12), so direct mode has no scan
(DEDUCED, log entry 76). -/
def execThermalScan (pst : List Int) (die : Int) (s : State) : Host.Outcome State Fault Refusal :=
  finish (if s.awake && enginesUp s && supActs s then
    scanThermal pst die (boundaryCommit .thm (s.tick tkThermal (scanPeriod s)))
  else s)

/-! ## The ring (R118 to R127) -/

/-- ENUM_DONE (R118): enumeration completes. -/
def execEnumDone (v : RingView) (s : State) : Host.Outcome State Fault Refusal :=
  finish (if s.flag F.CVL_STATUS_ENUM_BUSY && enginesUp s then enumFinish v s else s)

/-- Positions of a board that has come with a new serial are inserted at their first valid reading (R120, R229). -/
def insertNew (was : List Nat) (s : State) : State :=
  let new := (boardNums s).filter (fun k =>
    present s k && s.flag (F.CVL_BRD_STATE_SERIAL_NEW (k - 1)) && !was.contains k)
  let pos := (new.map (brdPositions s)).flatten
  { s with est := { s.est with insertValid := (s.est.insertValid ++ pos).dedup } }

/-- RING_RESTORE (R124): both ports and the boards at the break have been up for 1 s; the delays are measured and RING_MODE
is broadcast in the next frame, with effect at the frame start after it. The keep-alive scan restores nothing (R125). -/
def execRingRestore (back : List BackBoard) (s : State) : Host.Outcome State Fault Refusal :=
  finish (if ringRuns s && s.ring.split && !keepAlive s && !portGone s then
    let was := (boardNums s).filter (fun k => s.flag (F.CVL_BRD_STATE_SERIAL_NEW (k - 1)))
    let mine := back.filter (fun b => decide (1 ≤ b.k ∧ b.k ≤ boards s))
    let s := insertNew was (mine.foldl restoreBoard s)
    boardCast 0x06 (u8 0) { s with ring := { s.ring with restoring := some false } }
  else s)

/-- KEEPALIVE_TAKEOVER (R125): CS takes the ring over at a frame start; a changed BOARDS asks for an enumeration, which
waits for open contactors. -/
def execKeepaliveTakeover (s : State) : Host.Outcome State Fault Refusal :=
  finish (if keepAlive s && s.sys.supRuns && s.get F.CVL_STATUS_GEN != 0 then
    let s := s.set F.CVL_STATUS_MODE (if s.ring.split then 2 else 1)
    let s := reportAsk (restoreDue s)
    if s.get F.CVL_CFG_BOARDS = s.ring.boards then s
    else enumWaitCheck { s with ring := { s.ring with enumWait := true } }
  else s)

/-! ## Board commands (R115, R116, R272, R402) -/

/-- A board that refuses a threshold, or returns another, is handled as one whose class differs (R120, R402). -/
def boardBad (k : Nat) (s : State) : State :=
  let s := setBrd k { getBrd s k with read := false } s
  raise C.BOARD_MISSING ((s.setB (F.CVL_BRD_STATE_PRESENT (k - 1)) false).setB (F.CVL_BRD_STATE_MISSING (k - 1)) true)

/-- The word of the committed SAFE set that belongs in remote word 5, 6 or 7. -/
def thresholdOf (s : State) (i : Nat) : Nat :=
  if i = 5 then s.get F.SAFE_CMP_V_CMP_OV else if i = 6 then s.get F.SAFE_CMP_V_CMP_UV else s.get F.SAFE_CMP_T_CMP_OT

def isThreshold (i : Nat) : Bool := decide (5 ≤ i ∧ i ≤ 7)

/-- The posted write of remote word `i` of board `k`. -/
def cvrPost (s : State) (k i : Nat) : Bool := s.sys.posts.any (fun p => p.dom == .cvr && p.addr == mirrorKey k i)

/-- A WADI_TEST whose board does not open its switch: the spec names no completion for it but that of a switch that
stays closed (R145). -/
def wadiTestFail (k : Nat) (s : State) : State :=
  match s.ring.wadiTest with
  | some x =>
    if x.board = k then
      notifyOpt (some x.ctx) 0x0280 stForbids (u8 (s.get F.CVL_WADI_FIRST_DARK) ++ u16 0xFFFF)
        { s with ring := { s.ring with wadiTest := none } }
    else s
  | none => s

/-- A command fails: unanswered after two re-sends (R115), or refused by the board (a WRITE at once: DEDUCED, log entry
145). -/
def cmdFail (x : BoardCmd) (s : State) : State :=
  let k := x.board
  let i := numAt x.payload 0 1
  match x.code with
  | 0x01 => if isThreshold i then boardBad k s else s
  | 0x02 => if isThreshold i then boardBad k s else if cvrPost s k i then postAbandon .cvr s else s
  | 0x08 => wadiTestFail k s
  | 0x10 => if owBusy s k then owReqDone k [] (owDrop k s) else s
  | 0x18 => balFault k s
  | 0x1A => sleepTry (handoffMiss k s)
  | _ => s

/-- A refused command is sent again. -/
def sendAgain (x : BoardCmd) (s : State) : State := queueCmd x.again s

/-- A command has been answered with OK and the bytes of its response. -/
def cmdDone (x : BoardCmd) (data : List Byte) (s : State) : State :=
  let k := x.board
  let i := numAt x.payload 0 1
  match x.code with
  | 0x01 =>
    let w := BitVec.ofNat 32 (numAt data 0 4)
    let s := if i < 12 then setMirror k i w s else s
    if isThreshold i && fieldOf w 0 16 != thresholdOf s i then boardBad k s else s
  | 0x02 => if isThreshold i then boardSend k 0x01 (u8 i) s else if cvrPost s k i then postDone .cvr s else s
  | 0x18 => balAck k s
  | 0x1A => sleepTry (handoffAck k s)
  | 0x1B => reportIn k i data s
  | _ => s

/-- BOARD_RESPONSE (R115): BAL_SET and OASIS_TARGETS with another RESULT than OK are re-sent before they fail (R272, DEDUCED, log
entry 46). -/
def execBoardResponse (k : Nat) (code result : BitVec 8) (data : List Byte) (s : State) :
    Host.Outcome State Fault Refusal :=
  finish (if ringRuns s then
    match findCmd k code.toNat s with
    | some x =>
      let s := dropCmd k code.toNat s
      let s := if x.code = 0x18 then chanAnswer k (result == 0) s else s
      if result = 0 then cmdDone x data s
      else if (x.code = 0x18 ∨ x.code = 0x1A) ∧ x.tries < 2 then sendAgain x s
      else cmdFail x s
    | none => s
  else s)

/-- BOARD_COMMAND_FAIL (R115): 4 frames or scans without a response after the second re-send. -/
def execBoardCommandFail (k : Nat) (code : BitVec 8) (s : State) : Host.Outcome State Fault Refusal :=
  finish (match findCmd k code.toNat s with
    | some x => if 4 ≤ x.age ∧ 2 ≤ x.tries then cmdFail x (dropCmd k code.toNat s) else s
    | none => s)

/-! ## The mirror of remote words (R127) -/

/-- The valid NTC readings of a board: its words 8 and 9, less the channels its status word shows open (R106, R400). -/
def boardNtcs (s : State) (k : Nat) : List Int :=
  (List.range 4).filterMap (fun i =>
    match readNtc s k i with | .valid t => some t | _ => none)

/-- One board's refreshed words. -/
def refreshBoard (s : State) (e : Nat × List (BitVec 32)) : State :=
  let k := e.1
  if 1 ≤ k ∧ k ≤ boards s ∧ (getBrd s k).read then
    let s := (List.range (min 12 e.2.length)).foldl (fun s i => setMirror k i (getAt e.2 i 0) s) s
    let s := match boardNtcs s k with
      | [] => s
      | t :: l => spTemp k (l.foldl max t) s
    if 10 < e.2.length then balTemp k (signed 16 (fieldOf (getAt e.2 10 0) 0 16)) s else s
  else s

/-- A valid cell NTC below T_CHG_MIN (R401). -/
def coldCells (s : State) : Bool :=
  let lim := s.getI F.SAFE_CELL_T_T_CHG_MIN
  (boardNums s).any (fun k => (boardNtcs s k).any (fun t => decide (t < lim)))

/-- REMOTE_MIRROR_REFRESH (R127): words 0 to 11 by board, and RB_BAL_STATE and RB_CV_MASK where CS reads them (R272,
R276). -/
def execRemoteMirrorRefresh (words : List (Nat × List (BitVec 32))) (balStates cvMasks : List (Nat × BitVec 32))
    (s : State) : Host.Outcome State Fault Refusal :=
  finish (if ringRuns s && !keepAlive s then
    let s := words.foldl refreshBoard s
    let s := { s with safe := { s.safe with cold := coldCells s } }
    let mine (e : Nat × BitVec 32) : Bool := decide (1 ≤ e.1 ∧ e.1 ≤ boards s)
    let s := (balStates.filter mine).foldl (fun s e => balState e.1 e.2 s) s
    (cvMasks.filter mine).foldl (fun s e => balCv e.1 e.2 s) s
  else s)

end Sys2Proof.Machine
end

