-- ==== Sys2Proof/Machine/Access.lean ====
section
/-!
DEFINITION. Register access (R67 to R76, R79, R82, R492): the register space, its bulk tables and bit aliases, reads
and writes by access code, and the register opcodes.
-/

namespace Sys2Proof.Machine

/-! ## The register space (R67, R69, R75) -/

/-- The ranges of the layout table: first and last address. -/
def layout : List (Nat × Nat) :=
  [(0x0, 0x3FFF), (0x10000, 0x15FFF), (0x20000, 0x23FFF), (0x30000, 0x32FFF), (0x40000, 0x44FFF), (0x50000, 0x52FFF),
    (0x100000, 0x108FFF), (0x110000, 0x11FFFF), (0x120000, 0x14FFFF), (0x1000000, 0x1BFFFFF)]

/-- An address that an access may name. -/
def validAddr (a : Nat) : Bool := a % 4 == 0 && layout.any (fun r => decide (r.1 ≤ a ∧ a ≤ r.2))

def isAlias (a : Nat) : Bool := decide (0x1000000 ≤ a ∧ a ≤ 0x1BFFFFF)

/-- The word and the bit of an alias. -/
def aliasWord (a : Nat) : Nat := (a - 0x1000000) / 128 * 4
def aliasBit (a : Nat) : Nat := (a - 0x1000000) % 128 / 4

/-- The bits of a word with an access code. -/
def codeMask (c : Access) (a : Nat) : Word :=
  match findReg a with
  | some r => r.flds.foldl (fun m f => if f.code = c then m ||| fdMask f else m) 0
  | none => 0

/-- The bits of a word that a write may change. -/
def writable (a : Nat) : Word :=
  codeMask .rw a ||| codeMask .w1 a ||| codeMask .ws a ||| codeMask .wp a

/-- The block whose commit register an address is (R77). -/
def commitBlock (a : Nat) : Option Block := allBlocks.find? (fun b => commitAddr b == a)

/-! ## Bulk tables (R172, R206, R251) -/

/-- A resistance of the cell table, 0.001 mΩ (R172). -/
def wireWord (s : State) (w : Nat) : Nat := (s.acq.wires.lookup w).getD 0x7FFFFFFF

/-- Row `n` of the cell table (R172). -/
def cellRow (s : State) (n : Nat) : List Byte :=
  if posCount s ≤ n then List.replicate 0x34 (0 : Byte) ++ [5, 5] ++ List.replicate 10 (0 : Byte)
  else
    let c := getCell s n
    let b := (posBoard s n).getD (0, 0)
    s32 c.vScan ++ s32 c.vPrec ++ s32 c.vFrame ++ s32 c.balCorr ++ u64 c.tScan ++ u64 c.tPrec ++ u32 (wireWord s n) ++
      u32 (wireWord s (n + 1)) ++ s32 c.iBal ++ s32 c.dev ++ s16 c.temp ++ u16 c.age ++ u8 c.tagScan ++ u8 c.tagPrec ++
      u8 c.flags ++ u8 b.1 ++ u8 b.2 ++ u8 c.valid ++ u16 0 ++ u32 c.seq

/-- State row `n` of the estimator table; STALE shows in direct mode (R26, R251). -/
def estRow (s : State) (n : Nat) : List Byte :=
  if posCount s ≤ n then []
  else
    let r := tabGet s.est.pubState n (List.replicate 64 (0 : Byte))
    if s.direct then setAt r 6 (getAt r 6 0 ||| 1) else r

/-- The header of the impedance results (R206). -/
def zHeader (s : State) : List Byte :=
  match s.eis.result with
  | none => []
  | some (seq, r) =>
    u32 seq ++ u8 r.mode ++ u8 r.n ++ u16 0 ++ u64 r.tStart ++ u64 r.tEnd ++ u32 r.aRms ++ s32 r.iMean ++
      ((List.range 24).map (fun t => u32 (getAt toneBin t 0) ++ u32 (getAt r.iAch t 0))).flatten ++ u32 seq

/-- A tone entry (R206). -/
def toneBytes (t : Tone) : List Byte := s32 t.re ++ s32 t.im ++ u16 t.unc ++ u8 t.coh ++ u8 t.flags

/-- The STEP fields of a row (R204, R206). -/
def stepBytes : Option StepRow → List Byte
  | some x => s32 x.rOhm ++ s32 x.r10 ++ s32 x.r1 ++ u32 x.seq ++ s32 x.di
  | none => List.replicate 20 (0 : Byte)

/-- Impedance row of position `n` (R206). -/
def zRow (s : State) (n : Nat) : List Byte :=
  let st := if posCount s ≤ n then none else s.eis.steps.lookup n
  let bit := 16 * b2n st.isSome
  let row : Option (Nat × ZRow) :=
    if posCount s ≤ n then none
    else match s.eis.result with
      | some (q, r) => (r.rows.lookup n).map (fun x => (q, x))
      | none => none
  match row with
  | some (q, r) =>
    u32 q ++ s16 r.temp ++ u8 r.span ++ u8 r.nv ++ u16 r.soc ++ u8 (r.flags ||| bit) ++ u8 r.validTones ++ stepBytes st ++
      ((List.range 24).map (fun t => toneBytes (getAt r.tones t noTone))).flatten
  | none =>
    List.replicate 10 (0 : Byte) ++ u8 (1 ||| bit) ++ u8 0 ++ stepBytes st ++
      ((List.range 24).map (fun _ => toneBytes noTone)).flatten

/-- The word at an offset of a row; 0 past its end. -/
def rowWord (l : List Byte) (off : Nat) : Word := BitVec.ofNat 32 (numAt l off 4)

/-- A word of a bulk table (R68). -/
def bulkWord (s : State) (a : Nat) : Word :=
  if a < 0x109000 then rowWord (cellRow s ((a - 0x100000) / 64)) (a % 64)
  else if a < 0x119000 then rowWord (estRow s ((a - 0x110000) / 64)) (a % 64)
  else if a < 0x11E000 then
    let n := (a - 0x119000) / 32
    if posCount s ≤ n then 0 else rowWord (tabGet s.est.pubModel n []) (a % 32)
  else if a < 0x120000 then rowWord s.est.pubSum (a - 0x11E000)
  else if a < 0x121000 then rowWord (zHeader s) (a - 0x120000)
  else
    let n := (a - 0x121000) / 0x140
    if n < 576 then rowWord (zRow s n) ((a - 0x121000) % 0x140) else 0

/-! ## Reads (R71, R72, R76, R79) -/

/-- What a word of the blocks reads as: the shadow of its WS fields while the block's VIEW is 1 (R79), the mirror of a
remote word (R127), an owner's identifier (R537). -/
def viewWord (s : State) (a : Nat) : Word :=
  if a = 0x10044 then remoteRead s
  else
    let ws := codeMask .ws a
    let w := match blockOf a with
      | some b => if ws ≠ 0 ∧ s.flag (shView b) then (s.word a &&& ~~~ws) ||| (s.shadowWord a &&& ws) else s.word a
      | none => s.word a
    canRead s a w

/-- A read of PTP_TIME_NS latches the time words first (R507). -/
def readLatch (a : Nat) (s : State) : State := if a = 0x44080 then latchTime s else s

/-- A word of the blocks is read through the bits of `mask`: the RC bits returned as 1 clear (R72). -/
def readBlock (a : Nat) (mask : Word) (s : State) : State × Word :=
  let s := readLatch a s
  let w := viewWord s a
  let rc := codeMask .rc a &&& w &&& mask
  (if rc = 0 then s else s.setWord a (s.word a &&& ~~~rc), w)

/-- A word at a valid address is read (R75, R76). -/
def readWord (a : Nat) (s : State) : State × Word :=
  if isAlias a then
    let b := aliasBit a
    let r := readBlock (aliasWord a) (1 <<< b) s
    (r.1, if bitOf r.2 b then 1 else 0)
  else if 0x100000 ≤ a then (s, bulkWord s a)
  else readBlock a 0xFFFFFFFF s

/-- The words at consecutive addresses, read in order. -/
def readWords : Nat → Nat → State → State × List Word
  | _, 0, s => (s, [])
  | a, k + 1, s =>
    let r := readWord a s
    let t := readWords (a + 4) k r.1
    (t.1, r.2 :: t.2)

/-! ## Locks and ranges -/

/-- Fields locked in the present state: a write that touches one is a locked write (R74; R258, R265, R354, R429, R445,
R487, R537). -/
def lockMask (s : State) (a : Nat) : Word :=
  let all (b : Bool) : Word := if b then 0xFFFFFFFF else 0
  match a with
  | 0x2020 => all s.cmd.reasm.isSome
  | 0x2024 => all s.cmd.reasm.isSome
  | 0x13040 => all (s.st != stCommission)
  | 0x13044 => all (s.st != stCommission)
  | 0x13048 => all (s.st != stCommission)
  | 0x1304C => all (s.st != stCommission)
  | 0x14000 => if s.flag F.BAL_STATUS_OWNED then 3 else 0
  | 0x14010 => if s.flag F.BAL_STATUS_OWNED then 0xFFFF0000 else 0
  | 0x22000 => all (s.flag F.CTL_STATUS_CLOSED)
  | 0x22004 => all (s.flag F.CTL_STATUS_CLOSED)
  | 0x31000 => all (s.st != stCommission)
  | 0x32044 => all (s.get F.DIO_DO_STATE_ACTUAL != 0)
  | 0x401FC => all (rxOwned s .cana 63)
  | 0x409FC => all (rxOwned s .canb 63)
  | 0x40B7C => all (txOwned s .canb 31)
  | _ => 0

/-- The grading thresholds increase; 0 stands for one not set (R359, DEDUCED, log entry 65). -/
def gradeOk (s : State) (a : Nat) (w : Word) : Bool :=
  let t (k : Nat) : Nat := if a = 0x220C4 + 4 * k then w.toNat else s.get (F.DISP_GRADE_T_VALUE k)
  let lt (x y : Nat) : Bool := x == 0 || y == 0 || decide (x < y)
  lt (t 0) (t 1) && lt (t 1) (t 2) && lt (t 0) (t 2)

/-- A VLAN entry: its VID, and no second valid entry with the same one (R498). -/
def vlanOk (s : State) (a : Nat) (w : Word) : Bool :=
  let v := fieldOf w 0 12
  !bitOf w 31 || (inRange 1 4094 v &&
    (List.range 16).all (fun i => a == 0x43100 + 4 * i || !s.flag (F.ETH_VLAN_VALID i) ||
      s.get (F.ETH_VLAN_VID i) != v))

/-- Is a limit within 5 % of its default (R258)? -/
def near5 (v d : Nat) : Bool := decide (19 * d ≤ 20 * v ∧ 20 * v ≤ 21 * d)

/-- The stated ranges and relations of RW and WP words: a word that breaks one is ignored and gets RANGE (R178, R212,
R258, R263, R284 to R289, R354 to R359, R440 to R446, R513, R527, R561, R584, R634, and DEDUCED, log entry 58). -/
def rangeOk (s : State) (a : Nat) (w : Word) : Bool :=
  let f (lo n : Nat) : Nat := fieldOf w lo n
  match a with
  | 0x60 => decide (f 0 17 ≤ 86400)
  | 0x3004 => inRange 1 60 (f 16 8)
  | 0x3008 => decide (f 0 8 ≤ 90)
  | 0x11008 => inRange 20 1000 (f 16 16) && inRange 5 200 (f 8 8)
  | 0x1100C => inRange 200 20000 (f 0 16)
  | 0x11010 => f 0 17 == 0 || inRange 60 86400 (f 0 17)
  | 0x12000 => inRange 1 60 (f 8 8)
  | 0x12004 => inRange 2 100 (f 16 16) && inRange 2 50 (f 0 16)
  | 0x12008 => inRange 60 86400 (f 0 17)
  | 0x1200C => inRange 20 3600 (f 0 16)
  | 0x12010 => inRange 125 250 (f 0 8)
  | 0x13040 => decide (f 8 8 ≤ 4)
  | 0x13048 =>
    match packLimits (packOf s) with
    | some (vx, vn, _, _) => near5 (f 16 16) vx && near5 (f 0 16) vn
    | none => false
  | 0x1304C => decide (f 16 16 ≤ 500 ∧ f 0 16 ≤ 500)
  | 0x14000 => inRange 1 8 (f 16 4) && policyOk s (f 0 2) (s.get F.BAL_FCV_V_CV)
  | 0x14004 => inRange 2 200 (f 8 8) && decide (f 0 8 ≤ 50 ∧ f 0 8 < f 8 8)
  | 0x14008 => inRange 10 2000 (f 16 16) && inRange 10 1000 (f 0 16)
  | 0x1400C => inRange 500 2000 (f 16 16) && inRange 100 1990 (f 0 16) && decide (f 0 16 < f 16 16)
  | 0x14010 => inRange 2 100 (f 8 8)
  | 0x14014 => inRange 1 255 (f 8 8)
  | 0x22008 => inRange 10 60000 (f 16 16) && inRange 1 100 (f 0 8)
  | 0x2200C => inRange 1 10000 (f 0 16)
  | 0x22080 => inRange 1 10000 (f 0 16)
  | 0x220C0 => decide (f 0 5 ≤ 23)
  | 0x220C4 => gradeOk s a w
  | 0x220C8 => gradeOk s a w
  | 0x220CC => gradeOk s a w
  | 0x32010 => (List.range 4).all (fun k => inRange 1 200 (f (8 * k) 8))
  | 0x32014 => (List.range 4).all (fun k => inRange 1 200 (f (8 * k) 8))
  | 0x32018 => (List.range 4).all (fun k => inRange 1 200 (f (8 * k) 8))
  | 0x3201C => (List.range 4).all (fun k => inRange 1 200 (f (8 * k) 8))
  | 0x32044 => (List.range 8).all (fun k => f (2 * k) 2 != 3)
  | 0x32048 => f 0 16 == 0 || inRange 10 60000 (f 0 16)
  | 0x3204C => inRange 10 2000 (f 0 16)
  | 0x42000 => decide (f 16 2 ≤ 2)
  | 0x43010 => inRange 1 4094 (f 0 12)
  | 0x43014 => inRange 1 4094 (f 0 12)
  | 0x43018 => decide (f 0 12 ≤ 4094)
  | 0x44000 => decide (f 16 8 ≤ 127)
  | 0x44004 => decide (-3 ≤ signed 8 (f 24 8) ∧ signed 8 (f 24 8) ≤ 5) && inRange 2 10 (f 16 8) &&
      decide (f 8 8 ≤ 3) && decide (-3 ≤ signed 8 (f 0 8) ∧ signed 8 (f 0 8) ≤ 1)
  | 0x44010 => inRange 10 10000 (f 0 16) && decide (f 0 16 < f 16 16)
  | 0x44018 => inRange 10 86400 (f 0 17)
  | 0x440C8 => decide (f 0 32 < 1000000000)
  | 0x50040 => inRange 1 61440 (f 0 16)
  | _ => (!decide (0x43100 ≤ a ∧ a < 0x43140)) || vlanOk s a w

/-- The slow domain of a WP word (R82). -/
def domainOf (a : Nat) : Domain :=
  if a < 0x1000 then .aon
  else if a < 0x4000 ∨ 0x31000 ≤ a ∧ a < 0x32000 then .zsl
  else if 0x43000 ≤ a ∧ a < 0x44000 then .phy
  else .mram

/-! ## Writes (R71 to R78, R82) -/

/-- A word with the bits of `mask` replaced. -/
def merge (old mask v : Word) : Word := (old &&& ~~~mask) ||| (v &&& mask)

/-- A write of an RW word that does no more than store (R71, R569). -/
def storeBits (o : Origin) (a : Nat) (w : Word) (s : State) : State :=
  storeWord o a (merge (s.word a) (codeMask .rw a) w) s

/-- A first full-word write of a user word is taken, any other is rejected (R73, R74, R647). -/
def userWrite (o : Origin) (a : Nat) (mask w : Word) (s : State) : State × WRes :=
  if mask ≠ 0xFFFFFFFF ∨ s.sys.userUsed.contains a then (writeRejected a o s, .locked)
  else (storeWord o a w { s with sys := { s.sys with userUsed := a :: s.sys.userUsed } }, .ok)

/-- FEED_CTRL: a changeover to A, to B, a swap test (R626, R629); the first refusal is the word's result. -/
def feedCtrl (o : Origin) (w : Word) (s : State) : State × WRes :=
  let a := if bitOf w 0 then feedGo .a o s else (s, .ok)
  let b := if bitOf w 1 then feedGo .b o a.1 else (a.1, .ok)
  (if bitOf w 2 then swapStart b.1 else b.1, if a.2 = .ok then b.2 else a.2)

/-- A bus outcome that a write through a register opcode brings no operand for: a free value (DESIGN CHOICE, log entry 3). -/
def busOutcome (s : State) : Bool × State := let f := s.fresh; (f.1 % 2 == 0, f.2)

/-- A write of TWS_CFG or TWS_ADDR takes effect at the next STOP (R552). -/
def twsWrite (o : Origin) (a : Nat) (w : Word) (s : State) : State :=
  let old := (twsCfg s, twsAddr s)
  storeBits o a w { s with bus := { s.bus with twsOld := some old } }

/-- What an accepted write of an RW word does: most store, and the rest act. `w` is the word written, `mask` the bits
that the access names. -/
def writeEffect (o : Origin) (a : Nat) (mask w : Word) (s : State) : State × WRes :=
  match a with
  | 0x50 => (if bitOf w 0 then snapRequest s else s, .ok)
  | 0x1004 =>
    let s := storeWord o a (w &&& 1) s
    (if bitOf w 1 then { s with sys := { s.sys with rearmEnd := s.time + 2 * us } } else s, .ok)
  | 0x300C => feedCtrl o w s
  | 0x10044 => remoteWrite o w mask s
  | 0x1102C => ((storeBits o a w s).setB F.MEAS_STATUS_RIC_VALID true, .ok)
  | 0x12014 => let s := storeBits o a w s; (if bitOf w 0 then s else holdRelease s, .ok)
  | 0x14000 => let s := storeBits o a w s; (if mask &&& 3 = 0 then s else policyWritten s, .ok)
  | 0x20040 => ctlCtrlWrite w s
  | 0x22000 =>
    let s := storeBits o a w s
    (if mask &&& 3 = 0 then s else { s with disp := { s.disp with baseEth := none, baseCan := none } }, .ok)
  | 0x32040 => doSetWrite o w s
  | 0x32058 => crossAck w s
  | 0x40020 => canCtrl .cana o w s
  | 0x40820 => canCtrl .canb o w s
  | 0x40210 => rxSelect .cana o w s
  | 0x40A10 => rxSelect .canb o w s
  | 0x40388 => txLoad .cana o w s
  | 0x40B88 => txLoad .canb o w s
  | 0x40390 => txAbort .cana w s
  | 0x40B90 => txAbort .canb w s
  | 0x41000 => (twsWrite o a w s, .ok)
  | 0x41004 => (twsWrite o a w s, .ok)
  | 0x42004 => let f := busOutcome s; twlGo o w (if f.1 then none else some false) f.2
  | 0x42008 => let f := busOutcome s; twlCtrl w f.1 f.2
  | 0x4304C =>
    let s := storeWord o a (w &&& 1) s
    (if bitOf w 1 then applyIp s else s, .ok)
  | 0x44000 => ptpCfgWrite o a w s
  | 0x44004 => ptpCfgWrite o a w s
  | 0x440CC => if bitOf w 0 then timeSetGo o s else (s, .ok)
  | _ => (storeBits o a w s, .ok)

/-- A write of the bits of `mask` of a word of the blocks (R71 to R76): `w` is the whole word as it would be. A rejected
alias write is recorded with the aliased word (DEDUCED, log entry 143), a full word with one locked field is rejected
whole (DEDUCED, log entry 128), and lock and range come before the busy test (DESIGN CHOICE, log entry 144). -/
def writeBlock (p : Path) (a : Nat) (mask w : Word) (s : State) : State × WRes :=
  let o := Path.origin p
  match commitBlock a with
  | some b => if mask = 0xFFFFFFFF then commitWrite b p w s else (s, .ok)
  | none =>
    if writable a &&& mask = 0 then (s, .ok)
    else if codeMask .w1 a &&& mask ≠ 0 then userWrite o a mask w s
    else if lockMask s a &&& mask ≠ 0 then (writeRejected a o s, .locked)
    else if codeMask .ws a ≠ 0 then
      match blockOf a with
      | some b => shadowWrite b a (codeMask .ws a &&& mask) w s
      | none => (s, .ok)
    else if !rangeOk s a w then (s, .range)
    else if codeMask .wp a ≠ 0 && a != 0x10044 then
      postWrite ⟨domainOf a, a, codeMask .wp a &&& mask, w, o, false, s.time⟩ s
    else writeEffect o a mask w s

/-- The word as it stands for a write of some of its bits: what a full write would leave of it. -/
def standing (s : State) (a : Nat) : Word :=
  if a = 0x10044 then remoteRead s else if codeMask .ws a = 0 then s.word a else s.shadowWord a

/-- A write of a word at a valid address, whole or through an alias, where it may take effect now (R27, R75, R76). -/
def writeWord (p : Path) (a : Nat) (v : Word) (s : State) : State × WRes :=
  let alias_ := isAlias a
  let b := aliasBit a
  let t := if alias_ then aliasWord a else a
  let mask : Word := if alias_ then 1 <<< b else 0xFFFFFFFF
  let w := if alias_ then merge (standing s t) mask (if bitOf v 0 then mask else 0) else v
  if !writeAdmitted p t w s then (windowNote p s, .forbids)
  else if !alias_ && 0x100000 ≤ a then (s, .ok)
  else writeBlock p t mask w s

/-- A write through the window, or a write event with its own row: at an address outside the layout it is ignored
(R69). -/
def writeSpace (p : Path) (a : Nat) (v : Word) (s : State) : State :=
  if validAddr a then (writeWord p a v s).1 else s

/-! ## Register opcodes (R491, R492) -/

/-- REG_READ: the whole range is checked before any word is read. -/
def doRegRead (c : Ctx) (a n : Nat) (s : State) : State :=
  if n < 1 ∨ 256 < n then replyRange c 0x0100 4 s
  else if !(List.range n).all (fun i => validAddr (a + 4 * i)) then replyRange c 0x0100 0 s
  else if c.v1 && 255 < 4 * n then replyRange c 0x0100 4 s
  else
    let r := readWords a n s
    replyOk c 0x0100 ((r.2.map (fun w => u32 w.toNat)).flatten) r.1

def execRegRead (c : Ctx) (addr : BitVec 32) (count : BitVec 16) (s : State) : Host.Outcome State Fault Refusal :=
  finish (withCmd c 0x0100 (doRegRead c addr.toNat count.toNat) s)

/-- Status and payload of a rejected word of REG_WRITE: R467's where it names one, else the word's index (R491). -/
def rejectReply (i off : Nat) (r : WRes) : Nat × List Byte :=
  let x := wresStatus off r
  (x.1, if x.2.isEmpty then u16 i else x.2)

/-- The words of a REG_WRITE from number `i` on: the first rejected one ends it (R492). -/
def writeWords (c : Ctx) : Nat → Nat → List Word → State → State × Nat × List Byte
  | _, _, [], s => (s, stOk, u16 0xFFFF)
  | i, a, v :: t, s =>
    if !validAddr a then (s, stRange, u16 0)
    else
      match writeWord (.rcp c) a v s with
      | (s, .ok) => writeWords c (i + 1) (a + 4) t s
      | (s, r) => (s, rejectReply i (6 + 4 * i) r)

def doRegWrite (c : Ctx) (a : Nat) (vs : List Word) (s : State) : State :=
  if vs.length < 1 ∨ 64 < vs.length then replyRange c 0x0101 4 s
  else
    let r := writeWords c 0 a vs s
    reply c 0x0101 r.2.1 r.2.2 r.1

def execRegWrite (c : Ctx) (addr : BitVec 32) (values : List (BitVec 32)) (s : State) :
    Host.Outcome State Fault Refusal :=
  finish (withCmd c 0x0101 (doRegWrite c addr.toNat values) s)

/-- REG_MODIFY: one read and one full-word write of the word it makes; a word that may not be written now is not read
either (R492). -/
def doRegModify (c : Ctx) (a : Nat) (mask v : Word) (s : State) : State :=
  if !validAddr a then replyRange c 0x0102 0 s
  else
    let peek := merge (readWord a s).2 mask v
    if (writeWord (.rcp c) a peek s).2 = .forbids && s.direct then replyForbids c 0x0102 s
    else
      let r := readWord a s
      let x := writeWord (.rcp c) a (merge r.2 mask v) r.1
      if x.2 = .ok then replyOk c 0x0102 (u32 r.2.toNat) x.1
      else
        let y := wresStatus 8 x.2
        reply c 0x0102 y.1 y.2 x.1

def execRegModify (c : Ctx) (addr mask value : BitVec 32) (s : State) : Host.Outcome State Fault Refusal :=
  finish (withCmd c 0x0102 (doRegModify c addr.toNat mask value) s)

/-! ## Write events with rows of their own -/

/-- REGISTER_WRITE (R71): a write of a word through a path. -/
def execRegisterWrite (p : Path) (addr value : BitVec 32) (s : State) : Host.Outcome State Fault Refusal :=
  finish (writeSpace p addr.toNat value s)

/-- BIT_ALIAS_WRITE (R76). -/
def execBitAliasWrite (p : Path) (addr value : BitVec 32) (s : State) : Host.Outcome State Fault Refusal :=
  finish (if isAlias addr.toNat then writeSpace p addr.toNat value s else s)

/-- BIT_ALIAS_READ (R76): over RCP the read of one word, through the window its four bytes. -/
def execBitAliasRead (p : Path) (addr : BitVec 32) (s : State) : Host.Outcome State Fault Refusal :=
  finish (if isAlias addr.toNat && validAddr addr.toNat then
    match p with
    | .rcp c => withCmd c 0x0100 (doRegRead c addr.toNat 1) s
    | .win =>
      if hostPowered s then
        let r := readWord addr.toNat s
        r.1.send (.tws (u32 r.2.toNat))
      else s
  else s)

/-- SHADOW_WRITE (R78): a write of a word with WS fields. -/
def execShadowWrite (p : Path) (addr value : BitVec 32) (s : State) : Host.Outcome State Fault Refusal :=
  finish (if codeMask .ws addr.toNat = 0 then s else writeSpace p addr.toNat value s)

/-- POSTED_WRITE (R82): a write of a word with WP fields. -/
def execPostedWrite (p : Path) (addr value : BitVec 32) (s : State) : Host.Outcome State Fault Refusal :=
  finish (if codeMask .wp addr.toNat = 0 then s else writeSpace p addr.toNat value s)

/-- SNAP_TAKE (R86). -/
def execSnapTake (p : Path) (s : State) : Host.Outcome State Fault Refusal := finish (writeSpace p 0x50 1 s)

/-- INT_REARM (R91): REARM is written 1 and GLOBAL_EN as it stands. -/
def execIntRearm (p : Path) (s : State) : Host.Outcome State Fault Refusal :=
  finish (writeSpace p 0x1004 (s.word 0x1004 ||| 2) s)

/-- EST_PACK_WRITE (R258). -/
def execEstPackWrite (p : Path) (value : BitVec 32) (s : State) : Host.Outcome State Fault Refusal :=
  finish (writeSpace p 0x13040 value s)

end Sys2Proof.Machine
end

