-- ==== Sys2Proof/Machine/Cmd.lean ====
section
/-!
DEFINITION. The command protocol (chapter 14): packets with their checks, retry, admission and the queue, the opcodes
of the protocol itself, notifications, authorisation, and packets on CANA.
-/

namespace Sys2Proof.Machine

/-! ## Sessions (R474, R475, R491) -/

def doPing (c : Ctx) (data : List Byte) (s : State) : State := replyOk c 0x0000 data s

/-- PING (R491). -/
def execPing (c : Ctx) (data : List (BitVec 8)) (s : State) : Host.Outcome State Fault Refusal :=
  finish (withCmd c 0x0000 (doPing c data) s)

/-- The version of the running supervisor image: that of a rescue image while one runs (R606). -/
def supVersion (s : State) : Nat := imgVersion (getBank s (if s.flag F.FWU_STATUS_RESCUE then 4 else actBank s 1))

/-- Serial, part code, versions of the running images, personality, state (R491). -/
def doIdentify (c : Ctx) (s : State) : State :=
  replyOk c 0x0001 (u64 (serialNum s) ++ u32 (s.word 0x800).toNat ++ u32 (supVersion s) ++
    u32 (imgVersion (getBank s (actBank s 2))) ++ u8 (s.get F.SYS_MODE_PERSONALITY) ++ u8 s.st) s

/-- IDENTIFY (R491). -/
def execIdentify (c : Ctx) (s : State) : Host.Outcome State Fault Refusal := finish (withCmd c 0x0001 (doIdentify c) s)

/-- The first identifier from a random one on that is not 0 and not in use (R474). -/
def newId (s : State) : Nat → Nat → BitVec 32
  | 0, n => BitVec.ofNat 32 (n % (2 ^ 32 - 1) + 1)
  | k + 1, n =>
    let id := BitVec.ofNat 32 (n % (2 ^ 32 - 1) + 1)
    if (findSession id s).isSome then newId s k (n + 1) else id

def doSessionOpen (c : Ctx) (s : State) : State :=
  if 8 ≤ s.cmd.sessions.length then replyBusy c 0x0002 1000 s
  else
    let v := s.fresh
    let id := newId v.2 8 v.1
    let x : Session := { id := id, src := c.src, port := c.port, lastPkt := s.time }
    replyOk c 0x0002 (u32 id.toNat) { v.2 with cmd := { v.2.cmd with sessions := v.2.cmd.sessions ++ [x] } }

/-- SESSION_OPEN (R474): a random identifier, a free value. -/
def execSessionOpen (c : Ctx) (s : State) : Host.Outcome State Fault Refusal :=
  finish (withCmd c 0x0002 (doSessionOpen c) s)

def doSessionClose (c : Ctx) (s : State) : State :=
  let s := replyOk c 0x0003 [] s
  if c.session = 0 then s else closeSession c.session s

/-- SESSION_CLOSE (R474): the reply goes out, then the session closes. -/
def execSessionClose (c : Ctx) (s : State) : Host.Outcome State Fault Refusal :=
  finish (withCmd c 0x0003 (doSessionClose c) s)

/-- SESSION_TIMEOUT (R474): 300 s without a packet in a numbered session. -/
def execSessionTimeout (session : BitVec 32) (s : State) : Host.Outcome State Fault Refusal :=
  finish (match findSession session s with
    | some x => closeSession session (s.at (x.lastPkt + 300 * sec))
    | none => s)

/-- A change of one session. -/
def setSession (id : BitVec 32) (f : Session → Session) (s : State) : State :=
  { s with cmd := { s.cmd with sessions := s.cmd.sessions.map (fun x => if x.id = id then f x else x) } }

/-- Is a request in an open numbered session (R466, R474)? -/
def numbered (c : Ctx) (s : State) : Bool := !c.v1 && c.session != 0 && sessionOpen c s

def doSubscribe (c : Ctx) (mask : Nat) (s : State) : State :=
  if numbered c s && isUdp c.src then replyOk c 0x0004 [] (setSession c.session (fun x => { x with subs := mask }) s)
  else replyIncons c 0x0004 0xF3 s

/-- SUBSCRIBE (R481). -/
def execSubscribe (c : Ctx) (mask : BitVec 128) (s : State) : Host.Outcome State Fault Refusal :=
  finish (withCmd c 0x0004 (doSubscribe c mask.toNat) s)

/-- CAUSE_NOTIFY (R481): the causes latched since the last notification, no sooner than 1 ms after it. -/
def execCauseNotify (session : BitVec 32) (s : State) : Host.Outcome State Fault Refusal :=
  finish (match findSession session s with
    | none => s
    | some x =>
      let c : Ctx := ⟨x.src, x.port, false, x.id, BitVec.ofNat 16 x.count⟩
      if x.causes ≠ 0 ∧ rcpOpen c s then
        let s := match x.lastNote with
          | some t => s.at (t + ms)
          | none => s
        let pkt := packet c 2 0x0005 0 (u64 x.causeAt ++ leBytes 16 x.causes)
        let upd (y : Session) : Session := { y with causes := 0, count := (y.count + 1) % 65536, lastNote := some s.time }
        transmit c true pkt (setSession session upd s)
      else s)

/-! ## Authorisation (R482 to R484) -/

/-- The active key: the last one written (R484). -/
def activeKey (s : State) : List Byte := s.cmd.keys.getLastD []

def lockedOut (s : State) : Bool := s.cmd.lockEnd.any (fun t => decide (s.time < t))

def doAuthChallenge (c : Ctx) (s : State) : State :=
  if !numbered c s then replyIncons c 0x0B00 0xF3 s
  else if lockedOut s then reply c 0x0B00 stLocked [] s
  else
    let v := s.fresh
    let n := leBytes 16 v.1
    replyOk c 0x0B00 n (setSession c.session (fun x => { x with nonce := some (n, s.time + 30 * sec) }) v.2)

/-- AUTH_CHALLENGE (R483): a nonce from the hardware random source, a free value. -/
def execAuthChallenge (c : Ctx) (s : State) : Host.Outcome State Fault Refusal :=
  finish (withCmd c 0x0B00 (doAuthChallenge c) s)

/-- The nonce of a session that is still valid. -/
def liveNonce (c : Ctx) (s : State) : Option (List Byte) :=
  match findSession c.session s with
  | some x => (x.nonce.filter (fun n => decide (s.time ≤ n.2))).map (·.1)
  | none => none

/-- The 32 bytes of HMAC-SHA-256 (DESIGN CHOICE, log entry 4). -/
def hmac (key message : List Byte) : List Byte := bvBytes 32 (Config.hmac key message)

/-- The response that R483 asks for. -/
def authMac (c : Ctx) (n : List Byte) (s : State) : List Byte :=
  hmac (activeKey s) (n ++ u32 c.session.toNat ++ u64 (serialNum s) ++ u8 1)

/-- A failed response; the third in a row starts the lock-out. -/
def authFail (c : Ctx) (s : State) : State :=
  let s := causeRec C.AUTH_FAIL sevWarning [] (s.bump F.AUTH_FAIL_CNT_COUNT 1)
  let n := s.cmd.failStreak + 1
  let s := { s with cmd := { s.cmd with failStreak := n } }
  let s := if n = 3 then
      { s with cmd := { s.cmd with lockEnd := some (s.time + 60 * sec) } }.setB F.AUTH_STATUS_LOCKOUT true
    else s
  reply c 0x0B01 stAuth [] s

def doAuthResponse (c : Ctx) (mac : List Byte) (s : State) : State :=
  if !numbered c s then replyIncons c 0x0B01 0xF3 s
  else
    let ok := (liveNonce c s).any (fun n => !s.cmd.keys.isEmpty && authMac c n s == mac)
    let s := setSession c.session (fun x => { x with nonce := none }) s
    if ok then
      let s := setSession c.session (fun x => { x with authEnd := some (s.time + 600 * sec) }) s
      let s := addRec sevNotice 0x01 0x0011 (originBytes (Ctx.origin c)) { s with cmd := { s.cmd with failStreak := 0 } }
      replyOk c 0x0B01 (u16 600) s
    else authFail c s

/-- AUTH_RESPONSE (R483). -/
def execAuthResponse (c : Ctx) (mac : BitVec 256) (s : State) : Host.Outcome State Fault Refusal :=
  finish (withCmd c 0x0B01 (doAuthResponse c (bvBytes 32 mac)) s)

/-- An authorisation that is in force ends (R483). -/
def authEnd (id : BitVec 32) (s : State) : State :=
  let live := s.cmd.sessions.any (fun x => x.id == id && liveAuth s.time x)
  let s := setSession id (fun x => { x with authEnd := none }) s
  if live then raise C.AUTH_EXPIRED s else s

def doAuthDrop (c : Ctx) (s : State) : State :=
  replyOk c 0x0B02 [] (if numbered c s then authEnd c.session s else s)

/-- AUTH_DROP (R474, R483). -/
def execAuthDrop (c : Ctx) (s : State) : Host.Outcome State Fault Refusal := finish (withCmd c 0x0B02 (doAuthDrop c) s)

/-- AUTH_EXPIRY (R483): the end of the 600 s. -/
def execAuthExpiry (session : BitVec 32) (s : State) : Host.Outcome State Fault Refusal :=
  finish (match (findSession session s).bind (·.authEnd) with
    | some t => raise C.AUTH_EXPIRED (setSession session (fun x => { x with authEnd := none }) (s.at t))
    | none => s)

/-- AUTH_LOCKOUT_END (R483): after 60 s challenges are answered again; the count of failures starts afresh (DEDUCED, log entry 60). -/
def execAuthLockoutEnd (s : State) : Host.Outcome State Fault Refusal :=
  finish (match s.cmd.lockEnd with
    | some t =>
      let s := s.at t
      { s with cmd := { s.cmd with lockEnd := none, failStreak := 0 } }.setB F.AUTH_STATUS_LOCKOUT false
    | none => s)

/-- A key goes to the next empty slot and becomes active (R484, R489). -/
def storeKey (k : List Byte) (s : State) : State :=
  let n := s.cmd.keys.length
  (({ s with cmd := { s.cmd with keys := s.cmd.keys ++ [k] } }).set F.AUTH_STATUS_KEY_SLOT n).set
    F.AUTH_STATUS_SLOTS_LEFT (7 - n)

def doKeyInit (c : Ctx) (k : List Byte) (s : State) : State :=
  if !s.cmd.keys.isEmpty then reply c 0x0B03 stLocked [] (writeRejected 0xFFFFFFFF (Ctx.origin c) s)
  else if c.src ≠ .tws then reply c 0x0B03 stLocked [] s
  else replyOk c 0x0B03 [] (storeKey k s)

/-- KEY_INIT (R484). -/
def execKeyInit (c : Ctx) (key : BitVec 256) (s : State) : Host.Outcome State Fault Refusal :=
  finish (withCmd c 0x0B03 (doKeyInit c (bvBytes 32 key)) s)

/-- Every authorisation ends. -/
def authEndAll (s : State) : State := s.cmd.sessions.foldl (fun s x => authEnd x.id s) s

def doKeyRotate (c : Ctx) (wrapped check : List Byte) (s : State) : State :=
  if 8 ≤ s.cmd.keys.length then reply c 0x0B04 stLocked [] s
  else
    let n := liveNonce c s
    let s := setSession c.session (fun x => { x with nonce := none }) s
    match n with
    | none => replyIncons c 0x0B04 0 s
    | some n =>
      let k := xorBytes wrapped (hmac (activeKey s) (n ++ [0x4B, 0x52]))
      if (hmac k n).take 8 = check then
        let slot := s.cmd.keys.length
        let s := authEndAll (storeKey k s)
        let s := addRec sevSafety 0x01 0x0012 (u8 slot ++ originBytes (Ctx.origin c)) s
        replyOk c 0x0B04 (u8 slot) s
      else replyIncons c 0x0B04 0 s

/-- KEY_ROTATE (R484). -/
def execKeyRotate (c : Ctx) (wrapped : BitVec 256) (check : BitVec 64) (s : State) :
    Host.Outcome State Fault Refusal :=
  finish (withCmd c 0x0B04 (doKeyRotate c (bvBytes 32 wrapped) (bvBytes 8 check)) s)

/-! ## What each opcode executes (R491) -/

/-- Parameter bytes of an opcode, as least and greatest length (R477 step 2). -/
def opLength (op : Nat) (pl : List Byte) : Nat × Nat :=
  match op with
  | 0x0000 => (0, 1024)
  | 0x0004 => (16, 16)
  | 0x0010 => (5, 5)
  | 0x0014 => (1, 1)
  | 0x0100 => (6, 6)
  | 0x0101 => let n := 6 + 4 * numAt pl 4 2; (n, n)
  | 0x0102 => (12, 12)
  | 0x0200 => (1, 1)
  | 0x0202 => (6, 6)
  | 0x0210 => (2, 2)
  | 0x0212 => (4, 4)
  | 0x0280 => (1, 1)
  | 0x0281 => (1, 1)
  | 0x0300 => (4, 4)
  | 0x0301 => (8, 8)
  | 0x0400 => (2, 2)
  | 0x0402 => (7, 7)
  | 0x0403 => (1, 1)
  | 0x0601 => (50, 50)
  | 0x0602 => (6, 6)
  | 0x0603 => (2, 2)
  | 0x0605 => (3, 3)
  | 0x0701 => (4, 4)
  | 0x0800 => (2, 2)
  | 0x0900 => (5, 5)
  | 0x0902 => (1, 1)
  | 0x0A00 => (5, 5)
  | 0x0A01 => (5, 1024)
  | 0x0A05 => (2, 2)
  | 0x0B01 => (32, 32)
  | 0x0B03 => (32, 32)
  | 0x0B04 => (40, 40)
  | 0x0C05 => (1, 1)
  | 0x0C08 => (1, 1)
  | _ => (0, 0)

def lengthOk (op : Nat) (pl : List Byte) : Bool :=
  let l := opLength op pl
  decide (l.1 ≤ pl.length ∧ pl.length ≤ l.2)

/-- What the boot ROM will find, and a bus outcome, where an opcode is executed from the queue: free values (DESIGN CHOICE, log entry 3). -/
def freePins (s : State) : BootPins × State :=
  let v := s.fresh
  (⟨v.1 % 2 == 1, BitVec.ofNat 4 (v.1 / 2)⟩, v.2)

/-- The words of a byte string. -/
def wordsOf : Nat → List Byte → List Word
  | 0, _ => []
  | k + 1, l => BitVec.ofNat 32 (numAt l 0 4) :: wordsOf k (l.drop 4)

/-- Execute an admitted request. -/
def runOp (c : Ctx) (op : Nat) (pl : List Byte) (s : State) : State :=
  let n (i k : Nat) : Nat := numAt pl i k
  match op with
  | 0x0000 => doPing c pl s
  | 0x0001 => doIdentify c s
  | 0x0002 => doSessionOpen c s
  | 0x0003 => doSessionClose c s
  | 0x0004 => doSubscribe c (n 0 16) s
  | 0x0006 => doSnapshot c s
  | 0x0010 => doStateRequest c (n 0 1) (n 1 4) s
  | 0x0011 => let b := freePins s; doWarmReset c b.1 b.2
  | 0x0012 => let b := freePins s; doEnterRecovery c b.1 b.2
  | 0x0013 => isoReset (Ctx.origin c) (some c) s
  | 0x0014 => doSetPersonality c (n 0 1) s
  | 0x0015 => doCommissionDone c s
  | 0x0100 => doRegRead c (n 0 4) (n 4 2) s
  | 0x0101 => doRegWrite c (n 0 4) (wordsOf (n 4 2) (pl.drop 6)) s
  | 0x0102 => doRegModify c (n 0 4) (BitVec.ofNat 32 (n 4 4)) (BitVec.ofNat 32 (n 8 4)) s
  | 0x0200 => doOpenWireTest c (n 0 1) s
  | 0x0201 => doWireLearn c s
  | 0x0202 => doWireResSet c (n 0 2) (signed 32 (n 2 4)) s
  | 0x0203 => doIcLearn c s
  | 0x0210 => doEisStart c (n 0 1) (n 1 1) s
  | 0x0211 => doEisStop c s
  | 0x0212 => doStepPulse c (signed 32 (n 0 4)) s
  | 0x0280 => doWadiTest c (n 0 1) s
  | 0x0281 => doBoardAccept c (n 0 1) s
  | 0x0300 => doEstInsert c (n 0 2) (n 2 2) s
  | 0x0301 => doCapacitySet c (n 0 2) (n 2 4) (n 6 2) s
  | 0x0302 => doEstPersist c s
  | 0x0400 => doBalPolicy c (n 0 1) (n 1 1) s
  | 0x0401 => doBalStop c s
  | 0x0402 => doBalManual c (n 0 1) (n 1 2) (n 3 2) (n 5 2) s
  | 0x0403 => doOasisReportRead c (n 0 1) s
  | 0x0500 => doLoopClose c s
  | 0x0501 => doLoopOpen c s
  | 0x0502 => doFeedbackAck c s
  | 0x0503 => doRcReset c s
  | 0x0601 => doRecipeWrite c (n 0 1) (n 1 1) (pl.drop 2) s
  | 0x0602 => doRecipeSeal c (n 0 1) (n 1 1) (n 2 4) s
  | 0x0603 => doRecipeStart c (n 0 1) (n 1 1) s
  | 0x0604 => doRecipeStop c s
  | 0x0605 => doGradeRead c (n 0 2) (n 2 1) s
  | 0x0700 => doThermalRelease c s
  | 0x0701 => doCoolTest c (n 0 1) (n 1 1) (n 2 2) s
  | 0x0800 => doContactorTest c (n 0 1) (n 1 1) s
  | 0x0801 => doSafeSummary c s
  | 0x0900 => doEvrRead c (n 0 4) (n 4 1) s
  | 0x0901 => doEvrStatus c s
  | 0x0902 => doEvrClear c (n 0 1) s
  | 0x0A00 => doFwBegin c (n 0 1) (n 1 4) s
  | 0x0A01 => doFwData c (n 0 4) (pl.drop 4) s
  | 0x0A02 => doFwVerify c s
  | 0x0A03 => doFwActivateSup c s
  | 0x0A04 => doFwActivatePln c s
  | 0x0A05 => doFwRelay c (n 0 1) (n 1 1) s
  | 0x0A06 => doFwStatus c s
  | 0x0B00 => doAuthChallenge c s
  | 0x0B01 => doAuthResponse c pl s
  | 0x0B02 => doAuthDrop c s
  | 0x0B03 => doKeyInit c pl s
  | 0x0B04 => doKeyRotate c (pl.take 32) (pl.drop 32) s
  | 0x0C01 => doReinitCvl c s
  | 0x0C02 => doReinitCana c s
  | 0x0C03 => doReinitCanb c s
  | 0x0C04 => let f := busOutcome s; doReinitTwl c f.1 f.2
  | 0x0C05 => doReinitEth c (n 0 1) s
  | 0x0C06 => doReinitEis c s
  | 0x0C07 => doReinitEst c s
  | 0x0C08 => doReinitDsp c (n 0 1) s
  | _ => reply c op stBadOp [] s

/-- The checks that a command passes again when it starts: direct mode, the pause of a PLN activation, authorisation
(R479, R493, R602). -/
def startFail (c : Ctx) (op : Nat) (s : State) : Option (Nat × List Byte) :=
  if s.direct && !opDirect op s.st then some (stForbids, [])
  else if s.flag F.FWU_STATUS_PLN_PAUSE && ((2 ≤ op / 0x100 && op / 0x100 ≤ 8) || op / 0x100 == 0x0C) then
    some (stBusy, u16 100)
  else if opAuth op && !authorised c s then some (stAuth, [])
  else none

/-- The command that starts next: the oldest waiting priority command, else the oldest (R479). -/
def nextSlot (s : State) : Option Slot :=
  match s.cmd.slots.find? (fun x => !x.started && opPriority x.op) with
  | some x => some x
  | none => s.cmd.slots.find? (fun x => !x.started)

/-- COMMAND_START (R479); none starts while a hand-over changes the owner (R598). -/
def execCommandStart (s : State) : Host.Outcome State Fault Refusal :=
  finish (match (if s.get F.FWU_STATUS_HO_STATE = 3 then none else nextSlot s) with
    | none => s
    | some x =>
      let mark (y : Slot) : Slot := if slotOf x.ctx y then { y with started := true } else y
      let s := { s with cmd := { s.cmd with slots := s.cmd.slots.map mark } }
      match startFail x.ctx x.op s with
      | some (st, p) => reply x.ctx x.op st p s
      | none => runOp x.ctx x.op x.payload s)

/-! ## Packets (R465 to R469, R476 to R478) -/

/-- A packet that R469 has passed. -/
structure Pkt where
  v1 : Bool
  seq : Nat
  op : Nat
  session : Nat
  payload : List Byte
  deriving DecidableEq, Repr

/-- What R469 finds: a drop counted as header or as CRC, or a packet. -/
inductive Parsed where
  | header | crc
  | good (p : Pkt)
  deriving DecidableEq, Repr

/-- Cases 2 to 4 of R469. -/
def parse (onCan : Bool) (b : List Byte) : Parsed :=
  let n := b.length
  if numAt b 0 3 = 0x02485A ∧ 20 ≤ n then
    if crc32c (b.take (n - 4)) ≠ numAt b (n - 4) 4 then .crc
    else if numAt b 8 2 + 20 ≠ n then .header
    else .good ⟨false, numAt b 4 2, numAt b 6 2, numAt b 10 4, (b.drop 16).take (n - 20)⟩
  else if numAt b 0 1 = 1 ∧ 10 ≤ n ∧ onCan = false then
    if crc16 (b.take (n - 2)) ≠ numAt b (n - 2) 2 then .crc
    else if numAt b 6 1 + 10 ≠ n then .header
    else .good ⟨true, numAt b 2 2, numAt b 4 2, 0, (b.drop 8).take (n - 10)⟩
  else .header

/-- The retry-after hint of QUEUE_FULL in ms: twice the mean holding time (R478). -/
def queueHint (s : State) : Nat :=
  let late := (s.cmd.freed.filter (fun e => decide (s.time < e.1 + sec))).map (·.2)
  let held := s.cmd.slots.map (fun x => s.time - x.since)
  let l := if late.isEmpty then held else late
  let mean : Rat := if l.isEmpty then 0 else ((l.foldl (· + ·) 0 : Nat) : Rat) / (l.length : Nat)
  (clampI 1 1000 (roundQ (2 * mean / 250000))).toNat

/-- Step 6 of R477: is the slot taken a reserved one; none where there is none (R478). -/
def queueSlot (op : Nat) (s : State) : Option Bool :=
  if s.cmd.slots.countP (fun x => !x.reserved) < 56 then some false
  else if opPriority op && decide (s.cmd.slots.countP (·.reserved) < 8) then some true
  else none

/-- A request answered without admission: it joins the refused list (R476). -/
def refuseNow (c : Ctx) (p : Pkt) (st : Nat) (pl : List Byte) (s : State) : State :=
  transmit c false (packet c 1 p.op st pl) (refuse c p.op p.payload s)

/-- A request is admitted: the highest SEQ, the retry cache, the slot (R476, R478, R486). -/
def enqueue (c : Ctx) (p : Pkt) (reserved : Bool) (s : State) : State :=
  let x := getChan c.src c.session s
  let e : Refused := ⟨p.seq, p.op, p.payload⟩
  let high := match x.high with
    | none => p.seq
    | some h => if (p.seq + 65536 - h) % 65536 ≤ 32767 ∨ !x.refused.contains e then p.seq else h
  let k : Kept := ⟨p.seq, p.op, p.payload, false, none⟩
  let s := putChan { x with high := some high, cache := k :: x.cache, refused := x.refused.filter (fun y => !(y == e)) } s
  let slot : Slot := ⟨c, p.op, p.payload, reserved, s.time, false⟩
  let s := { s with
    cmd := { s.cmd with slots := s.cmd.slots ++ [slot], freed := s.cmd.freed.filter (fun e => decide (s.time < e.1 + sec)) }
    sys := { s.sys with lastAdmit := s.time } }
  s.bump F.CMD_CNT_ADMIT_COUNT 1

/-- Steps 1 to 6 of R477. -/
def tryAdmit (c : Ctx) (p : Pkt) (s : State) : State :=
  if (opStates p.op).isEmpty then refuseNow c p stBadOp [] s
  else if !lengthOk p.op p.payload then refuseNow c p stBadLen [] s
  else match guardFail c p.op s with
    | some (st, pl) => refuseNow c p st pl s
    | none =>
      match queueSlot p.op s with
      | some r => enqueue c p r s
      | none =>
        let h := queueHint s
        refuseNow c p stFull (u16 h) (raise C.QUEUE_FULL (s.bump F.CMD_CNT_FULL_COUNT 1))

/-- R476: the retry cache, the refused list and the sequence window of the session. -/
def retryCheck (c : Ctx) (p : Pkt) (s : State) : State :=
  let x := getChan c.src c.session s
  match x.cache.find? (fun k => k.seq == p.seq) with
  | some k =>
    if k.op = p.op ∧ k.payload = p.payload then
      match k.reply with
      | some r => transmit c r.notify (packet c (if r.notify then 3 else 1) p.op r.status r.payload) s
      | none => transmit c false (packet c 1 p.op stBusy (u16 100)) s
    else transmit c false (packet c 1 p.op stIncons (u8 0xF1)) s
  | none =>
    let again := x.refused.contains ⟨p.seq, p.op, p.payload⟩
    let d := x.high.map (fun h => (h + 65536 - p.seq) % 65536)
    if !again && d.any (fun d => decide (1 ≤ d ∧ d ≤ 32767)) then
      transmit c false (packet c 1 p.op stIncons (u8 0xF2)) s
    else tryAdmit c p s

/-- A packet that R469 has passed: a setpoint goes straight to dispatch (R337), a closed session is answered (R474). -/
def packetGood (src : Src) (port : EthPort) (p : Pkt) (s : State) : State :=
  let c : Ctx := ⟨src, port, p.v1, BitVec.ofNat 32 p.session, BitVec.ofNat 16 p.seq⟩
  let s := noteHeard s
  let s := if numbered c s then setSession c.session (fun x => { x with lastPkt := s.time }) s else s
  if p.op = 0x0600 ∧ isUdp src ∧ p.v1 = false then setpointIn 1 p.payload s
  else if !sessionOpen c s then refuseSession c p.op s
  else retryCheck c p s

/-- A dropped packet leaves the mailbox free again (R473). -/
def mboxFree (src : Src) (s : State) : State := if src = .tws then s.setB F.CMD_MBOX_BUSY false else s

/-- A packet arrives from a source (R469). -/
def packetIn (src : Src) (port : EthPort) (broadcast fragment : Bool) (b : List Byte) (s : State) : State :=
  let op := if numAt b 0 1 = 1 then numAt b 4 2 else numAt b 6 2
  let dropHdr := mboxFree src (s.bump F.CMD_CNT_HDR_COUNT 1)
  if fragment || (broadcast && op != 0x0001) then dropHdr
  else match parse (src == .cana) b with
    | .header => dropHdr
    | .crc => raise C.CRC_DROP (mboxFree src (s.bump F.CMD_CNT_CRC_COUNT 1))
    | .good p => packetGood src port p s

/-- RCP_PACKET_RECEIVE (R469): nothing is received while no transport is open (R45). -/
def execRcpPacketReceive (src : Src) (p : EthPort) (broadcast fragment : Bool) (bytes : List (BitVec 8)) (s : State) :
    Host.Outcome State Fault Refusal :=
  finish (if rcpOpen ⟨src, p, false, 0, 0⟩ s then packetIn src p broadcast fragment bytes s else s)

/-! ## RCP on CANA (R471, R472) -/

/-- RCP runs on CANA. -/
def canRcp (s : State) : Bool :=
  canOn s .cana && s.flag F.CMD_CAN_RXID_EN && !canListen s .cana && rcpOpen ⟨.cana, .eth1, false, 0, 0⟩ s

/-- A transfer is discarded. -/
def reasmDrop (s : State) : State := { s with cmd := { s.cmd with reasm := none } }.bump F.CMD_CNT_HDR_COUNT 1

/-- A transfer in progress whose last frame is more than 50 ms past. -/
def reasmStale (s : State) : State :=
  match s.cmd.reasm with
  | some x => if x.at_ + 50 * ms < s.time then reasmDrop s else s
  | none => s

/-- The packet without the padding of its last frame: LENGTH says where it ends. -/
def reasmPacket (b : List Byte) : List Byte := if 20 ≤ b.length then b.take (numAt b 8 2 + 20) else b

def reasmDone (b : List Byte) (s : State) : State :=
  packetIn .cana .eth1 false false (reasmPacket b) { s with cmd := { s.cmd with reasm := none } }

/-- A frame with the identifier of CMD_CAN_RXID (R471, R472). -/
def canFrameIn (fd : Bool) (b : List Byte) (s : State) : State :=
  let s := reasmStale s
  if fd = false ∨ b.length < 2 then reasmDrop s
  else
    let kind := numAt b 0 1 / 64
    let idx := numAt b 0 1 % 64
    let tr := numAt b 1 1
    let body := b.drop 2
    if kind < 2 then
      let s := if s.cmd.reasm.isSome then reasmDrop s else s
      if idx ≠ 0 then reasmDrop s
      else if kind = 0 then reasmDone body s
      else { s with cmd := { s.cmd with reasm := some ⟨tr, 1, body, s.time⟩ } }
    else
      match s.cmd.reasm with
      | none => s
      | some x =>
        if x.transfer ≠ tr ∨ x.nextIndex ≠ idx then reasmDrop s
        else if kind = 3 then reasmDone (x.bytes ++ body) s
        else
          let y : Reasm := ⟨tr, (idx + 1) % 64, x.bytes ++ body, s.time⟩
          { s with cmd := { s.cmd with reasm := some y } }

/-- RCP_CAN_FRAME (R471). -/
def execRcpCanFrame (fd : Bool) (bytes : List (BitVec 8)) (s : State) : Host.Outcome State Fault Refusal :=
  finish (if canRcp s then canFrameIn fd bytes s else s)

/-- CAN_TRANSFER_TIMEOUT (R472): more than 50 ms between two frames of a transfer. -/
def execCanTransferTimeout (s : State) : Host.Outcome State Fault Refusal :=
  finish (match s.cmd.reasm with
    | some x => reasmDrop (s.at (x.at_ + 50 * ms + 1))
    | none => s)

/-! ## Relay frames (R594, R595) -/

/-- A receiver takes relay frames in the states of FW_BEGIN but RECOVERY, while RELAY_RX is 1. -/
def relayTakes (s : State) : Bool :=
  hostPowered s && s.flag F.FWU_CFG_RELAY_RX && (opStates 0x0A00).contains s.st && s.st != stRecovery

/-- RELAY_FRAME (R595): an answer of the neighbour that this module sends to, or a packet of one that sends to it. -/
def execRelayFrame (p : EthPort) (hop left : BitVec 8) (id : BitVec 32) (bytes : List (BitVec 8)) (s : State) :
    Host.Outcome State Fault Refusal :=
  finish (match s.fwu.tx.filter (fun x => x.port == p && x.id == id.toNat && isReply bytes) with
    | some x => if hostPowered s then relayReply x bytes s else s
    | none =>
      if relayTakes s then
        let done := match s.fwu.rx with
          | some r => if r.port = p ∧ r.id = id.toNat then r.done else []
          | none => []
        let r : RelayRx := ⟨p, hop.toNat, left.toNat, id.toNat, done⟩
        packetIn (.relay p) p false false bytes { s with fwu := { s.fwu with rx := some r } }
      else s)

end Sys2Proof.Machine
end

