-- ==== Sys2Proof/Machine/Tws.lean ====
section
/-!
DEFINITION. The two-wire service port (R551 to R555): one command is one whole transaction, from its START to its STOP.
`pec` is the PEC byte of a write, where one came.
-/

namespace Sys2Proof.Machine

/-- Byte `n` of TWS_ADDR in force: the address of slot `n` and its enable (R559). -/
def slotAddr (s : State) (n : Nat) : Nat := fieldOf (twsAddr s) (8 * n) 7
def slotOn (s : State) (n : Nat) : Bool := bitOf (twsAddr s) (8 * n + 7)

/-- The slot that an address matches (R552). -/
def twsSlot (s : State) (a : Nat) : Option Nat :=
  if a < 0x08 ∨ 0x78 ≤ a then none
  else if bitOf (twsCfg s) 0 then
    if a &&& slotAddr s 1 = slotAddr s 0 &&& slotAddr s 1 then some 0 else none
  else [0, 1, 2, 3].find? (fun n => slotOn s n && slotAddr s n == a)

/-- A STOP: a written configuration takes effect (R552), and the bus is free. -/
def twsStop (s : State) : State :=
  ({ s with bus := { s.bus with twsOld := none } }.setB F.TWS_STATUS_BUSY false).setB F.TWS_STATUS_STRETCH false

/-- A transaction that completes with a code at a slot. -/
def twsRun (n code : Nat) (f : State → State) (s : State) : State :=
  let s := f (s.setB F.TWS_STATUS_BUSY true)
  twsStop ((s.set F.TWS_STATUS_LAST_CODE code).set F.TWS_STATUS_LAST_SLOT n)

/-- A read transaction at an address of this port; other addresses are not for it. -/
def twsRead (addr : BitVec 7) (code : Nat) (f : Nat → State → State) (s : State) : State :=
  if hostPowered s then
    match twsSlot s addr.toNat with
    | some n => twsRun n code (f n) s
    | none => twsStop s
  else s

/-- The PEC of a write is wrong, or missing where one is required; it covers the address byte, the command code and the
data (R553). -/
def pecBad (addr : BitVec 7) (code : Nat) (body : List Byte) (pec : Option (BitVec 8)) (s : State) : Bool :=
  match pec with
  | some p => p.toNat != crc8 (u8 (2 * addr.toNat) ++ u8 code ++ body)
  | none => bitOf (twsCfg s) 8

/-- A write transaction: one whose form is not valid is NACKed and has no effect, one with a wrong or missing PEC is
discarded at its STOP (R553). -/
def twsWriteAt (addr : BitVec 7) (code : Nat) (valid : Bool) (body : List Byte) (pec : Option (BitVec 8))
    (f : Nat → State → State) (s : State) : State :=
  if hostPowered s then
    match twsSlot s addr.toNat with
    | some n =>
      if !valid then twsStop s
      else if pecBad addr code body pec s then
        twsRun n code (fun s => s.bump F.TWS_CNT_PEC_COUNT 1) s
      else twsRun n code (f n) s
    | none => twsStop s
  else s

/-! ## The mailbox (R473, R554) -/

/-- What a read sends: its bytes, and PEC over the whole transaction (R553). -/
def twsSend (addr : BitVec 7) (code : Nat) (b : List Byte) (s : State) : State :=
  let a := 2 * addr.toNat
  s.send (.tws (b ++ u8 (crc8 (u8 a ++ u8 code ++ u8 (a + 1) ++ b))))

/-- MBOX_STATUS: as a register read. -/
def execMboxStatus (addr : BitVec 7) (s : State) : Host.Outcome State Fault Refusal :=
  finish (twsRead addr 0x01 (fun _ s => let r := readWord 0x2030 s; twsSend addr 0x01 (u32 r.2.toNat) r.1) s)

def setPtr (n : Nat) (s : State) : State := { s with cmd := { s.cmd with mboxPtr := n } }

/-- MBOX_PTR. -/
def execMboxPtr (addr : BitVec 7) (offset : BitVec 16) (pec : Option (BitVec 8)) (s : State) :
    Host.Outcome State Fault Refusal :=
  finish (twsWriteAt addr 0x02 (decide (offset.toNat ≤ 1087)) (u16 offset.toNat) pec (fun _ s => setPtr offset.toNat s) s)

/-- Bytes put into a buffer at an offset; what has never been written is 0. -/
def putBytes (buf : List Byte) (at_ : Nat) (d : List Byte) : List Byte :=
  (buf.take at_ ++ List.replicate (at_ - buf.length) (0 : Byte)) ++ d ++ buf.drop (at_ + d.length)

/-- MBOX_WRITE. -/
def execMboxWrite (addr : BitVec 7) (data : List (BitVec 8)) (pec : Option (BitVec 8)) (s : State) :
    Host.Outcome State Fault Refusal :=
  let n := data.length
  let ok := decide (1 ≤ n ∧ n ≤ 32 ∧ s.cmd.mboxPtr + n ≤ 1088)
  finish (twsWriteAt addr 0x03 ok (u8 n ++ data) pec (fun _ s =>
    { s with cmd := { s.cmd with
      mboxReq := putBytes s.cmd.mboxReq s.cmd.mboxPtr data, mboxPtr := s.cmd.mboxPtr + n } }) s)

/-- MBOX_READ: a count and as many bytes of the reply buffer. -/
def mboxRead (addr : BitVec 7) (s : State) : State :=
  let n := if s.flag F.CMD_MBOX_READY then min 32 (s.get F.CMD_MBOX_RSP_LEN - s.cmd.mboxPtr) else 0
  twsSend addr 0x04 (u8 n ++ (s.cmd.mboxRsp.drop s.cmd.mboxPtr).take n) (setPtr (s.cmd.mboxPtr + n) s)

def execMboxRead (addr : BitVec 7) (s : State) : Host.Outcome State Fault Refusal :=
  finish (twsRead addr 0x04 (fun _ s => mboxRead addr s) s)

/-- GO (R473): ignored with GO_REJECT while BUSY is 1, and in BOOT before step 5 (R554). -/
def mboxGo (len : Nat) (s : State) : State :=
  if s.flag F.CMD_MBOX_BUSY || !rcpOpen ⟨.tws, .eth1, false, 0, 0⟩ s then s.setB F.CMD_MBOX_GO_REJECT true
  else
    let b := (s.cmd.mboxReq ++ List.replicate 1088 (0 : Byte)).take len
    packetIn .tws .eth1 false false b (setPtr 0 (s.setB F.CMD_MBOX_BUSY true))

/-- MBOX_GO. -/
def execMboxGo (addr : BitVec 7) (len : BitVec 16) (pec : Option (BitVec 8)) (s : State) :
    Host.Outcome State Fault Refusal :=
  finish (twsWriteAt addr 0x05 (decide (10 ≤ len.toNat ∧ len.toNat ≤ 1088)) (u16 len.toNat) pec (fun _ s => mboxGo len.toNat s) s)

/-- ACK (R473): READY clears, and the next queued notification enters the reply buffer. -/
def mboxAck (s : State) : State :=
  let s := setPtr 0 (s.setB F.CMD_MBOX_READY false)
  match s.cmd.mboxQueue with
  | [] => s
  | h :: t => mboxFill h { s with cmd := { s.cmd with mboxQueue := t } }

/-- MBOX_ACK. -/
def execMboxAck (addr : BitVec 7) (pec : Option (BitVec 8)) (s : State) :
    Host.Outcome State Fault Refusal :=
  finish (twsWriteAt addr 0x06 true [] pec (fun _ s => mboxAck s) s)

/-! ## The register window (R69, R552, R554) -/

def winAddr (s : State) (n : Nat) : Nat := tabGet s.bus.win n 0

def setWin (n a : Nat) (s : State) : State := { s with bus := { s.bus with win := tabSet s.bus.win n (a % 2 ^ 32) } }

/-- One word is read, 0 outside the layout; the address advances. -/
def winReadOne (n : Nat) (s : State) : State × Word :=
  let a := winAddr s n
  let r := if validAddr a then readWord a s else (s, 0)
  (setWin n (a + 4) r.1, r.2)

/-- One word is written; the address advances. -/
def winWriteOne (n : Nat) (v : Word) (s : State) : State :=
  let a := winAddr s n
  setWin n (a + 4) (writeSpace .win a v s)

def winReads : Nat → Nat → State → State × List Word
  | _, 0, s => (s, [])
  | n, k + 1, s =>
    let r := winReadOne n s
    let t := winReads n k r.1
    (t.1, r.2 :: t.2)

/-- WIN_ADDR. -/
def execWinAddr (addr : BitVec 7) (word : BitVec 32) (pec : Option (BitVec 8)) (s : State) :
    Host.Outcome State Fault Refusal :=
  finish (twsWriteAt addr 0x10 true (u32 word.toNat) pec (fun n s => setWin n word.toNat s) s)

/-- WIN_READ. -/
def execWinRead (addr : BitVec 7) (s : State) : Host.Outcome State Fault Refusal :=
  finish (twsRead addr 0x11 (fun n s => let r := winReadOne n s; twsSend addr 0x11 (u32 r.2.toNat) r.1) s)

/-- WIN_WRITE. -/
def execWinWrite (addr : BitVec 7) (value : BitVec 32) (pec : Option (BitVec 8)) (s : State) :
    Host.Outcome State Fault Refusal :=
  finish (twsWriteAt addr 0x12 true (u32 value.toNat) pec (fun n s => winWriteOne n value s) s)

/-- WIN_READ_BLOCK: eight words. -/
def execWinReadBlock (addr : BitVec 7) (s : State) : Host.Outcome State Fault Refusal :=
  finish (twsRead addr 0x13 (fun n s =>
    let r := winReads n 8 s
    twsSend addr 0x13 (u8 32 ++ (r.2.map (fun w => u32 w.toNat)).flatten) r.1) s)

/-- WIN_WRITE_BLOCK: one to eight words in order. -/
def execWinWriteBlock (addr : BitVec 7) (data : List (BitVec 8)) (pec : Option (BitVec 8)) (s : State) :
    Host.Outcome State Fault Refusal :=
  let k := data.length
  finish (twsWriteAt addr 0x14 (decide (4 ≤ k ∧ k ≤ 32 ∧ k % 4 = 0)) (u8 k ++ data) pec (fun n s =>
    (wordsOf (k / 4) data).foldl (fun s v => winWriteOne n v s) s) s)

/-- IDENT: serial and part code. -/
def execIdent (addr : BitVec 7) (s : State) : Host.Outcome State Fault Refusal :=
  finish (twsRead addr 0x20 (fun _ s => twsSend addr 0x20 (u64 (serialNum s) ++ u32 (s.word 0x800).toNat) s) s)

/-! ## Recovery of the bus (R555) -/

/-- TWS_TIMEOUT: the transaction is abandoned without effect. -/
def execTwsTimeout (s : State) : Host.Outcome State Fault Refusal :=
  finish (if hostPowered s then
    let s := (s.setB F.TWS_STATUS_BUSY false).setB F.TWS_STATUS_STRETCH false
    raise C.TWS_TIMEOUT (s.bump F.TWS_CNT_TMO_COUNT 1)
  else s)

/-- TWS_START_STOP: the target logic restarts, and a write in progress is discarded; `stop` tells a STOP from a
START. -/
def execTwsStartStop (stop : Bool) (s : State) : Host.Outcome State Fault Refusal :=
  finish (if hostPowered s then
    if stop then twsStop s else (s.setB F.TWS_STATUS_BUSY false).setB F.TWS_STATUS_STRETCH false
  else s)

end Sys2Proof.Machine
end

