-- ==== Sys2Proof/Machine/Dispatch.lean ====
section
/-! DEFINITION. One arm per command: the only place that maps a command to its meaning. -/

namespace Sys2Proof.Machine

/-- The effect of one command on everything but the queue. -/
def exec (i : Instr) (s : State) : Host.Outcome State Fault Refusal :=
  match i with
  | .controlTick iStr vStr vBus iPh iAux gate => Sys2Proof.Machine.execControlTick iStr vStr vBus iPh iAux gate s
  | .outerLoopSample => Sys2Proof.Machine.execOuterLoopSample s
  | .pwmPeriodStart => Sys2Proof.Machine.execPwmPeriodStart s
  | .frameStart lastA => Sys2Proof.Machine.execFrameStart lastA s
  | .frameReceived slots endB errors reports => Sys2Proof.Machine.execFrameReceived slots endB errors reports s
  | .caravan1Scan slots errors reports lastA => Sys2Proof.Machine.execCaravan1Scan slots errors reports lastA s
  | .protectionTick ampl => Sys2Proof.Machine.execProtectionTick ampl s
  | .estimationTick => Sys2Proof.Machine.execEstimationTick s
  | .managementTick => Sys2Proof.Machine.execManagementTick s
  | .dioCycle currents outVolts limit volt => Sys2Proof.Machine.execDioCycle currents outVolts limit volt s
  | .thermalScan pst die => Sys2Proof.Machine.execThermalScan pst die s
  | .sweepBoundary => Sys2Proof.Machine.execSweepBoundary s
  | .recordWrite => Sys2Proof.Machine.execRecordWrite s
  | .feedPresent f both ilHigh mv b => Sys2Proof.Machine.execFeedPresent f both ilHigh mv b s
  | .feedAbsent f ilHigh mv => Sys2Proof.Machine.execFeedAbsent f ilHigh mv s
  | .brownOut => Sys2Proof.Machine.execBrownOut s
  | .serviceReqWake b => Sys2Proof.Machine.execServiceReqWake b s
  | .wakeContact b => Sys2Proof.Machine.execWakeContact b s
  | .wakeTimerExpiry b => Sys2Proof.Machine.execWakeTimerExpiry b s
  | .serviceReqRecovery => Sys2Proof.Machine.execServiceReqRecovery s
  | .serviceReqRelease waited b => Sys2Proof.Machine.execServiceReqRelease waited b s
  | .bootDone r => Sys2Proof.Machine.execBootDone r s
  | .bootTimeout b => Sys2Proof.Machine.execBootTimeout b s
  | .bootHeartbeatLoss b => Sys2Proof.Machine.execBootHeartbeatLoss b s
  | .stateRequest c target arg => Sys2Proof.Machine.execStateRequest c target arg s
  | .warmReset c b => Sys2Proof.Machine.execWarmReset c b s
  | .enterRecovery c b => Sys2Proof.Machine.execEnterRecovery c b s
  | .isolationReset c => Sys2Proof.Machine.execIsolationReset c s
  | .setPersonality c p => Sys2Proof.Machine.execSetPersonality c p s
  | .commissionDone c => Sys2Proof.Machine.execCommissionDone c s
  | .reinitCvl c => Sys2Proof.Machine.execReinitCvl c s
  | .reinitCana c => Sys2Proof.Machine.execReinitCana c s
  | .reinitCanb c => Sys2Proof.Machine.execReinitCanb c s
  | .reinitTwl c free => Sys2Proof.Machine.execReinitTwl c free s
  | .reinitEth c port => Sys2Proof.Machine.execReinitEth c port s
  | .reinitEis c => Sys2Proof.Machine.execReinitEis c s
  | .reinitEst c => Sys2Proof.Machine.execReinitEst c s
  | .reinitDsp c lane => Sys2Proof.Machine.execReinitDsp c lane s
  | .stopTimeout => Sys2Proof.Machine.execStopTimeout s
  | .testTimeout => Sys2Proof.Machine.execTestTimeout s
  | .holdTimeout => Sys2Proof.Machine.execHoldTimeout s
  | .holdCurrent => Sys2Proof.Machine.execHoldCurrent s
  | .oasisHandoff => Sys2Proof.Machine.execOasisHandoff s
  | .rstLocalPulse => Sys2Proof.Machine.execRstLocalPulse s
  | .rstLong => Sys2Proof.Machine.execRstLong s
  | .supervisorWatchdog => Sys2Proof.Machine.execSupervisorWatchdog s
  | .supervisorException b => Sys2Proof.Machine.execSupervisorException b s
  | .clockLoss isl => Sys2Proof.Machine.execClockLoss isl s
  | .clockRestore isl => Sys2Proof.Machine.execClockRestore isl s
  | .heartbeatLoss bySp => Sys2Proof.Machine.execHeartbeatLoss bySp s
  | .logicClockStop => Sys2Proof.Machine.execLogicClockStop s
  | .regRead c addr count => Sys2Proof.Machine.execRegRead c addr count s
  | .regWrite c addr values => Sys2Proof.Machine.execRegWrite c addr values s
  | .regModify c addr mask value => Sys2Proof.Machine.execRegModify c addr mask value s
  | .registerWrite p addr value => Sys2Proof.Machine.execRegisterWrite p addr value s
  | .bitAliasRead p addr => Sys2Proof.Machine.execBitAliasRead p addr s
  | .bitAliasWrite p addr value => Sys2Proof.Machine.execBitAliasWrite p addr value s
  | .shadowWrite p addr value => Sys2Proof.Machine.execShadowWrite p addr value s
  | .blockCommit p b token => Sys2Proof.Machine.execBlockCommit p b token s
  | .shadowDiscard p b token => Sys2Proof.Machine.execShadowDiscard p b token s
  | .commitApply b => Sys2Proof.Machine.execCommitApply b s
  | .postedWrite p addr value => Sys2Proof.Machine.execPostedWrite p addr value s
  | .postedWriteComplete d => Sys2Proof.Machine.execPostedWriteComplete d s
  | .postFail d => Sys2Proof.Machine.execPostFail d s
  | .snapTake p => Sys2Proof.Machine.execSnapTake p s
  | .snapshot c => Sys2Proof.Machine.execSnapshot c s
  | .snapshotCopy => Sys2Proof.Machine.execSnapshotCopy s
  | .intRearm p => Sys2Proof.Machine.execIntRearm p s
  | .boardMissing k => Sys2Proof.Machine.execBoardMissing k s
  | .boardMissingClear k => Sys2Proof.Machine.execBoardMissingClear k s
  | .noReadingLimit pos => Sys2Proof.Machine.execNoReadingLimit pos s
  | .boardResponse k code result data => Sys2Proof.Machine.execBoardResponse k code result data s
  | .boardCommandResend k code => Sys2Proof.Machine.execBoardCommandResend k code s
  | .boardCommandFail k code => Sys2Proof.Machine.execBoardCommandFail k code s
  | .addressTokenTimeout => Sys2Proof.Machine.execAddressTokenTimeout s
  | .enumDone v => Sys2Proof.Machine.execEnumDone v s
  | .ringRestore back => Sys2Proof.Machine.execRingRestore back s
  | .keepaliveTakeover => Sys2Proof.Machine.execKeepaliveTakeover s
  | .wadiLoss at_ => Sys2Proof.Machine.execWadiLoss at_ s
  | .wadiToneReturn => Sys2Proof.Machine.execWadiToneReturn s
  | .wadiLow => Sys2Proof.Machine.execWadiLow s
  | .wadiTest c k => Sys2Proof.Machine.execWadiTest c k s
  | .boardAccept c k => Sys2Proof.Machine.execBoardAccept c k s
  | .remoteWordWrite p value => Sys2Proof.Machine.execRemoteWordWrite p value s
  | .remoteMirrorRefresh words balState cvMask => Sys2Proof.Machine.execRemoteMirrorRefresh words balState cvMask s
  | .stillnessWindowEnd => Sys2Proof.Machine.execStillnessWindowEnd s
  | .openWireTest c k => Sys2Proof.Machine.execOpenWireTest c k s
  | .wireLearn c => Sys2Proof.Machine.execWireLearn c s
  | .wireResSet c wire res => Sys2Proof.Machine.execWireResSet c wire res s
  | .icLearn c => Sys2Proof.Machine.execIcLearn c s
  | .wireLearnDone => Sys2Proof.Machine.execWireLearnDone s
  | .icLearnDone => Sys2Proof.Machine.execIcLearnDone s
  | .sumCheck => Sys2Proof.Machine.execSumCheck s
  | .sumCheckClear => Sys2Proof.Machine.execSumCheckClear s
  | .diagnosisOpenWire => Sys2Proof.Machine.execDiagnosisOpenWire s
  | .openWirePeriodic k => Sys2Proof.Machine.execOpenWirePeriodic k s
  | .openWireDone k => Sys2Proof.Machine.execOpenWireDone k s
  | .wireBreakRetest k => Sys2Proof.Machine.execWireBreakRetest k s
  | .cellFaultClear pos => Sys2Proof.Machine.execCellFaultClear pos s
  | .softLimitSet pos high => Sys2Proof.Machine.execSoftLimitSet pos high s
  | .softLimitClear pos high => Sys2Proof.Machine.execSoftLimitClear pos high s
  | .podFault pod stuck => Sys2Proof.Machine.execPodFault pod stuck s
  | .podRecover pod => Sys2Proof.Machine.execPodRecover pod s
  | .eisStart c mode n => Sys2Proof.Machine.execEisStart c mode n s
  | .eisStop c => Sys2Proof.Machine.execEisStop c s
  | .stepPulse c amp => Sys2Proof.Machine.execStepPulse c amp s
  | .headroomResume => Sys2Proof.Machine.execHeadroomResume s
  | .eisTimeout => Sys2Proof.Machine.execEisTimeout s
  | .resultPublish => Sys2Proof.Machine.execResultPublish s
  | .eisHoldRelease p => Sys2Proof.Machine.execEisHoldRelease p s
  | .fitDone => Sys2Proof.Machine.execFitDone s
  | .stepDone => Sys2Proof.Machine.execStepDone s
  | .stepPulseEnd => Sys2Proof.Machine.execStepPulseEnd s
  | .restPoint pos => Sys2Proof.Machine.execRestPoint pos s
  | .virtualRest pos => Sys2Proof.Machine.execVirtualRest pos s
  | .estInsert c first count => Sys2Proof.Machine.execEstInsert c first count s
  | .capacitySet c pos cap unc => Sys2Proof.Machine.execCapacitySet c pos cap unc s
  | .estPersist c => Sys2Proof.Machine.execEstPersist c s
  | .persistDone ok => Sys2Proof.Machine.execPersistDone ok s
  | .estPackWrite p value => Sys2Proof.Machine.execEstPackWrite p value s
  | .balPolicy c policy align => Sys2Proof.Machine.execBalPolicy c policy align s
  | .balStop c => Sys2Proof.Machine.execBalStop c s
  | .balManual c k mask byp hold => Sys2Proof.Machine.execBalManual c k mask byp hold s
  | .oasisReportRead c k => Sys2Proof.Machine.execOasisReportRead c k s
  | .balancePlanReady => Sys2Proof.Machine.execBalancePlanReady s
  | .cvOvershoot => Sys2Proof.Machine.execCvOvershoot s
  | .oasisReportApply => Sys2Proof.Machine.execOasisReportApply s
  | .loopClose c => Sys2Proof.Machine.execLoopClose c s
  | .loopOpen c => Sys2Proof.Machine.execLoopOpen c s
  | .feedbackAck c => Sys2Proof.Machine.execFeedbackAck c s
  | .rcReset c => Sys2Proof.Machine.execRcReset c s
  | .ctlCtrlFbAck p => Sys2Proof.Machine.execCtlCtrlFbAck p s
  | .ctlCtrlRcReset p => Sys2Proof.Machine.execCtlCtrlRcReset p s
  | .ctlDeadlineMiss outer => Sys2Proof.Machine.execCtlDeadlineMiss outer s
  | .gateFault phase => Sys2Proof.Machine.execGateFault phase s
  | .mirage => Sys2Proof.Machine.execMirage s
  | .auxMismatch => Sys2Proof.Machine.execAuxMismatch s
  | .prechargeDone => Sys2Proof.Machine.execPrechargeDone s
  | .prechargeNoCurrent => Sys2Proof.Machine.execPrechargeNoCurrent s
  | .prechargeTimeout => Sys2Proof.Machine.execPrechargeTimeout s
  | .setpoint c bytes => Sys2Proof.Machine.execSetpoint c bytes s
  | .setpointCanFrame bytes => Sys2Proof.Machine.execSetpointCanFrame bytes s
  | .timedSetpointApply => Sys2Proof.Machine.execTimedSetpointApply s
  | .limitEntryEnd => Sys2Proof.Machine.execLimitEntryEnd s
  | .setpointLate => Sys2Proof.Machine.execSetpointLate s
  | .setpointLoss => Sys2Proof.Machine.execSetpointLoss s
  | .recipeWrite c recipe step record => Sys2Proof.Machine.execRecipeWrite c recipe step record s
  | .recipeSeal c recipe count limit => Sys2Proof.Machine.execRecipeSeal c recipe count limit s
  | .recipeStart c recipe first => Sys2Proof.Machine.execRecipeStart c recipe first s
  | .recipeStop c => Sys2Proof.Machine.execRecipeStop c s
  | .gradeRead c first count => Sys2Proof.Machine.execGradeRead c first count s
  | .recipeTmaxExpiry => Sys2Proof.Machine.execRecipeTmaxExpiry s
  | .recipeStepStart => Sys2Proof.Machine.execRecipeStepStart s
  | .recipeTimeLimit => Sys2Proof.Machine.execRecipeTimeLimit s
  | .pulseStepToggle => Sys2Proof.Machine.execPulseStepToggle s
  | .throttleStep => Sys2Proof.Machine.execThrottleStep s
  | .throttleRecover => Sys2Proof.Machine.execThrottleRecover s
  | .releaseReady => Sys2Proof.Machine.execReleaseReady s
  | .chillerRequest => Sys2Proof.Machine.execChillerRequest s
  | .chillerReply data => Sys2Proof.Machine.execChillerReply data s
  | .coolantFault => Sys2Proof.Machine.execCoolantFault s
  | .thermalRelease c => Sys2Proof.Machine.execThermalRelease c s
  | .coolTest c duty6 duty7 hold => Sys2Proof.Machine.execCoolTest c duty6 duty7 hold s
  | .coolTestEnd => Sys2Proof.Machine.execCoolTestEnd s
  | .scsTimeout => Sys2Proof.Machine.execScsTimeout s
  | .zslScsBackup => Sys2Proof.Machine.execZslScsBackup s
  | .auxOvercurrent => Sys2Proof.Machine.execAuxOvercurrent s
  | .cellLimit pos high => Sys2Proof.Machine.execCellLimit pos high s
  | .envelopeExceeded => Sys2Proof.Machine.execEnvelopeExceeded s
  | .safetyInputOpen ch => Sys2Proof.Machine.execSafetyInputOpen ch s
  | .safetyInputRelease ch => Sys2Proof.Machine.execSafetyInputRelease ch s
  | .testPulseFault ch => Sys2Proof.Machine.execTestPulseFault ch s
  | .testPulseFaultClear ch => Sys2Proof.Machine.execTestPulseFaultClear ch s
  | .discrepancyFault si1 => Sys2Proof.Machine.execDiscrepancyFault si1 s
  | .coilTestPulseEnd off => Sys2Proof.Machine.execCoilTestPulseEnd off s
  | .contactorConfirm k closed => Sys2Proof.Machine.execContactorConfirm k closed s
  | .closeFail k => Sys2Proof.Machine.execCloseFail k s
  | .dropOut k => Sys2Proof.Machine.execDropOut k s
  | .weldSuspect k => Sys2Proof.Machine.execWeldSuspect k s
  | .contactorTest c k channel => Sys2Proof.Machine.execContactorTest c k channel s
  | .contactorTestHoldEnd => Sys2Proof.Machine.execContactorTestHoldEnd s
  | .contactorTestDone => Sys2Proof.Machine.execContactorTestDone s
  | .safeSummary c => Sys2Proof.Machine.execSafeSummary c s
  | .diStateChange x => Sys2Proof.Machine.execDiStateChange x s
  | .fieldSupplyLow => Sys2Proof.Machine.execFieldSupplyLow s
  | .fieldSupplyRecover => Sys2Proof.Machine.execFieldSupplyRecover s
  | .dioDoSetWrite p value => Sys2Proof.Machine.execDioDoSetWrite p value s
  | .doHostTimeout => Sys2Proof.Machine.execDoHostTimeout s
  | .doShort x => Sys2Proof.Machine.execDoShort x s
  | .doRetry cool => Sys2Proof.Machine.execDoRetry cool s
  | .doThermal x => Sys2Proof.Machine.execDoThermal x s
  | .doExtDrive x => Sys2Proof.Machine.execDoExtDrive x s
  | .extClear x => Sys2Proof.Machine.execExtClear x s
  | .crossTestPulseEnd => Sys2Proof.Machine.execCrossTestPulseEnd s
  | .crossAck p value => Sys2Proof.Machine.execCrossAck p value s
  | .pt1000Sample ohms => Sys2Proof.Machine.execPt1000Sample ohms s
  | .rcpPacketReceive src p broadcast fragment bytes => Sys2Proof.Machine.execRcpPacketReceive src p broadcast fragment bytes s
  | .commandStart => Sys2Proof.Machine.execCommandStart s
  | .ping c data => Sys2Proof.Machine.execPing c data s
  | .identify c => Sys2Proof.Machine.execIdentify c s
  | .sessionOpen c => Sys2Proof.Machine.execSessionOpen c s
  | .sessionClose c => Sys2Proof.Machine.execSessionClose c s
  | .sessionTimeout session => Sys2Proof.Machine.execSessionTimeout session s
  | .subscribe c mask => Sys2Proof.Machine.execSubscribe c mask s
  | .causeNotify session => Sys2Proof.Machine.execCauseNotify session s
  | .authChallenge c => Sys2Proof.Machine.execAuthChallenge c s
  | .authResponse c mac => Sys2Proof.Machine.execAuthResponse c mac s
  | .authDrop c => Sys2Proof.Machine.execAuthDrop c s
  | .keyInit c key => Sys2Proof.Machine.execKeyInit c key s
  | .keyRotate c wrapped check => Sys2Proof.Machine.execKeyRotate c wrapped check s
  | .authExpiry session => Sys2Proof.Machine.execAuthExpiry session s
  | .authLockoutEnd => Sys2Proof.Machine.execAuthLockoutEnd s
  | .rcpCanFrame fd bytes => Sys2Proof.Machine.execRcpCanFrame fd bytes s
  | .canTransferTimeout => Sys2Proof.Machine.execCanTransferTimeout s
  | .linkChange p up speed duplex => Sys2Proof.Machine.execLinkChange p up speed duplex s
  | .ethFrameIngress p len dst src tag ptp full => Sys2Proof.Machine.execEthFrameIngress p len dst src tag ptp full s
  | .ipApply p => Sys2Proof.Machine.execIpApply p s
  | .dhcpRetry lease => Sys2Proof.Machine.execDhcpRetry lease s
  | .ptpOffsetSample at_ theta delay => Sys2Proof.Machine.execPtpOffsetSample at_ theta delay s
  | .ptpAnnounce p gm port1 port2 utc utcValid ptpScale => Sys2Proof.Machine.execPtpAnnounce p gm port1 port2 utc utcValid ptpScale s
  | .ptpSyncTimeout => Sys2Proof.Machine.execPtpSyncTimeout s
  | .announceTimeout => Sys2Proof.Machine.execAnnounceTimeout s
  | .holdMaxExpiry => Sys2Proof.Machine.execHoldMaxExpiry s
  | .ptpCfgWrite p addr value => Sys2Proof.Machine.execPtpCfgWrite p addr value s
  | .timeSetGo p => Sys2Proof.Machine.execTimeSetGo p s
  | .timeReadLatch => Sys2Proof.Machine.execTimeReadLatch s
  | .canFrameReceive ch ide id rtr fdf brs esi data => Sys2Proof.Machine.execCanFrameReceive ch ide id rtr fdf brs esi data s
  | .canRxSelect p ch value => Sys2Proof.Machine.execCanRxSelect p ch value s
  | .canTxLoad p ch value => Sys2Proof.Machine.execCanTxLoad p ch value s
  | .canTxAbort p ch value => Sys2Proof.Machine.execCanTxAbort p ch value s
  | .canTxComplete ch => Sys2Proof.Machine.execCanTxComplete ch s
  | .canError ch tx lec dominant => Sys2Proof.Machine.execCanError ch tx lec dominant s
  | .canBusOffRecover ch => Sys2Proof.Machine.execCanBusOffRecover ch s
  | .canBoRecoverWrite p ch value => Sys2Proof.Machine.execCanBoRecoverWrite p ch value s
  | .mboxStatus addr => Sys2Proof.Machine.execMboxStatus addr s
  | .mboxPtr addr offset pec => Sys2Proof.Machine.execMboxPtr addr offset pec s
  | .mboxWrite addr data pec => Sys2Proof.Machine.execMboxWrite addr data pec s
  | .mboxRead addr => Sys2Proof.Machine.execMboxRead addr s
  | .mboxGo addr len pec => Sys2Proof.Machine.execMboxGo addr len pec s
  | .mboxAck addr pec => Sys2Proof.Machine.execMboxAck addr pec s
  | .winAddr addr word pec => Sys2Proof.Machine.execWinAddr addr word pec s
  | .winRead addr => Sys2Proof.Machine.execWinRead addr s
  | .winWrite addr value pec => Sys2Proof.Machine.execWinWrite addr value pec s
  | .winReadBlock addr => Sys2Proof.Machine.execWinReadBlock addr s
  | .winWriteBlock addr data pec => Sys2Proof.Machine.execWinWriteBlock addr data pec s
  | .ident addr => Sys2Proof.Machine.execIdent addr s
  | .twsTimeout => Sys2Proof.Machine.execTwsTimeout s
  | .twlGo p value clear => Sys2Proof.Machine.execTwlGo p value clear s
  | .twlTransferDone nack data => Sys2Proof.Machine.execTwlTransferDone nack data s
  | .twlArbLost byte bit => Sys2Proof.Machine.execTwlArbLost byte bit s
  | .twlTimeout free => Sys2Proof.Machine.execTwlTimeout free s
  | .twlClear p value free => Sys2Proof.Machine.execTwlClear p value free s
  | .twlAbort p value => Sys2Proof.Machine.execTwlAbort p value s
  | .twlPwrCycleEnd free => Sys2Proof.Machine.execTwlPwrCycleEnd free s
  | .evrRead c first count => Sys2Proof.Machine.execEvrRead c first count s
  | .evrStatus c => Sys2Proof.Machine.execEvrStatus c s
  | .evrClear c mask => Sys2Proof.Machine.execEvrClear c mask s
  | .evrClearDone => Sys2Proof.Machine.execEvrClearDone s
  | .fwBegin c typ size => Sys2Proof.Machine.execFwBegin c typ size s
  | .fwData c offset data => Sys2Proof.Machine.execFwData c offset data s
  | .fwVerify c => Sys2Proof.Machine.execFwVerify c s
  | .fwVerifyDone readError => Sys2Proof.Machine.execFwVerifyDone readError s
  | .fwActivateSup c => Sys2Proof.Machine.execFwActivateSup c s
  | .fwActivatePln c => Sys2Proof.Machine.execFwActivatePln c s
  | .fwRelay c port hops => Sys2Proof.Machine.execFwRelay c port hops s
  | .fwStatus c => Sys2Proof.Machine.execFwStatus c s
  | .transferAbort => Sys2Proof.Machine.execTransferAbort s
  | .fwConfirm => Sys2Proof.Machine.execFwConfirm s
  | .relayFrame p hop left id bytes => Sys2Proof.Machine.execRelayFrame p hop left id bytes s
  | .relayProgress p id bytes => Sys2Proof.Machine.execRelayProgress p id bytes s
  | .relayResend seq => Sys2Proof.Machine.execRelayResend seq s
  | .handoverReady ok => Sys2Proof.Machine.execHandoverReady ok s
  | .handoverReadyTimeout => Sys2Proof.Machine.execHandoverReadyTimeout s
  | .handoverDone result => Sys2Proof.Machine.execHandoverDone result s
  | .plnActivationDone result v => Sys2Proof.Machine.execPlnActivationDone result v s
  | .plnHeartbeatTimeout => Sys2Proof.Machine.execPlnHeartbeatTimeout s
  | .recoveryExitTimeout b => Sys2Proof.Machine.execRecoveryExitTimeout b s
  | .changeoverConfirm => Sys2Proof.Machine.execChangeoverConfirm s
  | .changeoverTimeout => Sys2Proof.Machine.execChangeoverTimeout s
  | .feedIlFault gates => Sys2Proof.Machine.execFeedIlFault gates s
  | .feedGoA p ilHigh => Sys2Proof.Machine.execFeedGoA p ilHigh s
  | .feedGoB p ilHigh => Sys2Proof.Machine.execFeedGoB p ilHigh s
  | .autoReturn ilHigh => Sys2Proof.Machine.execAutoReturn ilHigh s
  | .swapTest p ilHigh => Sys2Proof.Machine.execSwapTest p ilHigh s
  | .swapTestPeriodic ilHigh => Sys2Proof.Machine.execSwapTestPeriodic ilHigh s
  | .swapDwellEnd vmin iin ilHigh => Sys2Proof.Machine.execSwapDwellEnd vmin iin ilHigh s
  | .standbyAbsent => Sys2Proof.Machine.execStandbyAbsent s
  | .storeOk mv => Sys2Proof.Machine.execStoreOk mv s
  | .railFault rail => Sys2Proof.Machine.execRailFault rail s
  | .canArbitrationLost ch => Sys2Proof.Machine.execCanArbitrationLost ch s
  | .twsStartStop stop => Sys2Proof.Machine.execTwsStartStop stop s
  | .macAddressAgeOut addr => Sys2Proof.Machine.execMacAddressAgeOut addr s

end Sys2Proof.Machine
end

