-- ==== Sys2Proof/Safety.lean ====
section
/-!
DEFINITION. What counts as a safe state of the module, in the terms the statements use: the outputs of the ZSL and of SP
are no more than their conditions allow, and the interrupt line and the status counts tell the truth. Further the terms
in which the statements speak of requests: which are admitted, which rows are requests, and how a request is built.
-/

namespace Sys2Proof.Safety

open Sys2Proof.Machine

/-- PWM_EN is high exactly while SP requests it and the ZSL's matrix is clear; the loop is closed only then; SP requests
it only in RUN or SAFE_STOP (R394, R306). -/
def PwmSafe (s : State) : Prop :=
  s.flag F.CTL_STATUS_PWM_EN = (pwmRequest s && matrixClear s) ∧
    (s.flag F.CTL_STATUS_CLOSED = true → s.flag F.CTL_STATUS_PWM_EN = true) ∧
    (s.flag F.SAFE_STATUS_PWM_EN_REQ = true → s.st = stRun ∨ s.st = stSafeStop)

/-- The low side of a coil is on only while the ZSL's matrix allows it (R411). -/
def LowSidesSafe (s : State) : Prop := ∀ c, c < 3 → s.flag (konLs c) = true → lowSideOk s = true

/-- SAFE_OK is high exactly while both isolation latches are clear and no demand is present (R396). -/
def SafeOkTrue (s : State) : Prop := s.flag F.SAFE_STATUS_SAFE_OK = safeOk s

/-- INT_SUMMARY shows the groups with an unmasked cause, and nIRQ is low exactly while GLOBAL_EN is set, the summary is
not 0 and no rearm runs (R90, R91). -/
def IrqTrue (s : State) : Prop := s.get F.INT_SUMMARY_GROUP = summary s ∧ s.sys.nirqLow = irqLow s

/-- CMD_QUEUE counts the queue slots in use and the sessions, EVR_STATUS the buffered records (R485, R582). -/
def CountsTrue (s : State) : Prop :=
  s.get F.CMD_QUEUE_PRIO_USED = s.cmd.slots.countP (·.reserved) % 256 ∧
    s.get F.CMD_QUEUE_NORMAL_USED = s.cmd.slots.countP (fun x => !x.reserved) % 256 ∧
    s.get F.CMD_QUEUE_SESSIONS = s.cmd.sessions.length % 16 ∧
    s.get F.EVR_STATUS_BUF_FILL = s.evr.buffer.length % 512

/-- A safe state. -/
def Safe (s : State) : Prop := PwmSafe s ∧ LowSidesSafe s ∧ SafeOkTrue s ∧ IrqTrue s ∧ CountsTrue s

/-! ## Requests -/

/-- A request of an opcode that an open transport brings in an open session and that the checks of state, direct mode,
activation pause and authorisation let through (R45, R474, R477). -/
def Admitted (c : Ctx) (op : Nat) (s : State) : Prop :=
  rcpOpen c s = true ∧ sessionOpen c s = true ∧ guardFail c op s = none

/-- The context and the opcode of a row that is an RCP request of its own. -/
def rcpRow : Instr → Option (Ctx × Nat)
  | .stateRequest c _ _ => some (c, 0x0010)
  | .warmReset c _ => some (c, 0x0011)
  | .enterRecovery c _ => some (c, 0x0012)
  | .isolationReset c => some (c, 0x0013)
  | .setPersonality c _ => some (c, 0x0014)
  | .commissionDone c => some (c, 0x0015)
  | .reinitCvl c => some (c, 0x0C01)
  | .reinitCana c => some (c, 0x0C02)
  | .reinitCanb c => some (c, 0x0C03)
  | .reinitTwl c _ => some (c, 0x0C04)
  | .reinitEth c _ => some (c, 0x0C05)
  | .reinitEis c => some (c, 0x0C06)
  | .reinitEst c => some (c, 0x0C07)
  | .reinitDsp c _ => some (c, 0x0C08)
  | .regRead c _ _ => some (c, 0x0100)
  | .regWrite c _ _ => some (c, 0x0101)
  | .regModify c _ _ _ => some (c, 0x0102)
  | .snapshot c => some (c, 0x0006)
  | .wadiTest c _ => some (c, 0x0280)
  | .boardAccept c _ => some (c, 0x0281)
  | .openWireTest c _ => some (c, 0x0200)
  | .wireLearn c => some (c, 0x0201)
  | .wireResSet c _ _ => some (c, 0x0202)
  | .icLearn c => some (c, 0x0203)
  | .eisStart c _ _ => some (c, 0x0210)
  | .eisStop c => some (c, 0x0211)
  | .stepPulse c _ => some (c, 0x0212)
  | .estInsert c _ _ => some (c, 0x0300)
  | .capacitySet c _ _ _ => some (c, 0x0301)
  | .estPersist c => some (c, 0x0302)
  | .balPolicy c _ _ => some (c, 0x0400)
  | .balStop c => some (c, 0x0401)
  | .balManual c _ _ _ _ => some (c, 0x0402)
  | .oasisReportRead c _ => some (c, 0x0403)
  | .loopClose c => some (c, 0x0500)
  | .loopOpen c => some (c, 0x0501)
  | .feedbackAck c => some (c, 0x0502)
  | .rcReset c => some (c, 0x0503)
  | .recipeWrite c _ _ _ => some (c, 0x0601)
  | .recipeSeal c _ _ _ => some (c, 0x0602)
  | .recipeStart c _ _ => some (c, 0x0603)
  | .recipeStop c => some (c, 0x0604)
  | .gradeRead c _ _ => some (c, 0x0605)
  | .thermalRelease c => some (c, 0x0700)
  | .coolTest c _ _ _ => some (c, 0x0701)
  | .contactorTest c _ _ => some (c, 0x0800)
  | .safeSummary c => some (c, 0x0801)
  | .ping c _ => some (c, 0x0000)
  | .identify c => some (c, 0x0001)
  | .sessionOpen c => some (c, 0x0002)
  | .sessionClose c => some (c, 0x0003)
  | .subscribe c _ => some (c, 0x0004)
  | .authChallenge c => some (c, 0x0B00)
  | .authResponse c _ => some (c, 0x0B01)
  | .authDrop c => some (c, 0x0B02)
  | .keyInit c _ => some (c, 0x0B03)
  | .keyRotate c _ _ => some (c, 0x0B04)
  | .evrRead c _ _ => some (c, 0x0900)
  | .evrStatus c => some (c, 0x0901)
  | .evrClear c _ => some (c, 0x0902)
  | .fwBegin c _ _ => some (c, 0x0A00)
  | .fwData c _ _ => some (c, 0x0A01)
  | .fwVerify c => some (c, 0x0A02)
  | .fwActivateSup c => some (c, 0x0A03)
  | .fwActivatePln c => some (c, 0x0A04)
  | .fwRelay c _ _ => some (c, 0x0A05)
  | .fwStatus c => some (c, 0x0A06)
  | .controlTick .. | .outerLoopSample | .pwmPeriodStart | .frameStart .. | .frameReceived ..
  | .caravan1Scan .. | .protectionTick .. | .estimationTick | .managementTick | .dioCycle .. | .thermalScan ..
  | .sweepBoundary .. | .recordWrite | .feedPresent .. | .feedAbsent .. | .brownOut | .serviceReqWake ..
  | .wakeContact .. | .wakeTimerExpiry .. | .serviceReqRecovery | .serviceReqRelease .. | .bootDone ..
  | .bootTimeout .. | .bootHeartbeatLoss .. | .stopTimeout | .testTimeout | .holdTimeout | .holdCurrent
  | .oasisHandoff | .rstLocalPulse | .rstLong | .supervisorWatchdog | .supervisorException .. | .clockLoss ..
  | .clockRestore .. | .heartbeatLoss .. | .logicClockStop | .registerWrite .. | .bitAliasRead ..
  | .bitAliasWrite .. | .shadowWrite .. | .blockCommit .. | .shadowDiscard .. | .commitApply ..
  | .postedWrite .. | .postedWriteComplete .. | .postFail .. | .snapTake .. | .snapshotCopy | .intRearm ..
  | .boardMissing .. | .boardMissingClear .. | .noReadingLimit .. | .boardResponse .. | .boardCommandResend ..
  | .boardCommandFail .. | .addressTokenTimeout | .enumDone .. | .ringRestore .. | .keepaliveTakeover
  | .wadiLoss .. | .wadiToneReturn | .wadiLow | .remoteWordWrite .. | .remoteMirrorRefresh ..
  | .stillnessWindowEnd | .wireLearnDone .. | .icLearnDone | .sumCheck | .sumCheckClear | .diagnosisOpenWire
  | .openWirePeriodic .. | .openWireDone .. | .wireBreakRetest .. | .cellFaultClear .. | .softLimitSet ..
  | .softLimitClear .. | .podFault .. | .podRecover .. | .headroomResume | .eisTimeout | .resultPublish
  | .eisHoldRelease .. | .fitDone .. | .stepDone .. | .stepPulseEnd .. | .restPoint .. | .virtualRest ..
  | .persistDone .. | .estPackWrite .. | .balancePlanReady | .cvOvershoot | .oasisReportApply
  | .ctlCtrlFbAck .. | .ctlCtrlRcReset .. | .ctlDeadlineMiss .. | .gateFault .. | .mirage | .auxMismatch
  | .prechargeDone | .prechargeNoCurrent | .prechargeTimeout | .setpoint .. | .setpointCanFrame ..
  | .timedSetpointApply | .limitEntryEnd | .setpointLate | .setpointLoss | .recipeTmaxExpiry | .recipeStepStart
  | .recipeTimeLimit | .pulseStepToggle | .throttleStep | .throttleRecover | .releaseReady | .chillerRequest
  | .chillerReply .. | .coolantFault | .coolTestEnd | .scsTimeout | .zslScsBackup | .auxOvercurrent
  | .cellLimit .. | .envelopeExceeded | .safetyInputOpen .. | .safetyInputRelease .. | .testPulseFault ..
  | .testPulseFaultClear .. | .discrepancyFault .. | .coilTestPulseEnd .. | .contactorConfirm ..
  | .closeFail .. | .dropOut .. | .weldSuspect .. | .contactorTestHoldEnd | .contactorTestDone
  | .diStateChange .. | .fieldSupplyLow | .fieldSupplyRecover | .dioDoSetWrite .. | .doHostTimeout
  | .doShort .. | .doRetry .. | .doThermal .. | .doExtDrive .. | .extClear .. | .crossTestPulseEnd
  | .crossAck .. | .pt1000Sample .. | .rcpPacketReceive .. | .commandStart | .sessionTimeout ..
  | .causeNotify .. | .authExpiry .. | .authLockoutEnd | .rcpCanFrame .. | .canTransferTimeout | .linkChange ..
  | .ethFrameIngress .. | .ipApply .. | .dhcpRetry .. | .ptpOffsetSample .. | .ptpAnnounce .. | .ptpSyncTimeout
  | .announceTimeout | .holdMaxExpiry | .ptpCfgWrite .. | .timeSetGo .. | .timeReadLatch | .canFrameReceive ..
  | .canRxSelect .. | .canTxLoad .. | .canTxAbort .. | .canTxComplete .. | .canError .. | .canBusOffRecover ..
  | .canBoRecoverWrite .. | .mboxStatus .. | .mboxPtr .. | .mboxWrite .. | .mboxRead .. | .mboxGo ..
  | .mboxAck .. | .winAddr .. | .winRead .. | .winWrite .. | .winReadBlock .. | .winWriteBlock .. | .ident ..
  | .twsTimeout | .twlGo .. | .twlTransferDone .. | .twlArbLost .. | .twlTimeout .. | .twlClear ..
  | .twlAbort .. | .twlPwrCycleEnd .. | .evrClearDone | .fwVerifyDone .. | .transferAbort | .fwConfirm
  | .relayFrame .. | .relayProgress .. | .relayResend .. | .handoverReady .. | .handoverReadyTimeout
  | .handoverDone .. | .plnActivationDone .. | .plnHeartbeatTimeout | .recoveryExitTimeout ..
  | .changeoverConfirm | .changeoverTimeout | .feedIlFault .. | .feedGoA .. | .feedGoB .. | .autoReturn ..
  | .swapTest .. | .swapTestPeriodic .. | .swapDwellEnd .. | .standbyAbsent | .storeOk .. | .railFault ..
  | .canArbitrationLost .. | .twsStartStop .. | .macAddressAgeOut .. => none

/-- Path, address and value of a row that writes one fixed register. -/
def writeRow : Instr → Option (Path × Nat × Word)
  | .blockCommit p b token => some (p, commitAddr b, commitWord 0x5A token)
  | .shadowDiscard p b token => some (p, commitAddr b, commitWord 0xD1 token)
  | .remoteWordWrite p v => some (p, 0x10044, v)
  | .eisHoldRelease p => some (p, 0x12014, 0)
  | .ctlCtrlFbAck p => some (p, 0x20040, 2)
  | .ctlCtrlRcReset p => some (p, 0x20040, 1)
  | .dioDoSetWrite p v => some (p, 0x32040, v)
  | .crossAck p v => some (p, 0x32058, v)
  | .timeSetGo p => some (p, 0x440CC, 1)
  | .canRxSelect p ch v => some (p, canBase ch + 0x210, v)
  | .canTxLoad p ch v => some (p, canBase ch + 0x388, v)
  | .canTxAbort p ch v => some (p, canBase ch + 0x390, v)
  | .canBoRecoverWrite p ch v => some (p, canBase ch + 0x20, v)
  | .twlGo p v _ => some (p, 0x42004, v)
  | .twlClear p v _ => some (p, 0x42008, v)
  | .twlAbort p v => some (p, 0x42008, v)
  | .feedGoA p _ => some (p, 0x300C, 1)
  | .feedGoB p _ => some (p, 0x300C, 2)
  | .swapTest p _ => some (p, 0x300C, 4)
  | .controlTick .. | .outerLoopSample | .pwmPeriodStart | .frameStart .. | .frameReceived ..
  | .caravan1Scan .. | .protectionTick .. | .estimationTick | .managementTick | .dioCycle .. | .thermalScan ..
  | .sweepBoundary .. | .recordWrite | .feedPresent .. | .feedAbsent .. | .brownOut | .serviceReqWake ..
  | .wakeContact .. | .wakeTimerExpiry .. | .serviceReqRecovery | .serviceReqRelease .. | .bootDone ..
  | .bootTimeout .. | .bootHeartbeatLoss .. | .stateRequest .. | .warmReset .. | .enterRecovery ..
  | .isolationReset .. | .setPersonality .. | .commissionDone .. | .reinitCvl .. | .reinitCana ..
  | .reinitCanb .. | .reinitTwl .. | .reinitEth .. | .reinitEis .. | .reinitEst .. | .reinitDsp ..
  | .stopTimeout | .testTimeout | .holdTimeout | .holdCurrent | .oasisHandoff | .rstLocalPulse | .rstLong
  | .supervisorWatchdog | .supervisorException .. | .clockLoss .. | .clockRestore .. | .heartbeatLoss ..
  | .logicClockStop | .regRead .. | .regWrite .. | .regModify .. | .registerWrite .. | .bitAliasRead ..
  | .bitAliasWrite .. | .shadowWrite .. | .commitApply .. | .postedWrite .. | .postedWriteComplete ..
  | .postFail .. | .snapTake .. | .snapshot .. | .snapshotCopy | .intRearm .. | .boardMissing ..
  | .boardMissingClear .. | .noReadingLimit .. | .boardResponse .. | .boardCommandResend ..
  | .boardCommandFail .. | .addressTokenTimeout | .enumDone .. | .ringRestore .. | .keepaliveTakeover
  | .wadiLoss .. | .wadiToneReturn | .wadiLow | .wadiTest .. | .boardAccept .. | .remoteMirrorRefresh ..
  | .stillnessWindowEnd | .openWireTest .. | .wireLearn .. | .wireResSet .. | .icLearn .. | .wireLearnDone ..
  | .icLearnDone | .sumCheck | .sumCheckClear | .diagnosisOpenWire | .openWirePeriodic .. | .openWireDone ..
  | .wireBreakRetest .. | .cellFaultClear .. | .softLimitSet .. | .softLimitClear .. | .podFault ..
  | .podRecover .. | .eisStart .. | .eisStop .. | .stepPulse .. | .headroomResume | .eisTimeout
  | .resultPublish | .fitDone .. | .stepDone .. | .stepPulseEnd .. | .restPoint .. | .virtualRest ..
  | .estInsert .. | .capacitySet .. | .estPersist .. | .persistDone .. | .estPackWrite .. | .balPolicy ..
  | .balStop .. | .balManual .. | .oasisReportRead .. | .balancePlanReady | .cvOvershoot | .oasisReportApply
  | .loopClose .. | .loopOpen .. | .feedbackAck .. | .rcReset .. | .ctlDeadlineMiss .. | .gateFault ..
  | .mirage | .auxMismatch | .prechargeDone | .prechargeNoCurrent | .prechargeTimeout | .setpoint ..
  | .setpointCanFrame .. | .timedSetpointApply | .limitEntryEnd | .setpointLate | .setpointLoss
  | .recipeWrite .. | .recipeSeal .. | .recipeStart .. | .recipeStop .. | .gradeRead .. | .recipeTmaxExpiry
  | .recipeStepStart | .recipeTimeLimit | .pulseStepToggle | .throttleStep | .throttleRecover | .releaseReady
  | .chillerRequest | .chillerReply .. | .coolantFault | .thermalRelease .. | .coolTest .. | .coolTestEnd
  | .scsTimeout | .zslScsBackup | .auxOvercurrent | .cellLimit .. | .envelopeExceeded | .safetyInputOpen ..
  | .safetyInputRelease .. | .testPulseFault .. | .testPulseFaultClear .. | .discrepancyFault ..
  | .coilTestPulseEnd .. | .contactorConfirm .. | .closeFail .. | .dropOut .. | .weldSuspect ..
  | .contactorTest .. | .contactorTestHoldEnd | .contactorTestDone | .safeSummary .. | .diStateChange ..
  | .fieldSupplyLow | .fieldSupplyRecover | .doHostTimeout | .doShort .. | .doRetry .. | .doThermal ..
  | .doExtDrive .. | .extClear .. | .crossTestPulseEnd | .pt1000Sample .. | .rcpPacketReceive ..
  | .commandStart | .ping .. | .identify .. | .sessionOpen .. | .sessionClose .. | .sessionTimeout ..
  | .subscribe .. | .causeNotify .. | .authChallenge .. | .authResponse .. | .authDrop .. | .keyInit ..
  | .keyRotate .. | .authExpiry .. | .authLockoutEnd | .rcpCanFrame .. | .canTransferTimeout | .linkChange ..
  | .ethFrameIngress .. | .ipApply .. | .dhcpRetry .. | .ptpOffsetSample .. | .ptpAnnounce .. | .ptpSyncTimeout
  | .announceTimeout | .holdMaxExpiry | .ptpCfgWrite .. | .timeReadLatch | .canFrameReceive ..
  | .canTxComplete .. | .canError .. | .canBusOffRecover .. | .mboxStatus .. | .mboxPtr .. | .mboxWrite ..
  | .mboxRead .. | .mboxGo .. | .mboxAck .. | .winAddr .. | .winRead .. | .winWrite .. | .winReadBlock ..
  | .winWriteBlock .. | .ident .. | .twsTimeout | .twlTransferDone .. | .twlArbLost .. | .twlTimeout ..
  | .twlPwrCycleEnd .. | .evrRead .. | .evrStatus .. | .evrClear .. | .evrClearDone | .fwBegin .. | .fwData ..
  | .fwVerify .. | .fwVerifyDone .. | .fwActivateSup .. | .fwActivatePln .. | .fwRelay .. | .fwStatus ..
  | .transferAbort | .fwConfirm | .relayFrame .. | .relayProgress .. | .relayResend .. | .handoverReady ..
  | .handoverReadyTimeout | .handoverDone .. | .plnActivationDone .. | .plnHeartbeatTimeout
  | .recoveryExitTimeout .. | .changeoverConfirm | .changeoverTimeout | .feedIlFault .. | .autoReturn ..
  | .swapTestPeriodic .. | .swapDwellEnd .. | .standbyAbsent | .storeOk .. | .railFault ..
  | .canArbitrationLost .. | .twsStartStop .. | .macAddressAgeOut .. => none

/-! ## Packets -/

/-- An RCP-2 request as R465 lays it out, with FLAGS, STATUS and the reserved byte 0. -/
def request2 (seq op : BitVec 16) (session : BitVec 32) (payload : List Byte) : List Byte :=
  let h := [0x5A, 0x48, 2, 0] ++ leBytes 2 seq.toNat ++ leBytes 2 op.toNat ++ leBytes 2 payload.length ++
    leBytes 4 session.toNat ++ [0, 0] ++ payload
  h ++ leBytes 4 (crc32c h)

/-- An RCP-1 request as R466 lays it out, with FLAGS and STATUS 0. -/
def request1 (seq op : BitVec 16) (payload : List Byte) : List Byte :=
  let h := [1, 0] ++ leBytes 2 seq.toNat ++ leBytes 2 op.toNat ++ [BitVec.ofNat 8 payload.length, 0] ++ payload
  h ++ leBytes 2 (crc16 h)

/-! ## The register file -/

/-- A register file in canonical form: addresses rise strictly, and no word is listed at its reset value. -/
def Canonical (rf : List (Nat × Word)) : Prop :=
  (rf.map (·.1)).Pairwise (· < ·) ∧ ∀ e ∈ rf, e.2 ≠ resetWord e.1

end Sys2Proof.Safety
end

