-- ==== Sys2Proof/Certificates/Slice0/Obligations.lean ====
section
/-!
DEFINITION. The statements about the model.
-/

open Sys2Proof Sys2Proof.Machine

/-- A step runs the command at the front of the queue with the rest of the queue; on an empty queue it idles (the
model's choice, log entry 1). Derived from spec/95_what_each_step_holds.md. -/
def Obligations.StepTakesFrontCommand : Prop :=
  (∀ (c : Instr) (rest : List Instr) (s : State), s.pending = c :: rest →
      step s = exec c { s with pending := rest }) ∧
    (∀ s : State, s.pending = [] → step s = .next s)

/-- Every command, in every state, answers a next state, and that state is safe. Derived from R90, R91, R306, R394,
R396, R411, R485, R582. -/
def Obligations.EveryCommandCompletesSafe : Prop :=
  ∀ (c : Instr) (s : State), ∃ t, exec c s = .next t ∧ Safety.Safe t

/-- Every step keeps a safe state safe. Derived from R90, R306, R394, R396, R411, R485, R582. -/
def Obligations.StepKeepsSafe : Prop :=
  ∀ s t : State, Safety.Safe s → step s = .next t → Safety.Safe t

/-- The state after reset is safe. Derived from R90, R394, R396, R411, R582. -/
def Obligations.ResetIsSafe : Prop :=
  Safety.Safe State.reset

/-- After a power-on reset every register reads its reset value, the state is BOOT and TIME is 0. Derived from R11,
R43, R56, R60, R61, R503. -/
def Obligations.ResetValues : Prop :=
  (∀ a, State.reset.word a = resetWord a) ∧ State.reset.st = 2 ∧ State.reset.word 0x34 = 1 ∧
    State.reset.time = 0 ∧ State.reset.pending = [] ∧ State.reset.sent = [] ∧ State.reset.shadow = [] ∧
    State.reset.evr.buffer = [] ∧ State.reset.evr.safety = [] ∧ State.reset.evr.general = []

/-- A request that may not run now has no effect but its reply; without an open transport it has none at all.
Derived from R27, R45, R467, R477, R482, R493. -/
def Obligations.RefusedRequestOnlyReplies : Prop :=
  ∀ (i : Instr) (c : Ctx) (op : Nat) (s : State), Safety.rcpRow i = some (c, op) →
    (rcpOpen c s = false → exec i s = .next (settle s)) ∧
    (rcpOpen c s = true → sessionOpen c s = false →
      exec i s = .next (settle (transmit c false (packet c 1 op stIncons (u8 0xF0)) (noteHeard s)))) ∧
    (rcpOpen c s = true → sessionOpen c s = true → ∀ st pl, guardFail c op s = some (st, pl) →
      exec i s = .next (settle (reply c op st pl (noteHeard s))))

/-- A register-write event that may not take effect changes nothing but the window's DIRECT_REJECT. Derived from
R27, R45, R554. -/
def Obligations.RefusedWriteOnlyNotes : Prop :=
  ∀ (i : Instr) (p : Path) (a : Nat) (v : Word) (s : State), Safety.writeRow i = some (p, a, v) →
    writeAdmitted p a v s = false → exec i s = .next (settle (windowNote p s))

/-- Writing a register word keeps the register file canonical. Derived from R67, R71. -/
def Obligations.RegisterFileStaysCanonical : Prop :=
  ∀ (rf : List (Nat × Word)) (a : Nat) (w : Word), Safety.Canonical rf → Safety.Canonical (rfSet rf a w)

/-- A tick starts at the first multiple of its period that is neither past nor used. Derived from R32, R33. -/
def Obligations.TickInstants : Prop :=
  ∀ (last : Option Nat) (period now : Nat), 0 < period →
    let t := nextTick last period now
    t % period = 0 ∧ now ≤ t ∧ (∀ l ∈ last, l < t) ∧
      ∀ u, u % period = 0 → now ≤ u → (∀ l ∈ last, l < u) → t ≤ u

/-- A well-formed RCP-2 or RCP-1 request is read back with every field it carries. Derived from R465, R466, R469. -/
def Obligations.PacketParsesBack : Prop :=
  ∀ (seq op : BitVec 16) (session : BitVec 32) (payload : List Byte) (onCan : Bool),
    (payload.length ≤ 1024 → parse onCan (Safety.request2 seq op session payload) =
      .good ⟨false, seq.toNat, op.toNat, session.toNat, payload⟩) ∧
    (payload.length ≤ 255 → parse false (Safety.request1 seq op payload) =
        .good ⟨true, seq.toNat, op.toNat, 0, payload⟩ ∧
      parse true (Safety.request1 seq op payload) = .header)

/-- A reply carries the SEQ, OPCODE and SESSION of its request and its status, and ends in the CRC. Derived from
R465, R467, R468. -/
def Obligations.ReplyLayout : Prop :=
  ∀ (c : Ctx) (op status : Nat) (payload : List Byte), c.v1 = false → payload.length ≤ 1024 →
    let h : List Byte := [0x5A, 0x48, 2, 1] ++ leBytes 2 c.seq.toNat ++ leBytes 2 op ++ leBytes 2 payload.length ++
      leBytes 4 c.session.toNat ++ [BitVec.ofNat 8 status, 0] ++ payload
    packet c 1 op status payload = h ++ leBytes 4 (crc32c h)

/-- Commands of a closed session run, and their replies and notifications are discarded. Formalises R475. -/
def Obligations.ClosedSessionGetsNoReply : Prop :=
  (∀ (c : Ctx) (notify : Bool) (op st : Nat) (pl : List Byte) (s : State), sessionOpen c s = false →
    (respond c notify op st pl s).sent = s.sent ∧ (respond c notify op st pl s).cmd.mboxRsp = s.cmd.mboxRsp ∧
      (respond c notify op st pl s).cmd.mboxQueue = s.cmd.mboxQueue) ∧
  (∀ (s : State) (x : Slot), s.get F.FWU_STATUS_HO_STATE ≠ 3 → nextSlot s = some x →
    let s1 := { s with cmd := { s.cmd with slots := s.cmd.slots.map (fun y =>
      if slotOf x.ctx y then { y with started := true } else y) } }
    startFail x.ctx x.op s1 = none → exec .commandStart s = .next (settle (runOp x.ctx x.op x.payload s1)))

/-- A word read clears exactly the RC bits it returns as 1; no write changes an RC bit. Derived from R72, R9. -/
def Obligations.ReadClearsWhatItReturns : Prop :=
  (∀ (a : Nat) (s : State), a < 0x100000 → a ≠ 0x44080 →
    (readWord a s).1.word a = s.word a &&& ~~~(codeMask .rc a &&& (readWord a s).2) ∧
    (∀ b, b ≠ a → (readWord a s).1.word b = s.word b)) ∧
  (∀ a, codeMask .rc a &&& writable a = 0) ∧
  (∀ (p : Path) (a : Nat) (mask w : Word) (s : State), commitBlock a = none → writable a &&& mask = 0 →
    writeBlock p a mask w s = (s, .ok))

/-- PING, IDENTIFY, SESSION_OPEN, SESSION_CLOSE, SESSION_TIMEOUT and SUBSCRIBE have their effects. Derived from
R474, R481, R491, R467. -/
def Obligations.SessionCommandsComplete : Prop :=
  ∀ (c : Ctx) (data : List Byte) (mask : BitVec 128) (id : BitVec 32) (s : State),
    (Safety.Admitted c 0x0000 s →
      exec (.ping c data) s = .next (settle (respond c false 0x0000 0 data (noteAdmit s)))) ∧
    (Safety.Admitted c 0x0001 s →
      exec (.identify c) s = .next (settle (respond c false 0x0001 0 (u64 (serialNum s) ++ u32 (s.word 0x800).toNat ++
        u32 (supVersion s) ++ u32 (imgVersion (getBank s (actBank s 2))) ++
        u8 (s.get F.SYS_MODE_PERSONALITY) ++ u8 s.st) (noteAdmit s)))) ∧
    (Safety.Admitted c 0x0002 s → s.cmd.sessions.length < 8 → ∃ n : BitVec 32, n ≠ 0 ∧
      exec (.sessionOpen c) s = .next (settle (respond c false 0x0002 0 (u32 n.toNat) { noteAdmit s with
        free := s.free + 1
        cmd := { s.cmd with sessions := s.cmd.sessions ++
          [{ id := n, src := c.src, port := c.port, lastPkt := s.time }] } }))) ∧
    (Safety.Admitted c 0x0003 s → c.session ≠ 0 →
      exec (.sessionClose c) s = .next (settle (closeSession c.session (respond c false 0x0003 0 [] (noteAdmit s))))) ∧
    (Safety.Admitted c 0x0003 s → c.session = 0 →
      exec (.sessionClose c) s = .next (settle (respond c false 0x0003 0 [] (noteAdmit s)))) ∧
    (Safety.Admitted c 0x0004 s → numbered c s = true → isUdp c.src = true →
      exec (.subscribe c mask) s = .next (settle (respond c false 0x0004 0 []
        (setSession c.session (fun x => { x with subs := mask.toNat }) (noteAdmit s))))) ∧
    (∀ x, findSession id s = some x →
      exec (.sessionTimeout id) s = .next (settle (closeSession id (s.at (x.lastPkt + 300 * sec)))))

/-- A session that has timed out is held no longer, and the end of its authorisation raises AUTH_EXPIRED. Derived
from R474, R483. -/
def Obligations.ClosedSessionIsGone : Prop :=
  ∀ (id : BitVec 32) (s : State) (x : Session), findSession id s = some x → ∃ t,
    exec (.sessionTimeout id) s = .next t ∧ findSession id t = none ∧
      (∀ y ∈ s.cmd.sessions, y.id ≠ id → ∃ z ∈ t.cmd.sessions, z.id = y.id ∧ z.src = y.src ∧ z.authEnd = y.authEnd) ∧
      (liveAuth (max s.time (x.lastPkt + 300 * sec)) x = true →
        bitOf (t.word (F.INT_CAUSE_CAUSE C.AUTH_EXPIRED.g).addr) C.AUTH_EXPIRED.b = true)

/-- AUTH_CHALLENGE, AUTH_RESPONSE, AUTH_DROP, AUTH_EXPIRY, AUTH_LOCKOUT_END, KEY_INIT and KEY_ROTATE have their
effects. Derived from R483, R484, R491. -/
def Obligations.AuthorisationCommandsComplete : Prop :=
  ∀ (c : Ctx) (mac key wrapped : BitVec 256) (check : BitVec 64) (id : BitVec 32) (s : State),
    (Safety.Admitted c 0x0B00 s → numbered c s = true → lockedOut s = false →
      let n := leBytes 16 (Config.freeValue s.free)
      exec (.authChallenge c) s = .next (settle (respond c false 0x0B00 0 n (setSession c.session
        (fun x => { x with nonce := some (n, s.time + 30 * sec) }) { noteAdmit s with free := s.free + 1 })))) ∧
    (Safety.Admitted c 0x0B01 s → numbered c s = true → ∀ n, liveNonce c s = some n → s.cmd.keys ≠ [] →
      authMac c n s = bvBytes 32 mac →
      let s1 := setSession c.session (fun x => { x with authEnd := some (s.time + 600 * sec) })
        (setSession c.session (fun x => { x with nonce := none }) (noteAdmit s))
      exec (.authResponse c mac) s = .next (settle (respond c false 0x0B01 0 (u16 600) (addRec sevNotice 0x01 0x0011
        (originBytes (Ctx.origin c)) { s1 with cmd := { s1.cmd with failStreak := 0 } })))) ∧
    (Safety.Admitted c 0x0B02 s → numbered c s = true →
      exec (.authDrop c) s = .next (settle (respond c false 0x0B02 0 [] (authEnd c.session (noteAdmit s))))) ∧
    (∀ x t, findSession id s = some x → x.authEnd = some t →
      exec (.authExpiry id) s = .next (settle (raise C.AUTH_EXPIRED (setSession id
        (fun x => { x with authEnd := none }) (s.at t))))) ∧
    (∀ t, s.cmd.lockEnd = some t →
      exec .authLockoutEnd s = .next (settle ({ s.at t with cmd := { s.cmd with
        lockEnd := none, failStreak := 0 } }.setB F.AUTH_STATUS_LOCKOUT false))) ∧
    (Safety.Admitted c 0x0B03 s → s.cmd.keys = [] → c.src = .tws →
      exec (.keyInit c key) s = .next (settle (respond c false 0x0B03 0 [] ((({ noteAdmit s with cmd := { s.cmd with
        keys := [bvBytes 32 key] } }).set F.AUTH_STATUS_KEY_SLOT 0).set F.AUTH_STATUS_SLOTS_LEFT 7)))) ∧
    (Safety.Admitted c 0x0B04 s → s.cmd.keys.length < 8 → ∀ n, liveNonce c s = some n →
      let k := xorBytes (bvBytes 32 wrapped) (hmac (activeKey s) (n ++ [0x4B, 0x52]))
      (hmac k n).take 8 = bvBytes 8 check →
      exec (.keyRotate c wrapped check) s = .next (settle (respond c false 0x0B04 0 (u8 s.cmd.keys.length)
        (addRec sevSafety 0x01 0x0012 (u8 s.cmd.keys.length ++ originBytes (Ctx.origin c)) (authEndAll (storeKey k
          (setSession c.session (fun x => { x with nonce := none }) (noteAdmit s))))))))

/-- A good packet is admitted to the queue, COMMAND_START runs the next command, CAN frames and timeouts act.
Derived from R469, R471, R472, R476, R477, R478, R479. -/
def Obligations.PacketAndQueueCommandsComplete : Prop :=
  ∀ (src : Src) (p : EthPort) (bytes body : List Byte) (k : Pkt) (s : State) (slot : Slot),
    (rcpOpen ⟨src, p, false, 0, 0⟩ s = true → parse (src == .cana) bytes = .good k →
      let c : Ctx := ⟨src, p, k.v1, BitVec.ofNat 32 k.session, BitVec.ofNat 16 k.seq⟩
      let s0 := noteHeard s
      let s1 := if numbered c s0 then setSession c.session (fun x => { x with lastPkt := s.time }) s0 else s0
      ¬ (k.op = 0x0600 ∧ isUdp src ∧ k.v1 = false) → sessionOpen c s1 = true →
      (getChan src c.session s1).cache.find? (fun e => e.seq == k.seq) = none →
      (getChan src c.session s1).high = none → opStates k.op ≠ [] → lengthOk k.op k.payload = true →
      guardFail c k.op s1 = none → ∀ r, queueSlot k.op s1 = some r →
      exec (.rcpPacketReceive src p false false bytes) s = .next (settle (enqueue c k r s1))) ∧
    (rcpOpen ⟨src, p, false, 0, 0⟩ s = true → parse (src == .cana) bytes = .crc →
      exec (.rcpPacketReceive src p false false bytes) s =
        .next (settle (raise C.CRC_DROP (mboxFree src (s.bump F.CMD_CNT_CRC_COUNT 1))))) ∧
    (s.get F.FWU_STATUS_HO_STATE ≠ 3 → nextSlot s = some slot →
      let s1 := { s with cmd := { s.cmd with slots := s.cmd.slots.map (fun y =>
        if slotOf slot.ctx y then { y with started := true } else y) } }
      startFail slot.ctx slot.op s1 = none →
      exec .commandStart s = .next (settle (runOp slot.ctx slot.op slot.payload s1))) ∧
    (canRcp s = true → s.cmd.reasm = none → ∀ tr : Byte, body ≠ [] →
      exec (.rcpCanFrame true ([0, tr] ++ body)) s =
        .next (settle (packetIn .cana .eth1 false false (reasmPacket body) s))) ∧
    (∀ x, s.cmd.reasm = some x →
      exec .canTransferTimeout s = .next (settle ({ s.at (x.at_ + 50 * ms + 1) with cmd := { s.cmd with
        reasm := none } }.bump F.CMD_CNT_HDR_COUNT 1))) ∧
    (∀ x, findSession slot.ctx.session s = some x → x.causes ≠ 0 → x.lastNote = none →
      let c : Ctx := ⟨x.src, x.port, false, x.id, BitVec.ofNat 16 x.count⟩
      rcpOpen c s = true →
      exec (.causeNotify slot.ctx.session) s = .next (settle (transmit c true
        (packet c 2 0x0005 0 (u64 x.causeAt ++ leBytes 16 x.causes)) (setSession slot.ctx.session (fun y =>
          { y with causes := 0, count := (y.count + 1) % 65536, lastNote := some s.time }) s))))

/-- A packet never takes the queue beyond its 56 normal and 8 reserved slots. Derived from R478, R486. -/
def Obligations.QueueTakesSixtyFour : Prop :=
  ∀ (src : Src) (p : EthPort) (b f : Bool) (bytes : List Byte) (s t : State),
    s.cmd.slots.countP (fun x => !x.reserved) ≤ 56 → s.cmd.slots.countP (·.reserved) ≤ 8 →
    exec (.rcpPacketReceive src p b f bytes) s = .next t →
    t.cmd.slots.countP (fun x => !x.reserved) ≤ 56 ∧ t.cmd.slots.countP (·.reserved) ≤ 8

/-- Wakes, the wait for SERVICE_REQ, the end of start-up and a failing boot have their effects. Derived from R46,
R51, R52, R53, R54, R604. -/
def Obligations.WakeAndStartUpCommandsComplete : Prop :=
  ∀ (b : BootPins) (r : BootResult) (t w : Nat) (s : State),
    (s.sys.powered = true → (s.st = stShip ∨ s.st = stOasis) →
      exec (.serviceReqWake b) s = .next (settle (wake b 1 s)) ∧
      (s.flag F.SYS_AON_CFG_WAKE_EN = true → exec (.wakeContact b) s = .next (settle (wake b 2 s))) ∧
      (s.sys.wakeAt = some t → s.sys.clkLost / 2048 % 2 = 0 →
        exec (.wakeTimerExpiry b) s = .next (settle (wake b 3 (s.at t))))) ∧
    (s.sys.svcWait = some t →
      exec .serviceReqRecovery s = .next (settle (enterRecovery 1 (s.at (t + 3 * sec)))) ∧
      (w < 3 * sec → exec (.serviceReqRelease w b) s = .next (settle (romStart 4 false (badBanks b.bad
        { s.at (t + w) with sys := { s.sys with svcWait := none, bootWait := s.sys.bootWait + w } }))))) ∧
    (s.st = stBoot → s.sys.supRuns = true →
      (s.flag F.CVL_STATUS_ENUM_BUSY = false → s.get F.CVL_STATUS_GEN ≠ 0 →
        exec (.bootDone r) s = .next (settle (bootDone r s))) ∧
      exec (.bootHeartbeatLoss b) s = .next (settle (bootFail (bootStep s) b s)) ∧
      (s.sys.powered = true → exec (.bootTimeout b) s = .next (settle (bootFail (bootStep s) b
        (s.at (s.sys.bootZero + s.sys.bootWait + 5 * sec))))))

/-- BOOT ends in ISOLATED with a latch set, else in COMMISSION without a personality, else in STANDBY; direct mode
ends. Derived from R28, R46, R52, R62. -/
def Obligations.BootEndsInItsState : Prop :=
  ∀ (r : BootResult) (s : State), s.st = stBoot → s.sys.supRuns = true → s.flag F.CVL_STATUS_ENUM_BUSY = false →
    s.get F.CVL_STATUS_GEN ≠ 0 → ∃ t, exec (.bootDone r) s = .next t ∧
      t.direct = false ∧ t.get F.SYS_BOOT_FAIL_COUNT = 0 ∧ (t.st = stIsolated ∨ t.st = stCommission ∨ t.st = stStandby) ∧
      (s.flag F.SAFE_STATUS_SP_LATCH = true ∨ s.flag F.SAFE_STATUS_ZSL_LATCH = true → t.st = stIsolated) ∧
      (s.flag F.SAFE_STATUS_SP_LATCH = false → s.flag F.SAFE_STATUS_ZSL_LATCH = false → s.sys.bootDemands = [] →
        s.sys.oasisDemand = none → t.st = if s.get F.SYS_MODE_PERSONALITY = 0 then stCommission else stStandby) ∧
      bitOf (t.word (F.INT_CAUSE_CAUSE C.BOOT_DONE.g).addr) C.BOOT_DONE.b = true

/-- State requests, resets, commissioning commands and the timeouts of states have their effects. Derived from R46,
R48, R51, R55, R57, R58, R59, R63, R387, R390, R607, R655. That an argument is ignored for a target other than OASIS and
SHIP is the model's choice (log entry 140). -/
def Obligations.StateCommandsComplete : Prop :=
  ∀ (c : Ctx) (code : BitVec 8) (arg : Word) (b : BootPins) (s : State) (t : Nat),
    let a := noteAdmit s
    let o := Ctx.origin c
    (Safety.Admitted c 0x0010 s →
      (10 < code.toNat → exec (.stateRequest c code arg) s = .next (settle (replyRange c 0x0010 0 a))) ∧
      (code.toNat ≤ 10 → 86400 < arg.toNat →
        exec (.stateRequest c code arg) s = .next (settle (replyRange c 0x0010 1 a)))) ∧
    (Safety.Admitted c 0x0010 s → arg.toNat ≤ 86400 → code.toNat = stStandby →
      (s.sys.stop ≠ none → exec (.stateRequest c code arg) s = .next (settle (reqOk c a))) ∧
      (s.sys.stop = none →
        (s.st = stStandby → exec (.stateRequest c code arg) s =
          .next (settle (reqOk c (if s.flag F.SYS_STATE_HOLD then endHold a else a)))) ∧
        (s.st = stPrecharge → exec (.stateRequest c code arg) s = .next (settle (reqOk c (runDone stForbids
          (changeState stStandby 0x01 stStandby o (openAll { a with ctl := { a.ctl with pre := none } })))))) ∧
        (s.st = stRun → exec (.stateRequest c code arg) s =
          .next (settle (controlledStop (some c) (respond c false 0x0010 stAccepted (u8 s.st) a)))) ∧
        (s.st = stTest → exec (.stateRequest c code arg) s =
          .next (settle (reqOk c (changeState stStandby 0x01 stStandby o a)))) ∧
        (s.st ∉ [stStandby, stPrecharge, stRun, stTest] →
          exec (.stateRequest c code arg) s = .next (settle (reqForbids c a))))) ∧
    (Safety.Admitted c 0x0010 s → arg.toNat ≤ 86400 → code.toNat ≤ 10 → code.toNat ≠ stStandby →
      (code.toNat = s.st ∨ (code.toNat = stSafeStop ∧ s.st = stIsolated) →
        exec (.stateRequest c code arg) s = .next (settle (reqOk c a))) ∧
      (code.toNat = stIsolated → s.st ≠ stIsolated → exec (.stateRequest c code arg) s =
        .next (settle (reqOk c (seiBy 0x01 stIsolated o 0x12 (abandonClose a))))) ∧
      (code.toNat = stSafeStop → s.st = stRun → exec (.stateRequest c code arg) s = .next (settle (demandScs 0x11
        (abandonClose { a with safe := { a.safe with scsCtx := a.safe.scsCtx ++ [c] } })))) ∧
      (code.toNat = stSafeStop → s.st ∉ [stRun, stSafeStop, stIsolated] → exec (.stateRequest c code arg) s =
        .next (settle (reqOk c (seiBy 0x01 stSafeStop o 0x11 (abandonClose a)))))) ∧
    (Safety.Admitted c 0x0010 s → arg.toNat ≤ 86400 → code.toNat ≤ 10 →
      code.toNat ∉ [stStandby, stSafeStop, stIsolated, s.st] →
      (s.direct = true → exec (.stateRequest c code arg) s = .next (settle (reqForbids c a))) ∧
      (s.direct = false → s.flag F.SYS_STATE_TRANSITION = true →
        exec (.stateRequest c code arg) s = .next (settle (replyBusy c 0x0010 100 a))) ∧
      (s.direct = false → s.flag F.SYS_STATE_TRANSITION = false → s.st ≠ stStandby →
        exec (.stateRequest c code arg) s = .next (settle (reqForbids c a))) ∧
      (s.direct = false → s.flag F.SYS_STATE_TRANSITION = false → s.st = stStandby →
        (code.toNat = stRun → runConditions a = false →
          exec (.stateRequest c code arg) s = .next (settle (reqForbids c a))) ∧
        (code.toNat = stRun → runConditions a = true → s.flag F.SYS_STATE_HOLD = true →
          exec (.stateRequest c code arg) s = .next (settle (reqOk c (changeState stRun 0x01 stRun o
            ({ a with sys := { a.sys with holdEnd := none } }.setB F.SYS_STATE_HOLD false))))) ∧
        (code.toNat = stRun → runConditions a = true → s.flag F.SYS_STATE_HOLD = false →
          let s1 := changeState stPrecharge 0x01 stRun o a
          let s2 := { s1 with sys := { s1.sys with runCtx := some c } }.setB F.SYS_STATE_TRANSITION true
          exec (.stateRequest c code arg) s = .next (settle (closeContactor 1
            (respond c false 0x0010 stAccepted (u8 s2.st) s2)))) ∧
        (code.toNat ≠ stRun → s.flag F.SYS_STATE_HOLD = true →
          exec (.stateRequest c code arg) s = .next (settle (reqForbids c a))) ∧
        (code.toNat = stOasis ∨ code.toNat = stShip → s.flag F.SYS_STATE_HOLD = false →
          (s.flag F.FEED_STATUS_CHG_BUSY = true ∨ s.flag F.FEED_STATUS_SWAP_BUSY = true →
            exec (.stateRequest c code arg) s = .next (settle (replyBusy c 0x0010 1000 a))) ∧
          (s.flag F.FEED_STATUS_CHG_BUSY = false → s.flag F.FEED_STATUS_SWAP_BUSY = false →
            (s.flag (postBusy .aon) = true → exec (.stateRequest c code arg) s =
              .next (settle (replyBusy c 0x0010 1 (raise C.POST_COLLIDE a)))) ∧
            (s.flag (postBusy .aon) = false →
              let p : Post := ⟨.aon, 0x60, 0x1FFFF, arg, o, false, s.time⟩
              let s1 := { a with sys := { a.sys with posts := a.sys.posts ++ [p] } }.setB (postBusy .aon) true
              let s2 := { s1 with sys := { s1.sys with sleep := some (code.toNat, c) } }.setB F.SYS_STATE_TRANSITION true
              exec (.stateRequest c code arg) s =
                .next (settle (if code.toNat = stOasis then handoffStart s2 else s2))))) ∧
        (code.toNat = stTest → s.flag F.SYS_STATE_HOLD = false →
          exec (.stateRequest c code arg) s = .next (settle (reqOk c (changeState stTest 0x01 stTest o a)))) ∧
        (code.toNat = stCommission → s.flag F.SYS_STATE_HOLD = false →
          exec (.stateRequest c code arg) s = .next (settle (reqOk c (changeState stCommission 0x01 stCommission o
            { a with est := { a.est with commCheck := true } })))) ∧
        (code.toNat ∉ [stRun, stOasis, stShip, stTest, stCommission] → s.flag F.SYS_STATE_HOLD = false →
          exec (.stateRequest c code arg) s = .next (settle (reqForbids c a))))) ∧
    (Safety.Admitted c 0x0011 s →
      (s.st ≠ stRecovery → exec (.warmReset c b) s = .next (settle (warmReset b (replyAccepted c 0x0011 a)))) ∧
      (s.st = stRecovery → exec (.warmReset c b) s = .next (settle (recoveryExit b (replyAccepted c 0x0011 a))))) ∧
    (Safety.Admitted c 0x0012 s →
      (s.flag F.SYS_STATE_HOLD = true → exec (.enterRecovery c b) s = .next (settle (replyForbids c 0x0012 a))) ∧
      (s.flag F.SYS_STATE_HOLD = false → s.fwu.pln ≠ none →
        exec (.enterRecovery c b) s = .next (settle (replyBusy c 0x0012 100 a))) ∧
      (s.flag F.SYS_STATE_HOLD = false → s.fwu.pln = none →
        let s1 := replyAccepted c 0x0012 a
        exec (.enterRecovery c b) s = .next (settle (bootFrom b (changeState stBoot 0x05 0 o
          (warmRestart false { s1 with sys := { s1.sys with recoveryReq := true } })))))) ∧
    (Safety.Admitted c 0x0014 s →
      (s.get F.SYS_MODE_PERSONALITY ≠ 0 → exec (.setPersonality c code) s =
        .next (settle (reply c 0x0014 stLocked [] (writeRejected 0x20 o a)))) ∧
      (s.get F.SYS_MODE_PERSONALITY = 0 → code = 1 ∨ code = 2 →
        let s1 := a.set F.SYS_MODE_PERSONALITY code.toNat
        exec (.setPersonality c code) s = .next (settle (replyOk c 0x0014 []
          (configRec o 0x20 (s1.word 0x20) (s.word 0x20) s1)))) ∧
      (s.get F.SYS_MODE_PERSONALITY = 0 → code ≠ 1 → code ≠ 2 →
        exec (.setPersonality c code) s = .next (settle (replyRange c 0x0014 0 a)))) ∧
    (Safety.Admitted c 0x0015 s →
      (commissionCheck a = 0 → exec (.commissionDone c) s = .next (settle (replyOk c 0x0015 (u8 0)
        (changeState stStandby 0x04 0 o { a with est := { a.est with commCheck := true } })))) ∧
      (commissionCheck a ≠ 0 → exec (.commissionDone c) s =
        .next (settle (replyIncons c 0x0015 (commissionCheck a) a)))) ∧
    (s.sys.holdEnd = some t → s.flag F.SYS_STATE_HOLD = true →
      exec .holdTimeout s = .next (settle (endHold (s.at t)))) ∧
    (s.st = stTest →
      exec .testTimeout s = .next (settle (changeState stStandby 0x10 0 inside (s.at (s.sys.lastAdmit + 600 * sec))))) ∧
    (s.flag F.SYS_STATE_HOLD = true → 10 ≤ s.safe.holdRun → exec .holdCurrent s = .next (settle (sei 0x13 s)))

/-- The eight re-initialise opcodes reply ACCEPTED, act on their unit alone and complete, or name what they cannot do
now. Derived from R65, R480. -/
def Obligations.ReinitialiseCommandsComplete : Prop :=
  ∀ (c : Ctx) (n : BitVec 8) (free : Bool) (s : State),
    (Safety.Admitted c 0x0C01 s →
      (anyClosed s = false → s.flag F.SYS_STATE_HOLD = false → keepAlive s = false → s.flag F.CVL_STATUS_ENUM_BUSY = false →
        exec (.reinitCvl c) s = .next (settle (enumStart (some c) (balHalt (replyAccepted c 0x0C01 (noteAdmit s)))))) ∧
      (anyClosed s = true ∨ s.flag F.SYS_STATE_HOLD = true →
        exec (.reinitCvl c) s = .next (settle (replyForbids c 0x0C01 (noteAdmit s)))) ∧
      (anyClosed s = false → s.flag F.SYS_STATE_HOLD = false → keepAlive s = true ∨ s.flag F.CVL_STATUS_ENUM_BUSY = true →
        exec (.reinitCvl c) s = .next (settle (replyBusy c 0x0C01 100 (noteAdmit s))))) ∧
    (Safety.Admitted c 0x0C02 s → exec (.reinitCana c) s = .next (settle (respond c true 0x0C02 0 []
      (applyCommit .cana (canReinit .cana (replyAccepted c 0x0C02 (noteAdmit s))))))) ∧
    (Safety.Admitted c 0x0C03 s → exec (.reinitCanb c) s = .next (settle (respond c true 0x0C03 0 []
      (applyCommit .canb (canReinit .canb (replyAccepted c 0x0C03 (noteAdmit s))))))) ∧
    (Safety.Admitted c 0x0C04 s → exec (.reinitTwl c free) s = .next (settle (respond c true 0x0C04 0 []
      (twlReinit free (replyAccepted c 0x0C04 (noteAdmit s)))))) ∧
    (Safety.Admitted c 0x0C05 s →
      (n = 1 ∨ n = 2 → exec (.reinitEth c n) s = .next (settle (respond c true 0x0C05 0 []
        (ethReinit (n.toNat - 1) (replyAccepted c 0x0C05 (noteAdmit s)))))) ∧
      (n ≠ 1 → n ≠ 2 → exec (.reinitEth c n) s = .next (settle (replyRange c 0x0C05 0 (noteAdmit s))))) ∧
    (Safety.Admitted c 0x0C06 s → exec (.reinitEis c) s = .next (settle (respond c true 0x0C06 0 []
      (eisAbandon 0x4 (replyAccepted c 0x0C06 (noteAdmit s)))))) ∧
    (Safety.Admitted c 0x0C07 s → exec (.reinitEst c) s = .next (settle (respond c true 0x0C07 0 []
      (estRestore false (replyAccepted c 0x0C07 (noteAdmit s)))))) ∧
    (Safety.Admitted c 0x0C08 s →
      (n.toNat ≤ 7 → exec (.reinitDsp c n) s = .next (settle (respond c true 0x0C08 0 []
        (laneRestart n.toNat ((replyAccepted c 0x0C08 (noteAdmit s)).bumpSat (F.DSP_LANE_STATUS_REINIT_CNT n.toNat)))))) ∧
      (7 < n.toNat → exec (.reinitDsp c n) s = .next (settle (replyRange c 0x0C08 0 (noteAdmit s)))))

/-- Loss of the supervisor, of an island clock or of a heartbeat has its reaction, and a clock that returns runs
again. Derived from R19, R20, R24, R29, R31, R42, R53, R600. That a heartbeat is back with the clock that took it away is
the model's choice (log entry 163). -/
def Obligations.SupervisorAndClockCommandsComplete : Prop :=
  ∀ (i : Island) (b : BootPins) (h : Handover) (s : State),
    (s.awake = true → s.direct = false →
      (s.fwu.ho = none → exec .supervisorWatchdog s = .next (settle (enterDirect 2 s)) ∧
        exec (.supervisorException b) s = .next (settle (enterDirect 3 s))) ∧
      (s.fwu.ho = some h →
        let s1 := ({ s with fwu := { s.fwu with ho := none } }.set F.FWU_LAST_HO_RES 7).set F.FWU_STATUS_HO_STATE 0
        exec .supervisorWatchdog s = .next (settle (enterDirect 4 s1)) ∧
        exec (.supervisorException b) s = .next (settle (enterDirect 4 s1)))) ∧
    (s.st = stBoot → s.sys.supRuns = true →
      exec (.supervisorException b) s = .next (settle (bootFail (bootStep s) b s))) ∧
    (hostPowered s = true →
      exec (.clockLoss i) s = .next (settle (clockLoss i s)) ∧
      exec .logicClockStop s = .next (settle (clockLoss .logic s))) ∧
    (hostPowered s = false → s.sys.powered = true → exec (.clockLoss .aon) s = .next (settle
      { s with sys := { s.sys with clkLost := s.sys.clkLost ||| 2048, wakeAt := none } })) ∧
    (enginesUp s = true →
      exec (.heartbeatLoss true) s = .next (settle (sei 0x0D { s with safe := { s.safe with zslBeat := false } })) ∧
      exec (.heartbeatLoss false) s = .next (settle (sei 0x0D { s with safe := { s.safe with spBeat := false } }))) ∧
    (s.sys.clkLost &&& 2 ^ islandBit i = 2 ^ islandBit i →
      let s1 := { s with sys := { s.sys with clkLost := s.sys.clkLost &&& (0xFFF ^^^ 2 ^ islandBit i) } }
      let s2 := s1.set F.SYS_CLK_STATUS_RUNNING (s.get F.SYS_CLK_STATUS_RUNNING ||| 2 ^ islandBit i)
      (hostPowered s = false → exec (.clockRestore i) s = .next (settle s1)) ∧
      (hostPowered s = true →
        (i ∉ [Island.cva, Island.cvb, Island.safe, Island.logic] → exec (.clockRestore i) s = .next (settle s2)) ∧
        (i = .cva → exec (.clockRestore i) s = .next (settle (portLink 0 true s2))) ∧
        (i = .cvb → exec (.clockRestore i) s = .next (settle (portLink 1 true s2))) ∧
        (i = .safe → exec (.clockRestore i) s = .next (settle { s2 with safe := { s2.safe with spBeat := true } })) ∧
        (i = .logic → exec (.clockRestore i) s = .next (settle { s2 with safe := { s2.safe with zslBeat := true } }))))

/-- Safety inputs and the other demands latch what they find and start SEI or SCS. Derived from R390, R391, R395,
R398, R399, R400, R404, R405, R406, R425. -/
def Obligations.DemandCommandsComplete : Prop :=
  ∀ (ch : SiCh) (si1 high : Bool) (pos t : Nat) (s : State),
    exec (.safetyInputOpen ch) s = .next (settle (
      let s1 := s.setB (siChan (chIdx ch)) false
      if siDemanding s1 (chIdx ch / 2) && !siDemanding s (chIdx ch / 2) && s1.st != stShip then
        siDemand (chIdx ch / 2) s1 else s1)) ∧
    exec (.safetyInputRelease ch) s = .next (settle (s.setB (siChan (chIdx ch)) true)) ∧
    (siTp s (chIdx ch / 2) = true → s.st ≠ stShip →
      s.flag (siTpf (chIdx ch)) = false →
      exec (.testPulseFault ch) s = .next (settle (chanChange (chIdx ch) (fun s => causeRec C.TEST_PULSE_FAULT sevFault
        (u8 (chIdx ch)) (s.setB (siTpf (chIdx ch)) true)) s))) ∧
    (s.flag (siChan (chIdx ch)) = true →
      exec (.testPulseFaultClear ch) s = .next (settle (s.setB (siTpf (chIdx ch)) false))) ∧
    (let i := if si1 then 1 else 0
     siUsed s i = true → tDisc s i + 1 ≤ s.get (discCnt i) →
      exec (.discrepancyFault si1) s = .next (settle (discLatch i s))) ∧
    (zslAuxOc s ≠ 0 → s.st ≠ stShip → exec .auxOvercurrent s =
      .next (settle (seiDemand 0x04 (raise C.AUX_OVERCURRENT (s.setB F.SAFE_STATUS_AUX_OC_LATCH true))))) ∧
    ((if high then s.safe.ovRun else s.safe.uvRun).lookup pos = some t →
      cellActs (s.at (t + s.get F.SAFE_CELL_DEB_CELL_DEB * ms)) = true →
      exec (.cellLimit pos high) s = .next (settle (sei (if high then 0x05 else 0x06)
        ((s.at (t + s.get F.SAFE_CELL_DEB_CELL_DEB * ms)).setB F.SAFE_STATUS_CELL_LIMIT true)))) ∧
    (s.flag F.SAFE_STATUS_SET_VALID = true → s.awake = true → s.get F.SAFE_ENV_ENV_T ≤ s.safe.envRun →
      exec .envelopeExceeded s = .next (settle (startScs 0x09 0x0E 0x09 s))) ∧
    (s.safe.scs ≠ none → exec .scsTimeout s = .next (settle (sei 0x0C s))) ∧
    (s.safe.backupAt = some t →
      let s1 := { s.at t with safe := { s.safe with backupAt := none } }
      (holds s1 0 || holds s1 1 || holds s1 2) = true → exec .zslScsBackup s = .next (settle (sei 0x0C s1)))

/-- Contactor confirmations, failures, test pulses, tests and SAFE_SUMMARY have their effects. Derived from R409,
R411, R412, R413, R414, R416, R433, R434. -/
def Obligations.ContactorCommandsComplete : Prop :=
  ∀ (k : Contactor) (closed : Bool) (c : Ctx) (n channel : BitVec 8) (t : Nat) (p : CoilPulse) (x : ConTest) (s : State),
    (hostPowered s = true → exec (.contactorConfirm k closed) s =
      .next (settle (confirmSet (conIdx k) (closed != s.flag ⟨0x31000, conIdx k, 1⟩) s))) ∧
    (s.safe.closeAt.lookup (conIdx k) = some t → s.safe.test = none →
      let s1 := addRec sevFault 0x0B 0x0010 (u8 (conIdx k)) ((openAll (s.at (t + 100 * ms))).setB (konFail (conIdx k)) true)
      s1.safe.test = none → s1.st ≠ stPrecharge → s1.st ≠ stRun →
      exec (.closeFail k) s = .next (settle { s1 with ctl := { s1.ctl with pre := none } })) ∧
    (s.flag (konCmd (conIdx k)) = true → s.flag (konFb (conIdx k)) = false →
      (s.safe.closeAt.any (fun e => e.1 == conIdx k)) = false → exec (.dropOut k) s = .next (settle (sei 0x0F s))) ∧
    (s.safe.openAt.lookup (conIdx k) = some t →
      let s1 := s.at (t + 100 * ms)
      exec (.weldSuspect k) s = .next (settle (openDone (conIdx k) true (causeRec C.WELD_SUSPECT sevSafety (u8 (conIdx k))
        ({ s1 with safe := { s1.safe with openAt := tabDel s1.safe.openAt (conIdx k) } }.setB (konWeld (conIdx k)) true))))) ∧
    (s.safe.pulse = some p →
      let s1 := { s.at p.endAt with safe := { s.safe with pulse := none } }
      (p.offDemand = false → exec (.coilTestPulseEnd true) s =
        .next (settle (s1.setB (if p.high then konHs p.c else konLs p.c) true))) ∧
      (p.offDemand = true → exec (.coilTestPulseEnd true) s = .next (settle s1)) ∧
      exec (.coilTestPulseEnd false) s = .next (settle (sei 0x10 (raise C.TEST_PULSE_FAULT
        (s1.setB (if p.high then konTpfHs p.c else konTpfLs p.c) true))))) ∧
    (Safety.Admitted c 0x0800 s → n.toNat ≤ 2 → channel.toNat ≤ 2 → s.safe.test = none →
      (∀ j, j ≤ 2 → j ≠ n.toNat → s.flag (konFb j) = false) →
      let s1 := replyAccepted c 0x0800 (noteAdmit s)
      exec (.contactorTest c n channel) s = .next (settle (closeContactor n.toNat { s1 with safe := { s1.safe with
        test := some ⟨n.toNat, channel.toNat, .closing, s1.time, 0, none, false, c⟩ } }))) ∧
    (s.safe.test = some x → x.phase = .holding →
      let s1 := openVia x.c (decide (x.channel ≠ 2)) (decide (x.channel ≠ 1)) (s.at (x.since + sec))
      exec .contactorTestHoldEnd s = .next (settle { s1 with safe := { s1.safe with
        test := some { x with phase := .opening, since := s1.time } } })) ∧
    (s.safe.test = some x → x.phase = .opening →
      exec .contactorTestDone s = .next (settle (testEnd x (if x.welded then 2 else 0)
        (openContactor x.c (s.at (x.since + 200 * ms)))))) ∧
    (Safety.Admitted c 0x0801 s → exec (.safeSummary c) s = .next (settle (replyOk c 0x0801 (
      u32 (getAt s.safe.summary 0 0).toNat ++ u32 (getAt s.safe.summary 1 0).toNat ++
        u32 (getAt s.safe.summary 2 0).toNat ++ u32 (getAt s.safe.summary 3 0).toNat) (noteAdmit s))))

/-- ISOLATION_RESET and RST_LOCAL leave ISOLATED where R418 allows it; a stop that lasts 5 s becomes an SCS. Derived
from R46, R48, R417, R418. -/
def Obligations.IsolationResetAndStopComplete : Prop :=
  ∀ (c : Ctx) (t : Nat) (x : Stop) (s : State),
    (Safety.Admitted c 0x0013 s →
      exec (.isolationReset c) s = .next (settle (isoReset (Ctx.origin c) (some c) (noteAdmit s)))) ∧
    (s.st = stIsolated → exec .rstLocalPulse s = .next (settle (isoReset ⟨0, 6⟩ none s))) ∧
    (hostPowered s = true → exec .rstLong s = .next (settle (addRec sevWarning 0x0B 0x0011 [] s))) ∧
    (s.sys.stop = some x → x.deadline = some t → s.st = stRun →
      exec .stopTimeout s = .next (settle (startScs 0x11 0x0D 0 (s.at t))))

/-- The commands of a CAN channel have their effects: receive, select, load, abort, complete, retry, errors and
bus-off. Derived from R535, R536, R538, R539, R541, R542. -/
def Obligations.CanCommandsComplete : Prop :=
  ∀ (p : Path) (ch : CanCh) (ide fdf brs esi tx dom : Bool) (id : BitVec 29) (lec : BitVec 3) (value : Word)
      (data : List Byte) (i : Nat) (s : State),
    (canOn s ch = true → fdf = false ∨ canFdEn s ch = true →
      exec (.canFrameReceive ch ide id false fdf brs esi data) s =
        .next (settle (canIn ch ide id.toNat ⟨data.length, fdf, brs, esi, data, s.time⟩ s)) ∧
      exec (.canFrameReceive ch ide id true fdf brs esi data) s = .next (settle (canGood ch s))) ∧
    (canOn s ch = false ∨ (fdf = true ∧ canFdEn s ch = false) → ∀ rtr,
      exec (.canFrameReceive ch ide id rtr fdf brs esi data) s = .next (settle s)) ∧
    (writeAdmitted p (canBase ch + 0x210) value s = true →
      exec (.canRxSelect p ch value) s = .next (settle (rxSelect ch (Path.origin p) value s).1)) ∧
    (writeAdmitted p (canBase ch + 0x388) value s = true → bitOf value 0 = true →
      let o := s.get (canFld ch 0x380 0 5)
      let n := s.get (canFld ch 0x384 0 8)
      let fd := s.flag (canFld ch 0x384 8 1)
      (txIdent s ch o).isNone = false → txOwned s ch o = false → s.flag (txPend ch o) = false → lenOk fd n = true →
      (fd = false ∨ canFdEn s ch = true) →
      exec (.canTxLoad p ch value) s = .next (settle (txPut ch o ⟨n, fd, s.flag (canFld ch 0x384 9 1), false,
        ((List.range 16).map (fun w => u32 (s.word (canBase ch + 0x3A0 + 4 * w)).toNat)).flatten.take n, 0⟩ s))) ∧
    (writeAdmitted p (canBase ch + 0x390) value s = true →
      exec (.canTxAbort p ch value) s = .next (settle ((List.range 32).foldl (txAbortOne ch value) s))) ∧
    (canOn s ch = true → (canChan s ch).cur = some i →
      exec (.canTxComplete ch) s = .next (settle (txComplete ch s)) ∧
      exec (.canArbitrationLost ch) s = .next (settle (txRetry ch (s.set (canAckRun ch) 0)))) ∧
    (canOn s ch = true → tx = false ∨ (canChan s ch).cur = some i →
      let s1 := canError ch tx lec.toNat dom s
      exec (.canError ch tx lec dom) s =
        .next (settle (if idleNow (canBlock ch) s1 then applyCommit (canBlock ch) s1 else s1))) ∧
    (s.flag (canBusOff ch) = true → s.flag (canFld ch 0 8 1) = false ∨ (canChan s ch).released = true →
      exec (.canBusOffRecover ch) s = .next (settle (canBack ch s))) ∧
    (writeAdmitted p (canBase ch + 0x20) value s = true →
      exec (.canBoRecoverWrite p ch value) s = .next (settle (canCtrl ch (Path.origin p) value s).1))

/-- The field inputs and outputs: the 100 µs cycle, filters, faults, tests and writes have their effects. Derived
from R435, R436, R439, R443, R446, R447, R448, R449, R450, R453, R461. -/
def Obligations.FieldInputAndOutputCommandsComplete : Prop :=
  ∀ (p : Path) (cur volts ohms : List Nat) (limit cool : BitVec 8) (volt : BitVec 16) (value : Word) (x : Nat) (s : State),
    (hostPowered s = true →
      exec (.dioCycle cur volts limit volt) s = .next (settle (
        let s1 := (List.range 16).foldl (diCycle cur) (supplyCycle volt.toNat (s.tick tkDio 25000))
        let s2 := ((List.range 8).foldl (readback volts) s1).set F.DIO_DO_STATE_LIMIT limit.toNat
        let s3 := (doLeads s2).foldl limitCycle s2
        let s4 := (doLeads s3).foldl retryCycle s3
        let s5 := if fieldLow s4 then testStop s4 else (doLeads s4).foldl extCycle (testCycle s4)
        doApply (pwmCycle s5))) ∧
      exec (.pt1000Sample ohms) s = .next (settle ((List.range 4).foldl (ptSample ohms) s))) ∧
    (100 ≤ s.dio.lowRun → s.flag F.DIO_FIELD_LOW = false → exec .fieldSupplyLow s =
      .next (settle (causeRec C.FIELD_SUPPLY_LOW sevWarning [] (s.setB F.DIO_FIELD_LOW true)))) ∧
    (1000 ≤ s.dio.highRun → exec .fieldSupplyRecover s = .next (settle (s.setB F.DIO_FIELD_LOW false))) ∧
    (x < 16 → exec (.diStateChange x) s = .next (settle (diChange x s))) ∧
    (x < 8 → exec (.doShort x) s = .next (settle (doShort (doLead s x) s)) ∧
      exec (.doExtDrive x) s = .next (settle (extStart (doLead s x) s)) ∧
      (1000 ≤ tabGet s.dio.extLow (doLead s x) 0 →
        exec (.extClear x) s = .next (settle (doMark F.DIO_DO_FAULT_EXT (doLead s x) false s))) ∧
      (hostPowered s = true → doHas s F.DIO_DO_FAULT_THERM (doLead s x) = false → exec (.doThermal x) s =
        .next (settle (causeRec C.DO_THERMAL sevWarning [] (doMark F.DIO_DO_FAULT_THERM (doLead s x) true
          (doOff (doLead s x) s)))))) ∧
    (s.dio.retryDue = true →
        let s1 := { s with dio := { s.dio with retryDue := false } }
        let due (x : Nat) : Bool := doWant s1 x && (s1.dio.retry.lookup x).isNone &&
          (doHas s1 F.DIO_DO_FAULT_SHORT x || doHas s1 F.DIO_DO_FAULT_THERM x) &&
          (!doHas s1 F.DIO_DO_FAULT_THERM x || (doGroup s1 x).all (fun m => cool.getLsbD m))
        exec (.doRetry cool) s = .next (settle (doApply { s1 with dio := { s1.dio with
          retry := ((doLeads s1).filter due).foldl (fun r x => tabSet r x s1.time) s1.dio.retry } }))) ∧
    exec .crossTestPulseEnd s = .next (settle (pulseEnd s)) ∧
    (writeAdmitted p 0x32040 value s = true →
      let s1 := storeWord (Path.origin p) 0x32040 (value &&& 0xFF) s
      exec (.dioDoSetWrite p value) s = .next (settle ({ s1 with dio := { s1.dio with setAt := s1.time } }.setB
        F.DIO_DO_STATE_TMO_ACTIVE false))) ∧
    (s.get F.DIO_DO_TMO_TMO ≠ 0 → s.flag F.DIO_DO_STATE_TMO_ACTIVE = false → hostPowered s = true →
      let s1 := (s.at (s.dio.setAt + s.get F.DIO_DO_TMO_TMO * ms)).setB F.DIO_DO_STATE_TMO_ACTIVE true
      exec .doHostTimeout s = .next (settle (addRec sevWarning 0x0C 0x0010 (u8 (s1.get F.DIO_DO_SET_ON)) s1))) ∧
    (writeAdmitted p 0x32058 value s = true → s.flag F.DIO_DO_CROSS_VALID = true →
      let i := s.get F.DIO_DO_CROSS_ON_CH
      let j := s.get F.DIO_DO_CROSS_OFF_CH
      s.dio.pairs = [(i, j)] → (∃ m ∈ doGroup s i ++ doGroup s j, bitOf value m = true) →
      exec (.crossAck p value) s = .next (settle ({ doMark F.DIO_DO_FAULT_CROSS j false
        (doMark F.DIO_DO_FAULT_CROSS i false s) with dio := { s.dio with pairs := [] } }.setB F.DIO_DO_CROSS_VALID false))) ∧
    (writeAdmitted p 0x32058 value s = true →
      (∀ e ∈ s.dio.pairs, ∀ m ∈ doGroup s e.1 ++ doGroup s e.2, bitOf value m = false) →
      s.dio.pairs.contains (s.get F.DIO_DO_CROSS_ON_CH, s.get F.DIO_DO_CROSS_OFF_CH) = true →
      exec (.crossAck p value) s = .next (settle s))

/-- REG_READ, REG_WRITE, REG_MODIFY, REGISTER_WRITE and the bit alias accesses have their effects. Derived from R71,
R72, R75, R76, R491, R492. -/
def Obligations.RegisterAccessCommandsComplete : Prop :=
  ∀ (c : Ctx) (p : Path) (addr mask value : Word) (count : BitVec 16) (values : List Word) (s : State),
    (Safety.Admitted c 0x0100 s → 1 ≤ count.toNat → count.toNat ≤ 256 →
      (∀ i, i < count.toNat → validAddr (addr.toNat + 4 * i) = true) → (c.v1 = true → count.toNat ≤ 63) →
      let r := readWords addr.toNat count.toNat (noteAdmit s)
      exec (.regRead c addr count) s = .next (settle (respond c false 0x0100 0
        (r.2.map (fun w => u32 w.toNat)).flatten r.1))) ∧
    (Safety.Admitted c 0x0101 s → 1 ≤ values.length → values.length ≤ 64 →
      let r := writeWords c 0 addr.toNat values (noteAdmit s)
      exec (.regWrite c addr values) s = .next (settle (respond c false 0x0101 r.2.1 r.2.2 r.1))) ∧
    (Safety.Admitted c 0x0102 s → validAddr addr.toNat = true → s.direct = false →
      let r := readWord addr.toNat (noteAdmit s)
      let x := writeWord (.rcp c) addr.toNat (merge r.2 mask value) r.1
      x.2 = .ok → exec (.regModify c addr mask value) s = .next (settle (respond c false 0x0102 0 (u32 r.2.toNat) x.1))) ∧
    (addr.toNat < 0x100000 → validAddr addr.toNat = true → writeAdmitted p addr.toNat value s = true →
      commitBlock addr.toNat = none → codeMask .w1 addr.toNat = 0 → codeMask .ws addr.toNat = 0 →
      codeMask .wp addr.toNat = 0 →
      (writable addr.toNat = 0 → exec (.registerWrite p addr value) s = .next (settle s)) ∧
      (writable addr.toNat ≠ 0 → lockMask s addr.toNat = 0 → rangeOk s addr.toNat value = true →
        exec (.registerWrite p addr value) s =
          .next (settle (writeEffect (Path.origin p) addr.toNat 0xFFFFFFFF value s).1))) ∧
    (isAlias addr.toNat = true → validAddr addr.toNat = true →
      (hostPowered s = true → exec (.bitAliasRead .win addr) s = .next (settle ((readWord addr.toNat s).1.send
        (.tws (u32 (readWord addr.toNat s).2.toNat))))) ∧
      exec (.bitAliasWrite p addr value) s = .next (settle (writeWord p addr.toNat value s).1))

/-- Shadow writes, commits, discards, their application, and posted writes have their effects. Derived from R78,
R80, R82, R83, R84. -/
def Obligations.CommitAndPostCommandsComplete : Prop :=
  ∀ (p : Path) (b : Block) (d : Domain) (token : BitVec 16) (addr value : Word) (x : Post) (s s1 : State),
    (addr.toNat < 0x100000 → validAddr addr.toNat = true → writeAdmitted p addr.toNat value s = true →
      commitBlock addr.toNat = none → codeMask .w1 addr.toNat = 0 → lockMask s addr.toNat = 0 →
      (codeMask .ws addr.toNat ≠ 0 → blockOf addr.toNat = some b → s.flag (shPending b) = false →
        exec (.shadowWrite p addr value) s = .next (settle (setShadow addr.toNat
          ((s.shadowWord addr.toNat &&& ~~~codeMask .ws addr.toNat) ||| (value &&& codeMask .ws addr.toNat))
          (s.bump (shToken b) 1)))) ∧
      (codeMask .ws addr.toNat = 0 → codeMask .wp addr.toNat ≠ 0 → addr.toNat ≠ 0x10044 →
        rangeOk s addr.toNat value = true → s.flag (postBusy (domainOf addr.toNat)) = false →
        exec (.postedWrite p addr value) s = .next (settle ({ s with sys := { s.sys with posts := s.sys.posts ++
          [(⟨domainOf addr.toNat, addr.toNat, codeMask .wp addr.toNat, value, Path.origin p, false, s.time⟩ : Post)] } }.setB
          (postBusy (domainOf addr.toNat)) true)))) ∧
    (writeAdmitted p (commitAddr b) (commitWord 0x5A token) s = true → exec (.blockCommit p b token) s =
      .next (settle (commitWrite b p (commitWord 0x5A token) s).1)) ∧
    (writeAdmitted p (commitAddr b) (commitWord 0xD1 token) s = true → exec (.shadowDiscard p b token) s =
      .next (settle (commitWrite b p (commitWord 0xD1 token) s).1)) ∧
    (hostPowered s = true → s.flag (shPending b) = true →
      exec (.commitApply b) s = .next (settle (applyCommit b s))) ∧
    (takePost d s = some (x, s1) →
      exec (.postedWriteComplete d) s = .next (settle (sleepTry (postEffect x (applyPost x s1)))) ∧
      exec (.postFail d) s = .next (settle (sleepTry (postAbandon d (s.at (x.at_ + 10 * postMax s d)))))) ∧
    (writeAdmitted p 0x13040 value s = true → lockMask s 0x13040 = 0 → rangeOk s 0x13040 value = true →
      s.flag (postBusy .mram) = false →
      exec (.estPackWrite p value) s = .next (settle ({ s with sys := { s.sys with posts := s.sys.posts ++
        [(⟨.mram, 0x13040, codeMask .wp 0x13040, value, Path.origin p, false, s.time⟩ : Post)] } }.setB (postBusy .mram) true))) ∧
    (writeAdmitted p 0x10044 value s = true →
      exec (.remoteWordWrite p value) s = .next (settle (remoteWrite (Path.origin p) value 0xFFFFFFFF s).1))

/-- A commit or discard is refused with its REJ_CAUSE in the order of R80, or takes effect. Derived from R78, R80. -/
def Obligations.CommitIsTestedInOrder : Prop :=
  ∀ (b : Block) (p : Path) (v : Word) (s : State),
    let key := fieldOf v 24 8
    let rej (k : Nat) (r : WRes) : Prop := commitWrite b p v s = (rejectCommit b k s, r) ∧
      (rejectCommit b k s).shadow = s.shadow ∧ (rejectCommit b k s).get (shToken b) = s.get (shToken b) ∧
      (rejectCommit b k s).get (shRej b) = k ∧
      (∀ a, a ≠ commitAddr b + 4 → a ≠ (F.INT_CAUSE_CAUSE 1).addr → (rejectCommit b k s).word a = s.word a)
    (key ≠ 0x5A → key ≠ 0xD1 → rej 2 .range) ∧
    (key = 0x5A ∨ key = 0xD1 →
      (s.flag (shPending b) = true → rej 6 (.busy 100)) ∧
      (s.flag (shPending b) = false →
        (fieldOf v 0 16 ≠ s.get (shToken b) → rej 1 (.incons 0)) ∧
        (fieldOf v 0 16 = s.get (shToken b) →
          (key = 0xD1 → (commitWrite b p v s).2 = .ok ∧
            (commitWrite b p v s).1.get (shToken b) = (s.get (shToken b) + 1) % 65536 ∧
            (∀ e, e ∈ (commitWrite b p v s).1.shadow ↔ e ∈ s.shadow ∧ blockOf e.1 ≠ some b)) ∧
          (key = 0x5A →
            (commitAuth b p s = false → rej 4 .auth) ∧
            (commitAuth b p s = true →
              (∀ r, blockState b s = some r → rej 5 r) ∧
              (blockState b s = none →
                (blockChecks b s = false → rej 3 (.incons 0)) ∧
                (blockChecks b s = true → commitWrite b p v s = (acceptCommit b (Path.origin p) s, .ok))))))))

/-- At the boundary the whole shadow of a block becomes active in one step, and PENDING clears. Derived from R77,
R78. -/
def Obligations.CommitTakesTheWholeShadow : Prop :=
  ∀ (b : Block) (s : State), b = .cvl ∨ b = .est ∨ b = .thm → hostPowered s = true → s.flag (shPending b) = true →
    (s.shadow.map (·.1)).Nodup → (∀ e ∈ s.shadow, blockOf e.1 = some b → codeMask .ws e.1 ≠ 0) →
    ∃ t, exec (.commitApply b) s = .next t ∧ t.flag (shPending b) = false ∧
      (∀ e ∈ s.shadow, blockOf e.1 = some b → t.word e.1 = e.2) ∧
      (∀ e, e ∈ t.shadow ↔ e ∈ s.shadow ∧ blockOf e.1 ≠ some b) ∧
      bitOf (t.word (F.INT_CAUSE_CAUSE C.COMMIT_DONE.g).addr) C.COMMIT_DONE.b = true

/-- SNAP_TAKE, SNAPSHOT, SNAPSHOT_COPY and INT_REARM have their effects. Derived from R86, R88, R89, R91. -/
def Obligations.SnapshotAndInterruptCommandsComplete : Prop :=
  ∀ (p : Path) (c : Ctx) (s : State),
    (writeAdmitted p 0x50 1 s = true → exec (.snapTake p) s = .next (settle (snapRequest s))) ∧
    (Safety.Admitted c 0x0006 s →
      let s1 := snapRequest (noteAdmit s)
      exec (.snapshot c) s = .next (settle { s1 with sys := { s1.sys with snapCtx := s1.sys.snapCtx ++ [c] } })) ∧
    (s.sys.snapReq = true → enginesUp s = true →
      let s1 := s.at (nextTick (s.sys.ticks.lookup tkControl) 250 s.time)
      exec .snapshotCopy s = .next (settle (snapCopy s1)) ∧
      (s.sys.snapCtx = [] → (snapCopy s1).get F.SNAP_SEQ_SEQ = (s.get F.SNAP_SEQ_SEQ + 1) % 2 ^ F.SNAP_SEQ_SEQ.n ∧
        (snapCopy s1).flag F.SYS_SNAP_BUSY = false ∧ (snapCopy s1).sys.snapReq = false)) ∧
    (writeAdmitted p 0x1004 (s.word 0x1004 ||| 2) s = true →
      let s1 := storeWord (Path.origin p) 0x1004 ((s.word 0x1004 ||| 2) &&& 1) s
      exec (.intRearm p) s = .next (settle { s1 with sys := { s1.sys with rearmEnd := s1.time + 2 * us } }))

/-- Every tick runs its work once, at the exact next instant of its period. Derived from R32, R33, R78, R102, R117,
R196, R224, R294, R298, R302, R366, R401. That direct mode has no thermal scan is the model's reading (log entry 76). -/
def Obligations.TickCommandsComplete : Prop :=
  ∀ (iS vS vB : BitVec 16) (iP : List (BitVec 12)) (iA : BitVec 14) (g la : BitVec 6) (ampl : BitVec 8)
      (slots : List BoardSlot) (errors : Nat) (reps : List BypassReport) (lastA : Option (BitVec 6)) (pst : List Int)
      (die : Int) (s : State),
    (enginesUp s = true →
      (exec (.controlTick iS vS vB iP iA g) s = .next (settle (
        let s1 := setGate g.toNat (latchFb iS vS vB iP iA (snapCopy ((loadDuties s).tick tkControl 250)))
        let s2 := superviseTick iS (currentTake s1.ctl.fb.iStr (countTick s1))
        let s3 := if s2.flag F.CTL_STATUS_CLOSED then stopRampEnd s2 else s2
        if s3.flag F.CTL_STATUS_CLOSED then runLoop (formRef s3) else s3))) ∧
      exec .outerLoopSample s = .next (settle (outerSample (dispatchSample (stepOverdue (s.tick tkOuter 2500))))) ∧
      exec .pwmPeriodStart s = .next (settle (closeTake (boundaryCommit .ctl (pwmTick s)))) ∧
      exec (.protectionTick ampl) s = .next (settle (latchSummary (settle (protectionWork (wadiLow (wadiAmpl ampl.toNat
        (boundaryCommit .safe (s.tick tkProtection ms)))))))) ∧
      (s.awake = true → supActs s = true → exec (.thermalScan pst die) s = .next (settle (scanThermal pst die
        (boundaryCommit .thm (s.tick tkThermal (scanPeriod s))))))) ∧
    (ringRuns s = true →
      (isC1 s = false → exec (.frameStart la) s =
        .next (settle (ringFrame la.toNat (boundaryCommit .cvl (s.tick tkFrame 15625))))) ∧
      (isC1 s = true → exec (.caravan1Scan slots errors reps lastA) s = .next (settle (scanIn slots errors reps
        (lastA.map (·.toNat)) (boundaryCommit .cvl (s.tick tkFrame 2500000)))))) ∧
    (lanesRun s = true → exec .estimationTick s =
      .next (settle (estimationWork (boundaryCommit .est (s.tick tkEstimation 2500000))))) ∧
    (hostPowered s = true →
      let s1 := s.tick tkManagement sec
      let s2 := holdSeconds { s1 with sys := { s1.sys with opSec := s1.sys.opSec + 1 }, dio := { s1.dio with retryDue := true } }
      exec .managementTick s = .next (settle (dropSummary (if supActs s2 then managementWork s2 else s2))))

/-- A tick sets TIME to its next multiple and remembers it; no command ever runs TIME back at a tick. Derived from
R32, R33, R503. -/
def Obligations.ATickAdvancesTimeAlone : Prop :=
  ∀ (s : State) (kind period : Nat), 0 < period →
    let t := s.tick kind period
    s.time ≤ t.time ∧ t.time % period = 0 ∧ t.sys.ticks.lookup kind = some t.time ∧
      (∀ k, k ≠ kind → t.sys.ticks.lookup k = s.sys.ticks.lookup k) ∧ t.regs = s.regs ∧ t.shadow = s.shadow ∧
      t.pending = s.pending ∧ t.evr = s.evr ∧ t.cmd = s.cmd ∧ t.sent = s.sent ∧
      t.time < (t.tick kind period).time

/-- Frames received, board commands, missing boards, enumeration, restoration and take-over have their effects.
Derived from R105, R109, R112, R113, R115, R118, R119, R124, R125, R127, R272, R284. That a refused BAL_SET or
OASIS_TARGETS is sent again before it fails is the model's reading (log entry 46). -/
def Obligations.RingCommandsComplete : Prop :=
  ∀ (slots : List BoardSlot) (reps : List BypassReport) (endB : Bool) (errors k pos t : Nat) (code result : BitVec 8)
      (data : List Byte) (x : BoardCmd) (v : RingView) (back : List BackBoard) (words : List (Nat × List Word))
      (bal cv : List (Nat × Word)) (s : State),
    (ringRuns s = true → isC1 s = false → s.ring.t0 = some t →
      let s1 := (List.range errors).foldl (fun s _ => frameError s)
        { s with ring := { s.ring with endBack := s.ring.endBack || endB } }
      let s2 := reps.foldl takeReport (if streamOn s1 then stringTake (t - 14125) s1 else s1)
      exec (.frameReceived slots endB errors reps) s = .next (settle (framesDue (t - 15625)
        (dataIn slots (t - 14125) (t - 15625) (windowOf (t - 15625)) s2)))) ∧
    (findCmd k code.toNat s = some x →
      (ringRuns s = true →
        let s1 := dropCmd k code.toNat s
        let s2 := if x.code = 0x18 then chanAnswer k (decide (result = 0)) s1 else s1
        (result = 0 → exec (.boardResponse k code result data) s = .next (settle (cmdDone x data s2))) ∧
        (result ≠ 0 → x.code = 0x18 ∨ x.code = 0x1A → x.tries < 2 →
          exec (.boardResponse k code result data) s = .next (settle (sendAgain x s2))) ∧
        (result ≠ 0 → (x.code ≠ 0x18 ∧ x.code ≠ 0x1A) ∨ 2 ≤ x.tries →
          exec (.boardResponse k code result data) s = .next (settle (cmdFail x s2)))) ∧
      (4 ≤ x.age → x.tries < 2 → exec (.boardCommandResend k code) s = .next (settle
        { s with ring := { s.ring with cmds := s.ring.cmds.map (fun y => if y = x then y.again else y) } })) ∧
      (4 ≤ x.age → 2 ≤ x.tries →
        exec (.boardCommandFail k code) s = .next (settle (cmdFail x (dropCmd k code.toNat s))))) ∧
    (1 ≤ k → k ≤ boards s →
      (missLimit s ≤ (getBrd s k).missRun → missing s k = false → exec (.boardMissing k) s =
        .next (settle (raise C.BOARD_MISSING (s.setB (F.CVL_BRD_STATE_MISSING (k - 1)) true)))) ∧
      (16 ≤ (getBrd s k).goodRun → (getBrd s k).read = true →
        exec (.boardMissingClear k) s = .next (settle (s.setB (F.CVL_BRD_STATE_MISSING (k - 1)) false)))) ∧
    (s.flag F.CVL_STATUS_ENUM_BUSY = true → enginesUp s = true →
      (s.ring.tokenB = false → exec .addressTokenTimeout s = .next (settle
        (({ s.at (s.ring.enumFrom + 70 * ms) with ring := { s.ring with tokenB := true } }).send
          (.packet 1 (addressPacket 0x3F (s.get F.CVL_CFG_BOARDS)))))) ∧
      exec (.enumDone v) s = .next (settle (enumFinish v s))) ∧
    (ringRuns s = true → s.ring.split = true → keepAlive s = false → portGone s = false →
      let was := (boardNums s).filter (fun j => s.flag (F.CVL_BRD_STATE_SERIAL_NEW (j - 1)))
      let s1 := insertNew was ((back.filter (fun b => decide (1 ≤ b.k ∧ b.k ≤ boards s))).foldl restoreBoard s)
      exec (.ringRestore back) s = .next (settle
        (boardCast 0x06 (u8 0) { s1 with ring := { s1.ring with restoring := some false } }))) ∧
    (s.ring.restoring = some true → ∀ u, u = restoreCheck s → u.ring.split = false ∧ u.ring.restoring = none ∧
      u.get F.CVL_STATUS_MODE = 1 ∧ u.get F.CVL_STATUS_BREAK_AFTER = 0x3F) ∧
    (keepAlive s = true → s.sys.supRuns = true → s.get F.CVL_STATUS_GEN ≠ 0 →
      let s1 := reportAsk (restoreDue (s.set F.CVL_STATUS_MODE (if s.ring.split then 2 else 1)))
      exec .keepaliveTakeover s = .next (settle (if s1.get F.CVL_CFG_BOARDS = s1.ring.boards then s1
        else enumWaitCheck { s1 with ring := { s1.ring with enumWait := true } }))) ∧
    (ringRuns s = true → keepAlive s = false →
      let s1 := words.foldl refreshBoard s
      let s2 := { s1 with safe := { s1.safe with cold := coldCells s1 } }
      let mine (e : Nat × Word) : Bool := decide (1 ≤ e.1 ∧ e.1 ≤ boards s2)
      let s3 := (bal.filter mine).foldl (fun s e => balState e.1 e.2 s) s2
      exec (.remoteMirrorRefresh words bal cv) s = .next (settle
        ((cv.filter mine).foldl (fun s e => balCv e.1 e.2 s) s3))) ∧
    (pos < posCount s →
      let s1 := updateRow pos (fun c => { c with flags := c.flags ||| 0x80 }) (s.at (lastReading s pos + noReadingPeriod s))
      (readingsCount s = true → exec (.noReadingLimit pos) s =
        .next (settle (sei 0x08 (s1.setB F.SAFE_STATUS_CELL_LIMIT true)))) ∧
      (readingsCount s = false → exec (.noReadingLimit pos) s = .next (settle s1)))

/-- The Wadi commands have their effects: loss, return, a low tone, its test, and BOARD_ACCEPT. Derived from R44, R130,
R131, R134, R145, R146. -/
def Obligations.WadiCommandsComplete : Prop :=
  ∀ (c : Ctx) (k : BitVec 8) (t n : Nat) (s : State),
    (s.sys.powered = true → s.st ≠ stShip →
      let s1 := ((s.at t).setB F.CVL_WADI_TONE false).setB F.CVL_WADI_LOST_LATCH true
      let s2 := { s1 with ring := { s1.ring with lowSince := none, lowNoted := false } }
      (s.st = stOasis → exec (.wadiLoss t) s = .next (settle (seiDemand 0x03 s2))) ∧
      (s.st = stBoot → s.sys.supRuns = false →
        exec (.wadiLoss t) s = .next (settle (wadiTestDone (seiDemand 0x03 s2)))) ∧
      (s.st ≠ stOasis → s.st ≠ stBoot ∨ s.sys.supRuns = true →
        exec (.wadiLoss t) s = .next (settle (wadiTestDone (seiDemand 0x03 (wadiLossRec s2)))))) ∧
    (s.st ≠ stShip → exec .wadiToneReturn s = .next (settle (rearmCheck (s.setB F.CVL_WADI_TONE true)))) ∧
    (s.ring.lowSince = some t → s.ring.lowNoted = false → s.flag F.CVL_WADI_TONE = true →
      let s1 := s.at (t + sec)
      exec .wadiLow s = .next (settle (addRec sevWarning 0x03 0x0010 (u8 (s1.get F.CVL_WADI_AMPL))
        { s1 with ring := { s1.ring with lowNoted := true } }))) ∧
    (Safety.Admitted c 0x0280 s → 1 ≤ k.toNat → k.toNat ≤ 36 → s.ring.wadiTest = none → k.toNat ≤ boards s →
      present s k.toNat = true →
      (s.flag F.CVL_WADI_TONE = true →
        let s1 := boardSend k.toNat 0x08 (u16 5) (replyAccepted c 0x0280 (noteAdmit s))
        exec (.wadiTest c k) s = .next (settle
          { s1 with ring := { s1.ring with wadiTest := some ⟨k.toNat, c, false, none⟩ } })) ∧
      (s.flag F.CVL_WADI_TONE = false →
        exec (.wadiTest c k) s = .next (settle (replyForbids c 0x0280 (noteAdmit s))))) ∧
    (Safety.Admitted c 0x0281 s → 1 ≤ k.toNat → k.toNat ≤ 36 → s.flag (shPending .cvl) = false →
      shadowDirty s .cvl = false →
      ((getBrd s k.toNat).serial = none →
        exec (.boardAccept c k) s = .next (settle (replyIncons c 0x0281 0 (noteAdmit s)))) ∧
      ((getBrd s k.toNat).serial = some n →
        (s.flag (F.CVL_BRD_STATE_SERIAL_NEW (k.toNat - 1)) = true →
          exec (.boardAccept c k) s = .next (settle (replyOk c 0x0281 [] (addRec sevNotice 0x03 0x0011
            (u8 k.toNat ++ u64 n) ((adoptWord (Ctx.origin c) (F.CVL_BRD_SERIAL_HI_SERIAL (k.toNat - 1)) (n / 2 ^ 32)
              (adoptWord (Ctx.origin c) (F.CVL_BRD_SERIAL_LO_SERIAL (k.toNat - 1)) n (noteAdmit s))).setB
                (F.CVL_BRD_STATE_SERIAL_NEW (k.toNat - 1)) false))))) ∧
        (s.flag (F.CVL_BRD_STATE_SERIAL_NEW (k.toNat - 1)) = false →
          exec (.boardAccept c k) s = .next (settle (replyOk c 0x0281 [] (noteAdmit s))))))

/-- Stillness windows, open-wire tests, learning, sum check, soft limits and pod faults have their effects. Derived
from R152, R159, R160, R161, R162, R164, R165, R166, R168, R170, R171, R183. -/
def Obligations.AcquisitionCommandsComplete : Prop :=
  ∀ (c : Ctx) (k8 : BitVec 8) (k pos n0 t : Nat) (high stuck : Bool) (pod : BitVec 2) (wire : BitVec 16) (res : Word)
      (x : OwTest) (w : WireLearn) (s : State),
    (s.ring.still = some n0 → exec .stillnessWindowEnd s =
      .next (settle (precEnd 16 (n0 + 31 * 15625 + 1500) (s.at (n0 + 32 * 15625))))) ∧
    (10 ≤ s.acq.sumRun → s.flag F.MEAS_STATUS_SUM_FAIL = false →
      exec .sumCheck s = .next (settle (causeRec C.SUM_CHECK sevWarning [] (s.setB F.MEAS_STATUS_SUM_FAIL true)))) ∧
    (10 ≤ s.acq.sumOk → exec .sumCheckClear s = .next (settle (s.setB F.MEAS_STATUS_SUM_FAIL false))) ∧
    exec .diagnosisOpenWire s = .next (settle (diagTests s)) ∧
    (1 ≤ k → k ≤ boards s → ringRuns s = true →
      (s.get F.MEAS_OW_CFG_OW_PERIOD ≠ 0 → exec (.openWirePeriodic k) s =
        .next (settle (owStart k (s.at (owSince s k + s.get F.MEAS_OW_CFG_OW_PERIOD * sec))))) ∧
      ((∃ w ∈ brdWires s k, s.flag (wbFld w) = true) →
        exec (.wireBreakRetest k) s = .next (settle (owStart k (s.at (owSince s k + 60 * sec)))))) ∧
    (s.acq.tests.find? (fun y => y.board == k && y.start.isSome) = some x →
      let d := owDone x (s.at (x.start.getD 0 + owLength s))
      exec (.openWireDone k) s = .next (settle (((List.range (posCount s + 1)).filter
        (fun w => d.flag (wbFld w) && !s.flag (wbFld w))).foldl (fun t w => wireOff w t) d))) ∧
    (Safety.Admitted c 0x0200 s → k8.toNat ≤ 36 → k8.toNat ≤ boards s → 1 ≤ boards s →
      let ks := if k8.toNat = 0 then boardNums s else [k8.toNat]
      (∀ j ∈ ks, owBusy s j = false) →
      let s1 := replyAccepted c 0x0200 (noteAdmit s)
      exec (.openWireTest c k8) s = .next (settle (ks.foldl (fun s j => owStart j s)
        { s1 with acq := { s1.acq with owReqs := s1.acq.owReqs ++ [⟨c, ks, []⟩] } }))) ∧
    (Safety.Admitted c 0x0201 s → anyContactor s = false → s.acq.learn = none →
      let s1 := setLearn (some (.wire c {})) (replyAccepted c 0x0201 (noteAdmit s))
      exec (.wireLearn c) s = .next (settle (boardCast 0x11 (learnPayload s1 0) s1))) ∧
    (s.acq.learn = some (.wire c w) → w.start = some t →
      let u := learnFlush s w
      let s1 := s.at (t + 16 * learnLen s * framePeriod s)
      let inner := (List.range (posCount s1)).drop 1
      let bad := inner.filter (fun n => (wireEstimates u n).isNone)
      let s2 := (inner.filterMap (wireEstimates u)).foldl learnWire (setLearn none s1)
      exec .wireLearnDone s = .next (settle (notifyOpt (some c) 0x0201 0 (bad.map u16).flatten
        (if bad = [] then endWires s2 else s2)))) ∧
    (Safety.Admitted c 0x0202 s → wire.toNat ≤ posCount s → 0 ≤ res.toInt → res.toInt ≤ 500000 →
      let s1 := wireRows wire.toNat
        { noteAdmit s with acq := { s.acq with wires := tabSet s.acq.wires wire.toNat res.toInt.toNat } }
      exec (.wireResSet c wire res) s = .next (settle (replyOk c 0x0202 [] (addRec sevInfo 0x01 0x0010
        (u32 (wireAddr s1 wire.toNat) ++ u32 res.toInt.toNat ++ u32 ((s.acq.wires.lookup wire.toNat).getD 0x7FFFFFFF) ++
          originBytes (Ctx.origin c)) s1)))) ∧
    (Safety.Admitted c 0x0203 s → s.acq.learn = none → exec (.icLearn c) s =
      .next (settle (setLearn (some (.ic c s.time 0 0 0 0 0 0 0)) (replyAccepted c 0x0203 (noteAdmit s))))) ∧
    (∀ n si sr sii sir lo hi, s.acq.learn = some (.ic c t n si sr sii sir lo hi) → (n : Rat) * sii - si * si ≠ 0 →
      let s1 := setLearn none (s.at (t + 60 * sec))
      ¬ hi - lo < cMin s1 / 5 →
      let ric := roundQ (((n : Rat) * sir - si * sr) / ((n : Rat) * sii - si * si) * 1000)
      exec .icLearnDone s = .next (settle (notifyOpt (some c) 0x0203 0 (s32 ric)
        ((s1.setI F.MEAS_RIC_VALUE ric).setB F.MEAS_STATUS_RIC_VALID true)))) ∧
    (s.flag (cfFld pos) = true → 100 ≤ tabGet s.acq.faultFree pos 0 → s.flag F.MEAS_STATUS_SUM_FAIL = false →
      exec (.cellFaultClear pos) s = .next (settle (retag pos (s.setB (cfFld pos) false)))) ∧
    exec (.softLimitSet pos high) s = .next (settle (softReport (counted pos (softSet pos high) s))) ∧
    exec (.softLimitClear pos high) s = .next (settle (softReport (counted pos (softClear pos high) s))) ∧
    exec (.podFault pod stuck) s = .next (settle (podFail pod.toNat stuck s)) ∧
    exec (.podRecover pod) s = .next (settle (podBack pod.toNat s))

/-- EIS_START, EIS_STOP, STEP_PULSE, sweeps, timeouts and publications have their effects. Derived from R184, R190,
R192, R194, R203, R204, R205, R207, R211, R212, R216. That a pulse counts as running until its second edge is evaluated is
the model's choice (log entry 154). -/
def Obligations.ImpedanceCommandsComplete : Prop :=
  ∀ (c : Ctx) (p : Path) (mode n : BitVec 8) (amp : Word) (di : Rat) (m : Meas) (x : Pulse) (t t10 t90 : Nat)
      (s : State),
    (Safety.Admitted c 0x0210 s → s.flag F.EIS_STATUS_UNAVAIL = false → s.flag F.CTL_STATUS_CLOSED = true →
      s.eis.meas = none → s.eis.closing = none → s.eis.pulse = none →
      mode = 1 ∨ (mode = 2 ∧ restingRequest (noteAdmit s) (requestNow (noteAdmit s)) = true) → n.toNat ≤ 60 →
      ((if n.toNat = 0 then s.get F.EIS_CFG_N_AVG else n.toNat) + 1) * 10 ≤ s.get F.EIS_TIMEOUT_TIMEOUT →
      exec (.eisStart c mode n) s = .next (settle (setMeas
        { mode := mode.toNat, n := n.toNat, phase := .waiting, ctx := some c, reqAt := s.time }
        (replyAccepted c 0x0210 (noteAdmit s))))) ∧
    (Safety.Admitted c 0x0211 s →
      (s.flag F.EIS_STATUS_UNAVAIL = false →
        exec (.eisStop c) s = .next (settle (replyOk c 0x0211 [] (eisAbandon 0x4 (noteAdmit s))))) ∧
      (s.flag F.EIS_STATUS_UNAVAIL = true →
        exec (.eisStop c) s = .next (settle (replyForbids c 0x0211 (noteAdmit s))))) ∧
    (Safety.Admitted c 0x0212 s → s.flag F.EIS_STATUS_UNAVAIL = false → s.flag F.CTL_STATUS_CLOSED = true →
      restingRequest (noteAdmit s) (requestNow (noteAdmit s)) = true →
      s.eis.meas = none → s.eis.closing = none → s.eis.pulse = none →
      (let a : Rat := (amp.toInt : Rat) / 1000
       ¬ absQ a < cMin (noteAdmit s) / 20 → s.ctl.clamped + a ≤ 9 / 10 * s.ctl.limChg →
       -(9 / 10 * s.ctl.limDis) ≤ s.ctl.clamped + a →
       let s1 := replyAccepted c 0x0212 (noteAdmit s)
       exec (.stepPulse c amp) s = .next (settle ({ s1 with eis := { s1.eis with
         pulse := some ⟨a, s1.time + 2 * sec, c⟩ } }.set F.EIS_STATUS_MODE 3)))) ∧
    (let s1 := lanesDue (s.tick tkSweep sweepCounts)
     (s1.eis.meas = some m → exec .sweepBoundary s = .next (settle (measBoundary m s1))) ∧
     (s1.eis.meas = none → autoStart s1 = true → exec .sweepBoundary s = .next (settle
       (measStart { mode := 1, n := 0, phase := .waiting, ctx := none, reqAt := s1.time } s1))) ∧
     (s1.eis.meas = none → autoStart s1 = false → exec .sweepBoundary s = .next (settle s1))) ∧
    (s.eis.meas = some m →
      (m.okSince = some t → exec .headroomResume s = .next (settle
        { s.at (t + sec) with eis := { s.eis with meas := some { m with armed := true } } })) ∧
      (m.startAt = some t →
        exec .eisTimeout s = .next (settle (eisAbandon 0x3 (s.at (t + m.timeout * sec)))))) ∧
    ((lanesDue s).eis.closing = some m → exec .resultPublish s = .next (settle (publishReady m (lanesDue s)))) ∧
    (writeAdmitted p 0x12014 0 s = true →
      exec (.eisHoldRelease p) s = .next (settle (holdRelease (storeWord (Path.origin p) 0x12014 0 s)))) ∧
    (stepsOn s = true → stepFound s = some (t10, t90, di) →
      exec .stepDone s = .next (settle (stepUpdate t10 t90 di s))) ∧
    (s.eis.pulse = some x →
      exec .stepPulseEnd s = .next (settle (pulseStop (stepDue (s.at (x.endAt + sec))))))

/-- Rest points, refits, insertion, capacity and persistence have their effects. Derived from R208, R221, R231,
R232, R243, R244, R262. -/
def Obligations.EstimationCommandsComplete : Prop :=
  ∀ (c : Ctx) (first count pos unc : BitVec 16) (cap : Word) (n seq : Nat) (ok : Bool) (r : ZResult) (s : State),
    (estRuns s = true → s.direct = false → n < posCount s →
      exec (.restPoint n) s = .next (settle (match realRest s n with
        | some soc => addRec sevInfo 0x06 0x0010 (u16 1 ++ u16 n) (acceptRef n 2 soc 1 s)
        | none => s)) ∧
      exec (.virtualRest n) s = .next (settle (match virtualRest s n with
        | some v => addRec sevInfo 0x06 0x0010 (u16 1 ++ u16 n) (acceptRef n 3 v.1 v.2 s)
        | none => s))) ∧
    (s.eis.result = some (seq, r) → s.eis.refit = true → exec .fitDone s = .next (settle (raise C.FIT_DONE
      (r.rows.foldl (takeFit seq) { s with eis := { s.eis with refit := false } })))) ∧
    exec (.persistDone ok) s = .next (settle (persistDone ok s)) ∧
    (Safety.Admitted c 0x0300 s → 1 ≤ count.toNat → first.toNat + count.toNat ≤ posCount s → count.toNat ≤ 576 →
      exec (.estInsert c first count) s = .next (settle (replyOk c 0x0300 [] { noteAdmit s with est := { s.est with
        insertNow := s.est.insertNow ++ (List.range count.toNat).map (· + first.toNat) } }))) ∧
    (Safety.Admitted c 0x0301 s → pos.toNat < posCount s ∨ pos.toNat = 0xFFFF →
      s.get F.EST_RATED_CAP_RATED ≤ 2 * cap.toNat → 2 * cap.toNat ≤ 3 * s.get F.EST_RATED_CAP_RATED →
      let l := if pos.toNat = 0xFFFF then positions s else [pos.toNat]
      exec (.capacitySet c pos cap unc) s = .next (settle (replyOk c 0x0301 [] (addRec sevNotice 0x06 0x0012
        (u16 pos.toNat ++ u32 cap.toNat ++ originBytes (Ctx.origin c))
        (l.foldl (capSet cap.toNat unc.toNat) (noteAdmit s)))))) ∧
    (Safety.Admitted c 0x0302 s →
      (s.flag F.EST_STATUS_PF_DONE = false →
        let s1 := replyAccepted c 0x0302 (noteAdmit s)
        exec (.estPersist c) s = .next (settle { s1 with est := { s1.est with
          persistReq := true, persistCtx := s1.est.persistCtx ++ [c] } })) ∧
      (s.flag F.EST_STATUS_PF_DONE = true →
        exec (.estPersist c) s = .next (settle (replyBusy c 0x0302 100 (noteAdmit s)))))

/-- Plans, manual balancing, policies, stops and Oasis reports have their effects. Derived from R266, R278, R279,
R282, R290. -/
def Obligations.BalancingCommandsComplete : Prop :=
  ∀ (c : Ctx) (policy align k : BitVec 8) (mask byp hold : BitVec 16) (s : State),
    exec .balancePlanReady s = .next (settle (planSend s)) ∧
    (s.bal.next = none → exec .balancePlanReady s = .next (settle s)) ∧
    exec .cvOvershoot s = .next (settle (cvOvershoot s)) ∧
    ((∀ e ∈ s.bal.ovsRun, e.2 < 10) → exec .cvOvershoot s = .next (settle s)) ∧
    (s.bal.reportDue = true → s.awake = true →
      (s.bal.reports ≠ [] →
        let s1 := (positions s).foldl reportApply { s with bal := { s.bal with reportDue := false } }
        exec .oasisReportApply s = .next (settle (raise C.OASIS_REPORT
          (if s1.bal.reports.any (fun e => e.2.timedOut != 0) then raise C.BAL_TIMEOUT s1 else s1)))) ∧
      (s.bal.reports = [] → exec .oasisReportApply s =
        .next (settle { s with bal := { s.bal with reportDue := false } }))) ∧
    exec .oasisHandoff s = .next (settle (sleepTry s)) ∧
    (∀ x, s.sys.sleep = some (stOasis, x) → s.flag (postBusy .aon) = false → s.bal.handoff = some [] →
      exec .oasisHandoff s = .next (settle (sleepNow stOasis x s))) ∧
    (Safety.Admitted c 0x0400 s → s.flag F.BAL_STATUS_OWNED = false →
      policyOk (noteAdmit s) policy.toNat (s.get F.BAL_FCV_V_CV) = true → align.toNat ≤ 1 →
      exec (.balPolicy c policy align) s = .next (settle (replyOk c 0x0400 [] (policyWritten (storeWord (Ctx.origin c)
        0x14000 (withField (withField (s.word 0x14000) 0 2 policy.toNat) 8 1 align.toNat) (noteAdmit s)))))) ∧
    (Safety.Admitted c 0x0401 s →
      let s1 := storeWord (Ctx.origin c) 0x14000 (withField (s.word 0x14000) 0 2 0) (noteAdmit s)
      exec (.balStop c) s = .next (settle (replyOk c 0x0401 []
        (balHalt { s1 with bal := { s1.bal with rearmed := true } })))) ∧
    (Safety.Admitted c 0x0402 s → 1 ≤ k.toNat → k.toNat ≤ 36 → k.toNat ≤ boards s → present s k.toNat = true →
      (brdClass s k.toNat ≠ 3 → popcount mask.toNat ≤ s.get F.BAL_CFG_MAX_ON) → 1 ≤ hold.toNat → hold.toNat ≤ 600 →
      let man := tabSet s.bal.manual k.toNat (mask.toNat, byp.toNat, s.time + hold.toNat * sec)
      exec (.balManual c k mask byp hold) s = .next (settle (replyOk c 0x0402 [] (balSet k.toNat mask.toNat byp.toNat
        { noteAdmit s with bal := { s.bal with manual := man } })))) ∧
    (Safety.Admitted c 0x0403 s → s.flag F.BAL_STATUS_OASIS_VALID = true → 1 ≤ k.toNat → k.toNat ≤ 36 →
      let r := tabGet s.bal.reports k.toNat {}
      exec (.oasisReportRead c k) s = .next (settle (replyOk c 0x0403 (u16 r.reached ++ u16 r.timedOut ++
        ((List.range 16).map (fun j => u16 (getAt r.charge j 0))).flatten) (noteAdmit s))))

/-- Loop commands, converter faults, missed deadlines and precharge events have their effects. Derived from R297,
R305, R306, R308, R314, R315, R316, R321, R327, R333. -/
def Obligations.ConverterCommandsComplete : Prop :=
  ∀ (c : Ctx) (p : Path) (ph : BitVec 3) (x : Pre) (s : State),
    (Safety.Admitted c 0x0500 s → s.flag F.CTL_STATUS_CLOSED = true →
      exec (.loopClose c) s = .next (settle (closeOk c (noteAdmit s)))) ∧
    (Safety.Admitted c 0x0500 s → s.flag F.CTL_STATUS_CLOSED = false →
      (closeFailing (noteAdmit s) = 0 → exec (.loopClose c) s = .next (settle ({ noteAdmit s with ctl := { s.ctl with
        closeCtx := s.ctl.closeCtx ++ [c] } }.setB F.CTL_STATUS_CLOSE_PENDING true))) ∧
      (closeFailing (noteAdmit s) = 4 →
        exec (.loopClose c) s = .next (settle (replyIncons c 0x0500 4 (noteAdmit s)))) ∧
      (closeFailing (noteAdmit s) ≠ 0 → closeFailing (noteAdmit s) ≠ 4 →
        exec (.loopClose c) s = .next (settle (replyForbids c 0x0500 (noteAdmit s))))) ∧
    (Safety.Admitted c 0x0501 s → exec (.loopOpen c) s =
      .next (settle (replyOk c 0x0501 [] (loopOpen 0x0D (abandonClose (noteAdmit s)))))) ∧
    (Safety.Admitted c 0x0502 s →
      let r := fbAck (noteAdmit s)
      exec (.feedbackAck c) s = .next (settle (if r.2 then replyOk c 0x0502 (u32 (r.1.word 0x20054).toNat) r.1
        else replyForbids c 0x0502 r.1))) ∧
    (Safety.Admitted c 0x0503 s → exec (.rcReset c) s =
      .next (settle (replyOk c 0x0503 [] (rcClear (noteAdmit s))))) ∧
    (writeAdmitted p 0x20040 2 s = true → exec (.ctlCtrlFbAck p) s = .next (settle (fbAck s).1)) ∧
    (writeAdmitted p 0x20040 1 s = true →
      exec (.ctlCtrlRcReset p) s = .next (settle (rcClear s))) ∧
    (ph.toNat < 6 →
      let lv := s.get F.CTL_FB_GATE_FLT
      let s1 := setGate (if lv / 2 ^ ph.toNat % 2 = 1 then lv else lv + 2 ^ ph.toNat) s
      exec (.gateFault ph) s =
        .next (settle (loopOpen 0x02 (raise C.GATE_FAULT (s1.setB F.CTL_FB_GATE_LATCH true))))) ∧
    (s.flag F.CTL_STATUS_CLOSED = true → mirageBad s = true → s.flag F.CTL_FB_MIRAGE_LATCH = false →
      exec .mirage s = .next (settle (loopOpen 0x06 (raise C.MIRAGE
        ((s.setB F.CTL_FB_MIRAGE_LATCH true).setB F.CTL_FB_PRIMARY_LOST true))))) ∧
    (auxBad s = true → s.flag F.CTL_FB_MISMATCH_LATCH = false → exec .auxMismatch s =
      .next (settle (loopOpen 0x07 (raise C.AUX_MISMATCH (s.setB F.CTL_FB_MISMATCH_LATCH true))))) ∧
    (∀ l, s.ctl.duties = some l →
      let s1 := countMiss ({ s with ctl := { s.ctl with
        duties := none, cur := { s.ctl.cur with u1 := s.ctl.cur.u2 }, u := s.ctl.cur.u2
        share := s.ctl.share.map (fun (h : Hist) => { h with u1 := h.u2 }) } }.set
        F.CTL_STATUS_MISS_RUN (s.get F.CTL_STATUS_MISS_RUN + 1))
      exec (.ctlDeadlineMiss false) s =
        .next (settle (if 3 ≤ s.get F.CTL_STATUS_MISS_RUN + 1 then loopOpen 0x0A s1 else s1))) ∧
    (∀ l, s.ctl.outerPend = some l →
      let s1 := countMiss { s with ctl := { s.ctl with
        outerPend := none, outer := { s.ctl.outer with u1 := s.ctl.clamped / iFsA s }, outerRun := s.ctl.outerRun + 1 } }
      exec (.ctlDeadlineMiss true) s =
        .next (settle (if 3 ≤ s.ctl.outerRun + 1 then loopOpen 0x0A s1 else s1))) ∧
    (s.ctl.pre = some x →
      (x.seen = true → x.tp + 10 * ms ≤ s.time →
        absQ s.ctl.meanStr ≤ (1 - ((s.get F.CTL_PRE_PRE_THR : Nat) : Rat) / 100) * preI0 s →
        exec .prechargeDone s = .next (settle (preDone s))) ∧
      (x.seen = false → exec .prechargeNoCurrent s = .next (settle (preFail 2 (s.at (x.tp + 10 * ms))))) ∧
      exec .prechargeTimeout s =
        .next (settle (preFail 3 (s.at (x.tp + s.get F.CTL_PRE_PRE_TMAX * (100 * ms))))))

/-- Throttle steps, release, the chiller and cooling tests have their effects. Derived from R367, R371, R374, R383.
That thermal policy rests in direct mode is the model's reading (log entry 76). -/
def Obligations.ThermalCommandsComplete : Prop :=
  ∀ (c : Ctx) (d6 d7 : BitVec 8) (hold : BitVec 16) (t : Nat) (data : List Byte) (s : State),
    (s.awake = true → supActs s = true →
      (s.thm.riseAt = some t → t + 5 * sec ≤ s.time →
        let s1 := setThm { s.thm with riseAt := some s.time } s
        (thmStep s < 8 → exec .throttleStep s = .next (settle (causeRec C.THROTTLE_STEP sevInfo []
          (s1.set F.THM_STATUS_STEP (thmStep s + 1))))) ∧
        (8 ≤ thmStep s → exec .throttleStep s = .next (settle s1))) ∧
      (s.thm.fallAt = some t → t + 30 * sec ≤ s.time →
        let s1 := setThm { s.thm with fallAt := some s.time } s
        (stepFloor s < thmStep s → exec .throttleRecover s = .next (settle (causeRec C.THROTTLE_RECOVER sevInfo []
          (s1.set F.THM_STATUS_STEP (thmStep s - 1))))) ∧
        (thmStep s ≤ stepFloor s → exec .throttleRecover s = .next (settle s1))) ∧
      (s.thm.coldAt = some t → t + 600 * sec ≤ s.time → s.flag F.THM_STATUS_FAULT_FORCE = false →
        s.flag F.THM_STATUS_RELEASE_READY = false → exec .releaseReady s =
          .next (settle (raise C.RELEASE_READY (s.setB F.THM_STATUS_RELEASE_READY true))))) ∧
    (Safety.Admitted c 0x0700 s →
      (s.flag F.THM_STATUS_SHUT_LATCH = false →
        exec (.thermalRelease c) s = .next (settle (replyOk c 0x0700 [] (noteAdmit s)))) ∧
      (s.flag F.THM_STATUS_SHUT_LATCH = true → s.flag F.THM_STATUS_RELEASE_READY = false →
        exec (.thermalRelease c) s = .next (settle (replyForbids c 0x0700 (noteAdmit s)))) ∧
      (s.flag F.THM_STATUS_SHUT_LATCH = true → s.flag F.THM_STATUS_RELEASE_READY = true →
        exec (.thermalRelease c) s = .next (settle (replyOk c 0x0700 [] (addRec sevNotice 0x0A 0x0010
          (originBytes (Ctx.origin c)) ((noteAdmit s).setB F.THM_STATUS_SHUT_LATCH false)))))) ∧
    (Safety.Admitted c 0x0701 s →
      (d6.toNat ≤ 100 → d7.toNat ≤ 100 → 1 ≤ hold.toNat → hold.toNat ≤ 600 →
        let s1 := ((noteAdmit s).set F.THM_DUTY_DUTY6 d6.toNat).set F.THM_DUTY_DUTY7 d7.toNat
        exec (.coolTest c d6 d7 hold) s = .next (settle (replyOk c 0x0701 []
          (setThm { s1.thm with testEnd := some (s1.time + hold.toNat * sec) } s1)))) ∧
      (100 < d6.toNat → exec (.coolTest c d6 d7 hold) s = .next (settle (replyRange c 0x0701 0 (noteAdmit s)))) ∧
      (d6.toNat ≤ 100 → 100 < d7.toNat →
        exec (.coolTest c d6 d7 hold) s = .next (settle (replyRange c 0x0701 1 (noteAdmit s)))) ∧
      (d6.toNat ≤ 100 → d7.toNat ≤ 100 → hold.toNat = 0 ∨ 600 < hold.toNat →
        exec (.coolTest c d6 d7 hold) s = .next (settle (replyRange c 0x0701 2 (noteAdmit s))))) ∧
    (s.thm.testEnd = some t → s.time ≤ t →
      exec .coolTestEnd s = .next (settle (showDuties (setThm { s.thm with testEnd := none } (s.at t))))) ∧
    (s.flag F.THM_CHL_EN = true → s.awake = true → supActs s = true →
      (canOn s .canb = true →
        let s1 := match s.thm.reqAt with | some t => s.at (t + chlPeriod s) | none => s
        exec .chillerRequest s = .next (settle (txPut .canb 31 ⟨8, false, false, false, chlFrame s1, 0⟩ (setThm
          { s1.thm with reqAt := some s1.time, alive := (s1.thm.alive + 1) % 16,
                        replyAt := some (s1.thm.replyAt.getD s1.time) } s1)))) ∧
      (coolDue s = true → exec .coolantFault s = .next (settle (coolFault s))) ∧
      (coolDue s = false → s.thm.replyAt = some t →
        exec .coolantFault s = .next (settle (coolFault (s.at (t + 5 * chlPeriod s)))))) ∧
    (s.flag F.THM_CHL_EN = true → canOn s .canb = true → data.length ≤ 8 ∨ canFdEn s .canb = true →
      let id := ownerWord (s.word F.THM_CHL_RXID_ID.addr)
      let s1 := canIn .canb id.1 id.2 ⟨data.length, decide (8 < data.length), false, false, data, s.time⟩ s
      let bad := bitOf (BitVec.ofNat 32 (numAt data 0 1)) 1
      let s2 := setThm { s1.thm with
        replyAt := some s1.time
        faults := if bad then s1.thm.faults + 1 else 0
        goods := if bad then 0 else s1.thm.goods + 1 } s1
      (coolDue s2 = true → exec (.chillerReply data) s = .next (settle (coolFault s2))) ∧
      (coolDue s2 = false → s2.thm.goods < 5 → exec (.chillerReply data) s = .next (settle s2)) ∧
      (coolDue s2 = false → 5 ≤ s2.thm.goods →
        exec (.chillerReply data) s = .next (settle (s2.setB F.THM_STATUS_COOL_FAULT false))))

/-- Links, frames, addresses, and the PTP and time commands have their effects. Derived from R494, R495, R498, R502,
R507, R513, R514, R515, R517, R519. -/
def Obligations.NetworkCommandsComplete : Prop :=
  ∀ (p : Path) (pt : EthPort) (speed : BitVec 2) (duplex uv ps : Bool) (len t : Nat) (dst src : BitVec 48)
      (tag : Option (BitVec 3 × BitVec 12)) (ptp : Bool) (full : BitVec 3) (m : Mac) (ip mask gw delay v : Word)
      (theta : Int) (gm : BitVec 64) (p1 p2 : BitVec 4) (utc : BitVec 16) (s : State),
    (let i := portIdx pt
     let s1 := ((s.setB (F.ETH_STAT_LINK i) true).set (F.ETH_STAT_SPEED_ACT i) speed.toNat).setB
       (F.ETH_STAT_DUPLEX i) (duplex || speed == 3)
     let s2 := ((s.setB (F.ETH_STAT_LINK i) false).set (F.ETH_STAT_SPEED_ACT i) 0).setB (F.ETH_STAT_DUPLEX i) false
     (s.flag (F.ETH_PHY_EN i) = true → switchOn s = true →
       exec (.linkChange pt true speed duplex) s =
         .next (settle (if s.flag (F.ETH_STAT_LINK i) then s1 else raise C.LINK_CHANGE s1))) ∧
     exec (.linkChange pt false speed duplex) s =
       .next (settle (if s.flag (F.ETH_STAT_LINK i) then raise C.LINK_CHANGE s2 else s2))) ∧
    exec (.ethFrameIngress pt len dst src tag ptp full) s =
      .next (settle (frameIn (portIdx pt) len dst src tag ptp full s)) ∧
    (s.net.macs.find? (fun x => x.addr == src) = some m → exec (.macAddressAgeOut src) s =
      .next (settle { s.at (m.seen + 300 * sec) with net := { s.net with
        macs := s.net.macs.filter (fun x => x.addr != src) } })) ∧
    (writeAdmitted p 0x4304C (s.word 0x4304C ||| 2) s = true → exec (.ipApply p) s = .next (settle (applyIp s))) ∧
    (s.net.dhcp = true → s.get F.ETH_IP_ACT_VALUE = 0 → switchOn s = true →
      let s1 := s.at s.net.dhcpAt
      exec (.dhcpRetry (some (ip, mask, gw))) s = .next (settle
        ({ s1 with net := { s1.net with ip := ip.toNat, mask := mask.toNat, gw := gw.toNat } }.set
          F.ETH_IP_ACT_VALUE ip.toNat)) ∧
      exec (.dhcpRetry none) s = .next (settle { s1 with net := { s1.net with dhcpAt := s1.time + 30 * sec } })) ∧
    (ptpRuns s = true →
      exec (.ptpOffsetSample t theta delay) s = .next (settle (offsetSample theta delay.toNat (s.at t))) ∧
      (s.get F.PTP_CFG_PROFILE ≠ 0 →
        s.flag (match pt with | .eth1 => F.PTP_CFG_PORT1_EN | .eth2 => F.PTP_CFG_PORT2_EN) = true →
        let s1 := s.set64 F.PTP_GM_LO_VALUE F.PTP_GM_HI_VALUE gm.toNat
        let s2 := { s1 with net := { s1.net with lastAnnounce := some s1.time } }
        let s3 := ((s2.set F.PTP_STATUS_PORT1_STATE (if s.flag F.PTP_CFG_PORT1_EN then p1.toNat else 0)).set
          F.PTP_STATUS_PORT2_STATE (if s.flag F.PTP_CFG_PORT2_EN then p2.toNat else 0)).setI F.PTP_UTC_VALUE utc.toInt
        let s4 := (s3.setB F.PTP_STATUS_UTC_VALID uv).setB F.PTP_STATUS_PTP_TS ps
        exec (.ptpAnnounce pt gm p1 p2 utc uv ps) s = .next (settle
          (if s.get64 F.PTP_GM_LO_VALUE F.PTP_GM_HI_VALUE = gm.toNat then s4 else raise C.GM_CHANGE s4)))) ∧
    (s.net.lastSample = some t → s.get F.PTP_STATUS_STATE = 3 →
      exec .ptpSyncTimeout s = .next (settle (enterHoldover (s.at (t + 4 * syncInterval s))))) ∧
    (s.net.lastAnnounce = some t →
      let s1 := s.at (t + announceLimit s)
      exec .announceTimeout s = .next (settle (enterHoldover { s1 with net := { s1.net with lastAnnounce := none } }))) ∧
    (s.net.lastLocked = some t → s.get F.PTP_STATUS_STATE ≠ 3 → exec .holdMaxExpiry s =
      .next (settle (updateValid (s.at (t + s.get F.PTP_HOLDMAX_HOLD_MAX * sec))))) ∧
    (∀ a : Word, a = 0x44000 ∨ a = 0x44004 → writeAdmitted p a.toNat v s = true →
      exec (.ptpCfgWrite p a v) s = .next (settle (ptpCfgWrite (Path.origin p) a.toNat v s).1)) ∧
    (writeAdmitted p 0x440CC 1 s = true →
      exec (.timeSetGo p) s = .next (settle (timeSetGo (Path.origin p) s).1)) ∧
    (hostPowered s = true → exec .timeReadLatch s = .next (settle (latchTime s)))

/-- The twelve codes of the two-wire service port have their effects, and its timeout and STOP. Derived from R473,
R552, R553, R554, R555. -/
def Obligations.ServicePortCommandsComplete : Prop :=
  ∀ (a : BitVec 7) (n k : Nat) (off len : BitVec 16) (w v : Word) (data : List Byte) (pec : Option (BitVec 8)) (s : State),
    hostPowered s = true →
    (twsSlot s a.toNat = some n →
      exec (.mboxStatus a) s = .next (settle (twsRun n 0x01 (fun s => twsSend a 0x01 (u32 (readWord 0x2030 s).2.toNat)
        (readWord 0x2030 s).1) s)) ∧
      exec (.mboxRead a) s = .next (settle (twsRun n 0x04 (mboxRead a) s)) ∧
      exec (.winRead a) s = .next (settle (twsRun n 0x11 (fun s => twsSend a 0x11 (u32 (winReadOne n s).2.toNat)
        (winReadOne n s).1) s)) ∧
      exec (.winReadBlock a) s = .next (settle (twsRun n 0x13 (fun s => twsSend a 0x13 (u8 32 ++
        ((winReads n 8 s).2.map (fun w => u32 w.toNat)).flatten) (winReads n 8 s).1) s)) ∧
      exec (.ident a) s = .next (settle (twsRun n 0x20 (fun s =>
        twsSend a 0x20 (u64 (serialNum s) ++ u32 (s.word 0x800).toNat) s) s)) ∧
      (let run (code : Nat) (body : List Byte) (f : State → State) : State :=
         if pecBad a code body pec s then twsRun n code (fun s => s.bump F.TWS_CNT_PEC_COUNT 1) s else twsRun n code f s
       (off.toNat ≤ 1087 → exec (.mboxPtr a off pec) s = .next (settle (run 0x02 (u16 off.toNat) (setPtr off.toNat)))) ∧
        (1 ≤ data.length → data.length ≤ 32 → s.cmd.mboxPtr + data.length ≤ 1088 →
          exec (.mboxWrite a data pec) s = .next (settle (run 0x03 (u8 data.length ++ data)
            (fun s => { s with cmd := { s.cmd with
              mboxReq := putBytes s.cmd.mboxReq s.cmd.mboxPtr data, mboxPtr := s.cmd.mboxPtr + data.length } })))) ∧
        (10 ≤ len.toNat → len.toNat ≤ 1088 →
          exec (.mboxGo a len pec) s = .next (settle (run 0x05 (u16 len.toNat) (mboxGo len.toNat)))) ∧
        exec (.mboxAck a pec) s = .next (settle (run 0x06 [] mboxAck)) ∧
        exec (.winAddr a w pec) s = .next (settle (run 0x10 (u32 w.toNat) (setWin n w.toNat))) ∧
        exec (.winWrite a v pec) s = .next (settle (run 0x12 (u32 v.toNat) (winWriteOne n v))) ∧
        (data.length = 4 * k → 1 ≤ k → k ≤ 8 → exec (.winWriteBlock a data pec) s = .next (settle
          (run 0x14 (u8 data.length ++ data) (fun s => (wordsOf k data).foldl (fun s v => winWriteOne n v s) s)))))) ∧
    (let s1 := (s.setB F.TWS_STATUS_BUSY false).setB F.TWS_STATUS_STRETCH false
     exec .twsTimeout s = .next (settle (raise C.TWS_TIMEOUT (s1.bump F.TWS_CNT_TMO_COUNT 1))) ∧
     exec (.twsStartStop false) s = .next (settle s1)) ∧
    exec (.twsStartStop true) s = .next (settle (twsStop s))

/-- Transfers on the local two-wire bus start, end, retry, time out and are cleared. Derived from R556, R557, R558,
R561, R562. -/
def Obligations.TwoWireLocalCommandsComplete : Prop :=
  ∀ (p : Path) (v : Word) (nack byte : BitVec 6) (bit : BitVec 3) (free : Bool) (clear : Option Bool) (data : List Byte)
      (s : State),
    (writeAdmitted p 0x42004 v s = true → fieldOf v 24 8 ≤ 32 → fieldOf v 16 8 ≤ 32 →
      let s0 := storeWord (Path.origin p) 0x42004 (v &&& 0xFFFF7F00) s
      let s1 := (s0.set F.TWL_STATUS_RETRIES_USED 0).set F.TWL_STATUS_RESULT 0
      (bitOf v 0 = false → exec (.twlGo p v clear) s = .next (settle s0)) ∧
      (bitOf v 0 = true → s.flag F.TWL_STATUS_BUSY = false → s.flag F.TWL_CFG_EN = true →
        (s1.flag F.TWL_STATUS_STUCK = true → exec (.twlGo p v clear) s = .next (settle (twlBusy (twlResult 6 s1)))) ∧
        (s1.flag F.TWL_STATUS_STUCK = false → clear = some false →
          exec (.twlGo p v clear) s = .next (settle (twlBusClear false (twlResult 6 s1)))) ∧
        (s1.flag F.TWL_STATUS_STUCK = false → clear ≠ some false →
          let s2 := s1.send (.twl (twlBytes s1))
          exec (.twlGo p v clear) s = .next (settle (twlBusy { s2 with bus := { s2.bus with twlRun := true } }))))) ∧
    (s.bus.twlRun = true →
      (∃ t, exec (.twlTransferDone none data) s = .next t ∧ t.bus.twlRun = false ∧ t.get F.TWL_STATUS_RESULT = 1 ∧
        ∀ i, i < s.get F.TWL_XFER_RD_LEN → i < data.length → i < 32 →
          t.get ⟨0x42030 + 4 * (i / 4), 8 * (i % 4), 8⟩ = numAt data i 1) ∧
      exec (.twlTransferDone (some nack) data) s = .next (settle (twlBusy ((twlResult
        (if nack = 0 ∨ nack.toNat = s.get F.TWL_XFER_WR_LEN + 1 then 2 else 3) s).set F.TWL_STATUS_NACK_BYTE nack.toNat))) ∧
      (let s1 := raise C.TWL_ARB_LOST (((s.set F.TWL_STATUS_ARB_BYTE byte.toNat).set F.TWL_STATUS_ARB_BIT bit.toNat).bump
         F.TWL_CNT_ARB_VALUE 1)
       let n := s1.get F.TWL_STATUS_RETRIES_USED
       let s2 := s1.set F.TWL_STATUS_RETRIES_USED (n + 1)
       exec (.twlArbLost byte bit) s = .next (settle (if n < s1.get F.TWL_CFG_RETRIES then s2.send (.twl (twlBytes s1))
         else twlBusy (twlResult 4 s1)))) ∧
      exec (.twlTimeout free) s = .next (settle (twlBusClear free (twlResult 5 s)))) ∧
    (writeAdmitted p 0x42008 v s = true →
      (bitOf v 0 = true → s.bus.twlRun = true →
        exec (.twlAbort p v) s = .next (settle (twlBusy (twlResult 7 s)))) ∧
      (bitOf v 1 = true →
        (s.bus.twlRun = false → exec (.twlClear p v free) s = .next (settle (twlClearNew free s))) ∧
        (s.bus.twlRun = true → bitOf v 0 = false →
          exec (.twlClear p v free) s = .next (settle (twlClearNew free (twlResult 7 s)))) ∧
        (s.bus.twlRun = true → bitOf v 0 = true →
          exec (.twlClear p v free) s = .next (settle (twlClearNew free (twlBusy (twlResult 7 s))))))) ∧
    (s.bus.twlCycle = true →
      let s1 := { s with bus := { s.bus with twlCycle := false, twlCycled := !free } }
      exec (.twlPwrCycleEnd free) s = .next (settle (twlBusy (if free then s1.setB F.TWL_STATUS_STUCK false else s1))))

/-- Records are written one at a time, read, counted and cleared. Derived from R491, R570, R576, R577, R579, R580. -/
def Obligations.RecorderCommandsComplete : Prop :=
  ∀ (c : Ctx) (first : Word) (count mask : BitVec 8) (x : Clear) (s : State),
    (s.evr.clear = none → s.flag F.EVR_STATUS_READY = true → s.flag F.FEED_STATUS_PF_WARN = false →
      exec .recordWrite s = .next (settle (writeOne (s.tick tkRecord 125000)))) ∧
    (Safety.Admitted c 0x0900 s → s.flag F.EVR_STATUS_READY = true → 1 ≤ count.toNat → count.toNat ≤ 15 →
      s.evr.clear = none →
      exec (.evrRead c first count) s = .next (settle (answerRead c first.toNat count.toNat (noteAdmit s)))) ∧
    (Safety.Admitted c 0x0901 s → exec (.evrStatus c) s = .next (settle (replyOk c 0x0901
      (u32 (s.get F.EVR_OLDEST_VALUE) ++ u32 (s.get F.EVR_NEWEST_VALUE) ++
        u32 (s.evr.safety.length + s.evr.general.length) ++
        ((List.range 5).map (fun i => u32 (s.get (F.EVR_DROP_VALUE i)))).flatten) (noteAdmit s)))) ∧
    (Safety.Admitted c 0x0902 s → mask.toNat % 16 ≠ 0 → s.evr.clear = none →
      exec (.evrClear c mask) s = .next (settle ({ noteAdmit s with evr := { s.evr with
        clear := some ⟨mask.toNat, s.evr.newest, c, []⟩ } }.setB F.EVR_STATUS_CLEAR_BUSY true))) ∧
    (s.evr.clear = some x → exec .evrClearDone s = .next (settle (clearDone s)))

/-- Image transfers, verification, confirmation and relaying have their effects. Derived from R588, R590, R591,
R593, R594, R595, R596, R614. -/
def Obligations.FirmwareTransferCommandsComplete : Prop :=
  ∀ (c : Ctx) (typ port hops hop left : BitVec 8) (size off id : Word) (data bytes : List Byte) (x : Xfer) (t : Nat)
      (err : Bool) (p : EthPort) (tx : RelayTx) (e : RelayPkt) (seq : BitVec 16) (s : State),
    (Safety.Admitted c 0x0A00 s → 1 ≤ typ.toNat → typ.toNat ≤ 3 → 257 ≤ size.toNat → size.toNat ≤ imageLimit typ.toNat →
      typeTakes c typ.toNat (noteAdmit s) = true → s.fwu.xfer = none → s.fwu.ho = none → s.fwu.pln = none →
      s.flag F.FWU_STATUS_UNCONFIRMED = false → exec (.fwBegin c typ size) s =
        .next (settle (relayBegun c (replyOk c 0x0A00 [] (beginXfer c typ.toNat size.toNat (noteAdmit s)))))) ∧
    (s.fwu.xfer = some x →
      (Safety.Admitted c 0x0A01 s → 1 ≤ data.length → data.length ≤ 1020 → ownsXfer c x = true →
        off.toNat = s.get F.FWU_XFER_OFFSET_VALUE → off.toNat + data.length ≤ x.size →
        let b := xferBank (noteAdmit s) x.typ
        let k := getBank (noteAdmit s) b
        let s1 := setBank b { k with bytes := k.bytes ++ data } (noteAdmit s)
        let s2 := { s1 with fwu := { s1.fwu with xfer := some { x with at_ := s1.time } } }
        exec (.fwData c off data) s =
          .next (settle (replyOk c 0x0A01 [] (s2.set F.FWU_XFER_OFFSET_VALUE (off.toNat + data.length))))) ∧
      (Safety.Admitted c 0x0A02 s → ownsXfer c x = true → s.fwu.verify = none →
        exec (.fwVerify c) s = .next (settle ({ replyAccepted c 0x0A02 (noteAdmit s) with
          fwu := { (noteAdmit s).fwu with verify := some c } }.setB F.FWU_STATUS_VERIFY_BUSY true))) ∧
      (let s1 := s.at (x.at_ + 60 * sec)
       exec .transferAbort s = .next (settle (closeXfer (addRec sevWarning 0x10 0x0010
         (u8 x.typ ++ u32 (s1.get F.FWU_XFER_OFFSET_VALUE)) s1))))) ∧
    (s.fwu.verify = some c → exec (.fwVerifyDone err) s = .next (settle (verifyDone c err s))) ∧
    (Safety.Admitted c 0x0A06 s → exec (.fwStatus c) s = .next (settle (replyOk c 0x0A06
      (((List.range 4).map (fun b => u8 (b / 2 + 1) ++ u8 (imgVersion (getBank s b)) ++ u8 (imgArb (getBank s b)) ++
        u8 (s.get (bankValid b)))).flatten ++ u32 (s.get F.FWU_XFER_OFFSET_VALUE)) (noteAdmit s)))) ∧
    (Safety.Admitted c 0x0A05 s → port = 1 ∨ port = 2 → 1 ≤ hops.toNat → hops.toNat ≤ 254 → s.fwu.xfer = none →
      s.flag F.FWU_STATUS_RELAY_BUSY = false → relayTypes (noteAdmit s) ≠ [] →
      let v := (replyAccepted c 0x0A05 (noteAdmit s)).fresh
      let s1 := (v.2.set F.FWU_RELAY_ID_VALUE (v.1 % 2 ^ 32)).set F.FWU_STATUS_HOPS_DONE 0
      linkUp s1 (portOf port.toNat) = true → exec (.fwRelay c port hops) s = .next (settle (relayStart (some c)
        (portOf port.toNat) 1 (hops.toNat - 1) (v.1 % 2 ^ 32) (relayTypes s1) s1))) ∧
    (s.fwu.confirmAt = some t → s.flag F.FWU_STATUS_UNCONFIRMED = true → s.fwu.failed = false →
      exec .fwConfirm s = .next (settle (confirmImage 1 (({ s.at t with fwu := { s.fwu with confirmAt := none } }.setB
        F.FWU_STATUS_UNCONFIRMED false).set F.FWU_CONFIRM_S_VALUE 0)))) ∧
    (s.fwu.tx = some tx → hostPowered s = true →
      (tx.port = p → tx.id = id.toNat → isReply bytes = true →
        exec (.relayFrame p hop left id bytes) s = .next (settle (relayReply tx bytes s))) ∧
      (tx.ctx.isSome = true → tx.port = p → tx.id = id.toNat →
        exec (.relayProgress p id bytes) s = .next (settle (originProgress tx bytes s))) ∧
      (tx.flight.find? (fun e => e.seq == seq.toNat) = some e → e.tries < 3 →
        let s1 := s.at (e.at_ + 2 * sec)
        let again (y : RelayPkt) : RelayPkt := if y.seq = e.seq then { y with tries := y.tries + 1, at_ := s1.time } else y
        let s2 := { s1 with fwu := { s1.fwu with tx := some { tx with flight := tx.flight.map again } } }
        exec (.relayResend seq) s = .next (settle (s2.send (.relay tx.port 1 tx.hop tx.left tx.id e.bytes)))))

/-- Hand-over and PLN activation run through their phases, and RECOVERY is left. Derived from R593, R597, R598, R600,
R601, R602, R603, R604, R607. -/
def Obligations.ActivationCommandsComplete : Prop :=
  ∀ (c : Ctx) (h : Handover) (t : Nat) (v : RingView) (b : BootPins) (s : State),
    (Safety.Admitted c 0x0A03 s →
      let s1 := replyAccepted c 0x0A03 (noteAdmit s)
      (handoverOk (noteAdmit s) = true → exec (.fwActivateSup c) s = .next (settle
        ({ s1 with fwu := { s1.fwu with ho := some { ctx := c } } }.set F.FWU_STATUS_HO_STATE 1))) ∧
      (handoverOk (noteAdmit s) = false → exec (.fwActivateSup c) s = .next (settle
        (notifyOpt (some c) 0x0A03 0 (u8 1) (s1.set F.FWU_LAST_HO_RES 1))))) ∧
    (s.fwu.ho = some h →
      (h.m1 = some t → s.get F.FWU_STATUS_HO_STATE = 1 →
        exec (.handoverReady true) s = .next (settle (s.set F.FWU_STATUS_HO_STATE 2)) ∧
        exec (.handoverReady false) s = .next (settle (handoverEnd 2 s)) ∧
        exec .handoverReadyTimeout s = .next (settle (handoverEnd 3 (s.at (t + 20 * sec))))) ∧
      (h.mk_ = some t → s.get F.FWU_STATUS_HO_STATE = 3 →
        exec (.handoverDone 0) s = .next (settle (takeOver t s)) ∧
        exec (.handoverDone 4) s = .next (settle (handoverEnd 4 s)) ∧
        exec (.handoverDone 7) s = .next (settle (supLost 3 s)) ∧
        (2 ≤ h.misses → exec (.handoverDone 5) s = .next (settle (handoverEnd 5 s))) ∧
        (h.misses < 2 → exec (.handoverDone 5) s = .next (settle ({ s with fwu := { s.fwu with
          ho := some { h with mk_ := none, misses := h.misses + 1 } } }.set F.FWU_STATUS_HO_STATE 2))))) ∧
    (Safety.Admitted c 0x0A04 s →
      let s1 := replyAccepted c 0x0A04 (noteAdmit s)
      (s.fwu.pln ≠ none → exec (.fwActivatePln c) s = .next (settle (replyBusy c 0x0A04 100 (noteAdmit s)))) ∧
      (s.fwu.pln = none → s.st = stRecovery → exec (.fwActivatePln c) s = .next (settle
        (exitStart (plnResult c 0 (s1.set F.FWU_BANKS_ACT_PLN (idleBank s1 2 % 2)))))) ∧
      (s.fwu.pln = none → s.st ≠ stRecovery → plnOk (noteAdmit s) = false →
        exec (.fwActivatePln c) s = .next (settle (plnResult c 1 s1))) ∧
      (s.fwu.pln = none → s.st ≠ stRecovery → plnOk (noteAdmit s) = true →
        let s2 := eisAbandon 0x4 (balHalt s1)
        let s3 := lanesReady false ({ s2 with fwu := { s2.fwu with pln := some (c, s2.time) } }.setB
          F.FWU_STATUS_PLN_PAUSE true)
        exec (.fwActivatePln c) s = .next (settle ((s3.set F.CVL_STATUS_MODE 0).set F.CVL_STATUS_GEN 0)))) ∧
    (s.fwu.pln = some (c, t) →
      let n := imgVersion (getBank s (idleBank s 2))
      let x := { s with fwu := { s.fwu with pln := none } }
      exec (.plnActivationDone 0 v) s = .next (settle (
        let y := plnBack v x
        let z := packRevShow (confirmImage 2 (y.set F.FWU_BANKS_ACT_PLN (idleBank y 2 % 2)))
        plnResult c 0 (plnRecord c 0 n (z.setB F.SYS_RESET_CAUSE_PLN_ACT true)))) ∧
      exec (.plnActivationDone 2 v) s = .next (settle (plnResult c 2 (plnRecord c 2 n (plnBack v x)))) ∧
      exec (.plnActivationDone 3 v) s =
        .next (settle (plnLost (plnRecord c 3 n (x.set F.FWU_LAST_PLN_RES 3)))) ∧
      (s.flag F.FWU_STATUS_PLN_PAUSE = true →
        let s1 := s.at (t + sec)
        exec .plnHeartbeatTimeout s = .next (settle (sei 0x0D { s1 with safe := { s1.safe with spBeat := false } })))) ∧
    (s.fwu.exitAt = some t → s.st = stRecovery →
      exec (.recoveryExitTimeout b) s = .next (settle (recoveryExit b (s.at t))))

/-- Feeds come and go, changeovers are confirmed or fail, swap tests run and the store is watched. Derived from R56,
R620, R621, R622, R623, R624, R625, R626, R627, R629, R632. Which result of a swap test's dwell goes first is the model's
choice (log entry 167). -/
def Obligations.FeedCommandsComplete : Prop :=
  ∀ (f : Feed) (p : Path) (both il : Bool) (mv vmin iin : BitVec 16) (b : BootPins) (x : Changeover) (y : SwapTest)
      (t : Nat) (s : State),
    (s.sys.powered = false →
      exec (.feedPresent f both il mv b) s = .next (settle (powerOn f both il (feedMv s f mv) b s))) ∧
    (s.sys.powered = true → s.st ≠ stShip →
      exec (.feedPresent f both il mv b) s = .next (settle (feedUp f il (feedMv s f mv) s)) ∧
      (s.flag (feedPresent f) = true →
        let s1 := causeRec (match f with | .a => C.FEED_A_LOST | .b => C.FEED_B_LOST) sevWarning []
          (markAbsent f (feedMv s f mv) s)
        (s.pwr.chg = none → s.pwr.swap = none → exec (.feedAbsent f il mv) s =
          .next (settle (if activeFeed s1 = some f then forceChg f il 0 s1 else s1))) ∧
        (s.pwr.chg = none → s.pwr.swap = some y → exec (.feedAbsent f il mv) s = .next (settle
          (if activeFeed s1 = some f then
            let z := { y with res := if y.res = 6 then 6 else 3, vmin := min y.vmin (feedMv s f mv) }
            forceChg f il 2 { s1 with pwr := { s1.pwr with swap := some z } }
          else if y.orig = f then { s1 with pwr := { s1.pwr with swap := some { y with res := 6 } } } else s1))) ∧
        (s.pwr.chg = some x → s.pwr.swap = none → exec (.feedAbsent f il mv) s = .next (settle s1)) ∧
        (s.pwr.chg = some x → s.pwr.swap = some y → exec (.feedAbsent f il mv) s = .next (settle
          (if x.use = 1 ∧ y.orig = f then { s1 with pwr := { s1.pwr with swap := some { y with res := 6 } } }
          else s1)))) ∧
      (s.flag F.FEED_STATUS_PF_WARN = true → exec .brownOut s = .next (settle (powerReset true s))) ∧
      (s.pwr.chg = some x → s.flag (feedPresent x.dest) = true →
        let s1 := causeRec C.CHANGEOVER (if x.forced then sevWarning else sevNotice) []
          ((closeFeed x.dest (endChg s)).bump F.FEED_CHG_CNT_VALUE 1)
        (s.pwr.swap = none → exec .changeoverConfirm s = .next (settle s1)) ∧
        (s.pwr.swap = some y → x.use ≠ 1 → exec .changeoverConfirm s = .next (settle (swapEnd y.res s1))) ∧
        (s.pwr.swap = some y → x.use = 1 → exec .changeoverConfirm s = .next (settle { s1 with pwr := { s1.pwr with
          swap := some { y with endAt := some (s1.time + feedCfg s1 F.FEED_CFG_SWAP_DWELL * sec) } } }))) ∧
      exec (.storeOk mv) s = .next (settle (
        let n := min 65535 (calNat s 30 mv.toNat)
        let low := if 39000 ≤ n ∨ activeFeed s = none then none
          else if s.flag F.FEED_STATUS_STORE_OK then some s.time else s.pwr.storeLow
        (({ s with pwr := { s.pwr with storeLow := low } }).set F.FEED_STORE_VALUE n).setB F.FEED_STATUS_STORE_OK
          (decide (39000 ≤ n)))) ∧
      exec (.railFault true) s = .next (settle (raise C.RAIL_FAULT s)) ∧
      (s.pwr.storeLow = some t → exec (.railFault false) s = .next (settle (causeRec C.RAIL_FAULT sevFault []
        { s.at (t + 5 * sec) with pwr := { s.pwr with storeLow := none } }))) ∧
      (let newer : Option Feed := match s.pwr.chg with
         | some x => some x.dest
         | none => (activeFeed s).map otherFeed
       exec (.feedIlFault true) s = .next (settle (raise C.FEED_IL_FAULT
         (match newer with | some g => s.setB (feedSwitch g) false | none => s)))) ∧
      (s.flag F.FEED_STATUS_IL_DRIVE = true → exec (.feedIlFault false) s =
        .next (settle (causeRec C.FEED_IL_FAULT sevFault [] (s.setB F.FEED_STATUS_IL_LEVEL true)))) ∧
      (activeFeed s = some f → feedCfg s F.FEED_CFG_DUAL = 1 → s.flag (feedPresent (otherFeed f)) = false →
        s.pwr.standbyArmed = true →
        let s1 := s.at (feedGone s (otherFeed f) + 100 * ms)
        exec .standbyAbsent s = .next (settle (causeRec C.STANDBY_ABSENT sevWarning []
          { s1 with pwr := { s1.pwr with standbyArmed := false } }))) ∧
      (feedSince s (prefFeed s) = some t → feedCfg s F.FEED_CFG_AUTO_RET = 1 →
        activeFeed s = some (otherFeed (prefFeed s)) → feedIdle s = true →
        let s1 := checkIl il (s.at (t + 60 * sec))
        exec (.autoReturn il) s = .next (settle (if il then startChg (prefFeed s) false 0 s1 else s1)))) ∧
    (s.pwr.chg = some x →
      let s1 := (endChg (s.at (x.at_ + ms))).setB (feedSwitch x.dest) false
      (x.forced = true ∨ s1.flag (feedPresent (otherFeed x.dest)) = false →
        exec .changeoverTimeout s = .next (settle (pfWarn s1))) ∧
      (x.forced = false → s1.flag (feedPresent (otherFeed x.dest)) = true →
        let s2 := addRec sevWarning 0x02 C.CHANGEOVER.b [] (closeFeed (otherFeed x.dest) s1)
        (s.pwr.swap = none → exec .changeoverTimeout s = .next (settle s2)) ∧
        (s.pwr.swap = some y → exec .changeoverTimeout s =
          .next (settle (swapEnd (if x.use = 1 then 2 else y.res) s2))))) ∧
    (writeAdmitted p 0x300C 1 s = true → exec (.feedGoA p il) s =
      .next (settle (feedGo .a (Path.origin p) (noteIl il s)).1)) ∧
    (writeAdmitted p 0x300C 2 s = true → exec (.feedGoB p il) s =
      .next (settle (feedGo .b (Path.origin p) (noteIl il s)).1)) ∧
    (writeAdmitted p 0x300C 4 s = true → exec (.swapTest p il) s = .next (settle (swapStart (noteIl il s)))) ∧
    (supActs s = true → s.get F.FEED_SWAP_CFG_PERIOD ≠ 0 →
      s.pwr.swapAt + s.get F.FEED_SWAP_CFG_PERIOD * 86400 ≤ s.sys.opSec → (∀ r ∈ s.pwr.retryAt, r ≤ s.sys.opSec) →
      let s1 := swapStart (noteIl il s)
      exec (.swapTestPeriodic il) s = .next (settle (if s1.pwr.swap.isSome then s1
        else { s1 with pwr := { s1.pwr with retryAt := some (s1.sys.opSec + 3600) } }))) ∧
    (s.pwr.swap = some y → s.pwr.chg = none → y.endAt = some t →
      let i := min 65535 (calNat s 29 iin.toNat)
      let s1 := inputReading i (s.at t)
      let low := min y.vmin (feedMv s1 (otherFeed y.orig) vmin)
      let res := if y.res = 6 then 6 else if i < 100 then 2 else if low < 18000 then 4 else 1
      let s2 := checkIl il { s1 with pwr := { s1.pwr with swap := some { y with vmin := low, res := res } } }
      exec (.swapDwellEnd vmin iin il) s =
        .next (settle (if res = 6 ∨ (!il) = true then swapEnd res s2 else startChg y.orig false 2 s2)))

/-- ISOLATED is left by RST_LOCAL exactly when every demand cause is clear, and otherwise every latch stays set.
Derived from R46, R418. -/
def Obligations.IsolationEndsOnlyWithCausesClear : Prop :=
  ∀ s : State, s.st = stIsolated → latched s = true → ∃ t, exec .rstLocalPulse s = .next t ∧
    (s.flag F.CVL_WADI_TONE = true → causesClear s = true → t.st = stStandby ∧
      t.flag F.SAFE_STATUS_SP_LATCH = false ∧ t.flag F.SAFE_STATUS_ZSL_LATCH = false ∧
      t.flag F.SAFE_STATUS_AUX_OC_LATCH = false) ∧
    (s.flag F.CVL_WADI_TONE = false ∨ causesClear s = false → t.st = stIsolated ∧ latched t = true)

/-- Safe Energy Isolation opens every coil through both switches, opens the loop, latches both channels and
isolates. Derived from R386, R390. -/
def Obligations.EnergyIsolationIsComplete : Prop :=
  ∀ (code : Nat) (s : State), code < 256 → s.awake = true → latched s = false →
    let t := settle (sei code s)
    t.st = stIsolated ∧ latched t = true ∧
      (∀ c, c < 3 → t.flag (konCmd c) = false ∧ t.flag (konHs c) = false ∧ t.flag (konLs c) = false) ∧
      t.flag F.CTL_STATUS_CLOSED = false ∧ t.flag F.CTL_STATUS_PWM_EN = false ∧
      t.flag F.SAFE_STATUS_SAFE_OK = false ∧ t.safe.scs = none ∧
      bitOf (t.word (F.INT_CAUSE_CAUSE C.SEI.g).addr) C.SEI.b = true ∧
      (s.safe.scs = none → t.get F.SAFE_STATUS_LAST_CAUSE = code % 2 ^ F.SAFE_STATUS_LAST_CAUSE.n)

/-- An opening coasts the converter, clears every history, abandons a measurement and names its cause. Derived from
R297, R306, R307. -/
def Obligations.LoopOpeningLeavesNothingRunning : Prop :=
  ∀ (code : Nat) (s : State),
    (s.flag F.CTL_STATUS_CLOSED = false → loopOpen code s = s) ∧
    (s.flag F.CTL_STATUS_CLOSED = true → code < 16 →
      let t := loopOpen code s
      t.flag F.CTL_STATUS_CLOSED = false ∧ t.flag F.CTL_STATUS_COASTING = true ∧
        t.get F.CTL_STATUS_OPEN_CAUSE = code ∧
        (∀ x, x < 6 → t.get (F.PWM_PH_DUTY x) = 0 ∧ t.flag (F.PWM_PH_ACTIVE x) = false) ∧
        t.ctl.cur = {} ∧ t.ctl.outer = {} ∧ t.ctl.mem = [] ∧ t.eis.meas = none ∧ t.eis.pulse = none ∧
        bitOf (t.word (F.INT_CAUSE_CAUSE C.LOOP_OPEN.g).addr) C.LOOP_OPEN.b = true ∧
        (∀ a, 0x23000 ≤ a → a < 0x32000 → t.word a = s.word a))

/-- What follows a command changes the derived status words alone (the frame of every completion statement). Derived
from R90, R394, R396, R411, R485, R582. -/
def Obligations.SettlingChangesOnlyDerivedLevels : Prop :=
  ∀ s : State, s.flag F.CTL_STATUS_CLOSED = false →
    (∀ a, a ∉ [F.INT_SUMMARY_GROUP.addr, F.CMD_QUEUE_SESSIONS.addr, F.AUTH_STATUS_AUTH_SESS.addr,
        F.EVR_STATUS_BUF_FILL.addr, F.EVR_HELD_SAFETY.addr, F.SAFE_STATUS_SAFE_OK.addr, (konLs 0).addr,
        F.CTL_STATUS_PWM_EN.addr] → (settle s).word a = s.word a) ∧
    (settle s).time = s.time ∧ (settle s).pending = s.pending ∧ (settle s).shadow = s.shadow ∧
    (settle s).sent = s.sent ∧ (settle s).evr = s.evr ∧ (settle s).cmd = s.cmd ∧ (settle s).ring = s.ring ∧
    (settle s).acq = s.acq ∧ (settle s).est = s.est ∧ (settle s).bal = s.bal ∧ (settle s).ctl = s.ctl ∧
    (settle s).disp = s.disp ∧ (settle s).eis = s.eis ∧ (settle s).thm = s.thm ∧ (settle s).dio = s.dio ∧
    (settle s).net = s.net ∧ (settle s).bus = s.bus ∧ (settle s).fwu = s.fwu ∧ (settle s).pwr = s.pwr

/-- Session requests and plain reads change the conversation with the host and nothing else of the module (their
frame). Derived from R467, R474, R481, R483, R491. -/
def Obligations.ConversationsLeaveTheModule : Prop :=
  ∀ (i : Instr) (c : Ctx) (op : Nat) (s t : State), Safety.rcpRow i = some (c, op) →
    op ∈ [0x0000, 0x0001, 0x0002, 0x0003, 0x0004, 0x0403, 0x0605, 0x0801, 0x0901, 0x0A06, 0x0B00, 0x0B02] →
    s.flag F.CTL_STATUS_CLOSED = false → exec i s = .next t →
    (∀ a, a ∉ [F.INT_SUMMARY_GROUP.addr, F.CMD_QUEUE_SESSIONS.addr, F.AUTH_STATUS_AUTH_SESS.addr,
        F.EVR_STATUS_BUF_FILL.addr, F.EVR_HELD_SAFETY.addr, F.SAFE_STATUS_SAFE_OK.addr, (konLs 0).addr,
        F.CTL_STATUS_PWM_EN.addr, F.CMD_MBOX_READY.addr, (F.INT_CAUSE_CAUSE 1).addr] → t.word a = s.word a) ∧
    t.time = s.time ∧ t.pending = s.pending ∧ t.shadow = s.shadow ∧ t.evr = s.evr ∧ t.ring = s.ring ∧
    t.acq = s.acq ∧ t.eis = s.eis ∧ t.est = s.est ∧ t.bal = s.bal ∧ t.ctl = s.ctl ∧ t.disp = s.disp ∧
    t.thm = s.thm ∧ t.dio = s.dio ∧ t.net = s.net ∧ t.bus = s.bus ∧ t.pwr = s.pwr ∧
    { t.sys with lastAdmit := s.sys.lastAdmit, nirqLow := s.sys.nirqLow } = s.sys ∧
    { t.fwu with exitAt := s.fwu.exitAt } = s.fwu

/-- A record takes a free slot of its partition, else the oldest it may replace, else it is dropped and counted.
Formalises R573. -/
def Obligations.RecordSlotsAreChosenBySeverity : Prop :=
  ∀ (r : Rec) (l : List Rec) (s : State), s.evr.buffer = r :: l → r.sev ≤ 4 →
    let n := seqNext s.evr.newest
    let t := writeOne s
    (r.sev = 4 → t.evr.general = s.evr.general ∧ (n, r) ∈ t.evr.safety ∧
      (s.evr.safety.length < 4096 → t.evr.safety = s.evr.safety ++ [(n, r)]) ∧
      (∀ e m, s.evr.safety = e :: m → 4096 ≤ s.evr.safety.length → t.evr.safety = m ++ [(n, r)])) ∧
    (r.sev < 4 → t.evr.safety = s.evr.safety ∧
      (s.evr.general.length < 61440 → t.evr.general = s.evr.general ++ [(n, r)]) ∧
      (61440 ≤ s.evr.general.length →
        (∀ a x b, s.evr.general = a ++ x :: b → x.2.sev ≤ r.sev → (∀ y ∈ a, r.sev < y.2.sev) →
          t.evr.general = a ++ b ++ [(n, r)]) ∧
        ((∀ y ∈ s.evr.general, r.sev < y.2.sev) → t.evr.general = s.evr.general ∧
          t.get (F.EVR_DROP_VALUE r.sev) = (s.get (F.EVR_DROP_VALUE r.sev) + 1) % 2 ^ 32))) ∧
    ((∀ e ∈ s.evr.safety, e.2.sev = 4) → ∀ e ∈ t.evr.safety, e.2.sev = 4)

/-- A record that meets a full buffer replaces the latest of the lowest severity below its own, or is dropped and
counted. Formalises R571. -/
def Obligations.AFullBufferKeepsTheHigherSeverity : Prop :=
  ∀ (r : Rec) (s : State), s.evr.buffer.length = 256 → r.sev ≤ 4 → (∀ y ∈ s.evr.buffer, y.sev ≤ 4) →
    let t := enterRec r s
    (∀ a x b, s.evr.buffer = a ++ x :: b → x.sev < r.sev → (∀ y ∈ s.evr.buffer, x.sev ≤ y.sev) →
      (∀ y ∈ b, y.sev ≠ x.sev) → t.evr.buffer = a ++ b ++ [r] ∧
        t.get (F.EVR_DROP_VALUE x.sev) = (s.get (F.EVR_DROP_VALUE x.sev) + 1) % 2 ^ 32 ∧
        ∀ k, k ≤ 4 → k ≠ x.sev → t.get (F.EVR_DROP_VALUE k) = s.get (F.EVR_DROP_VALUE k)) ∧
    ((∀ y ∈ s.evr.buffer, r.sev ≤ y.sev) → t.evr.buffer = s.evr.buffer ∧
      t.get (F.EVR_DROP_VALUE r.sev) = (s.get (F.EVR_DROP_VALUE r.sev) + 1) % 2 ^ 32 ∧
      ∀ k, k ≤ 4 → k ≠ r.sev → t.get (F.EVR_DROP_VALUE k) = s.get (F.EVR_DROP_VALUE k))

/-- A new rate leaves network time where it is at the instant of the update; a step sets it to the new time. Derived
from R504, R505. -/
def Obligations.NetworkTimeIsContinuous : Prop :=
  ∀ (rate : Rat) (n : Nat) (s : State), s.time < 2 ^ 64 → n < 2 ^ 64 → networkNs s s.time < 2 ^ 64 →
    (let t := mapReplace (networkNs s s.time) rate s
     networkNs t t.time = networkNs s s.time ∧ t.time = s.time ∧
       t.get64 F.PTP_MAP_RBASE_LO_VALUE F.PTP_MAP_RBASE_HI_VALUE = s.time ∧
       t.get F.PTP_MAP_SEQ_VALUE = (s.get F.PTP_MAP_SEQ_VALUE + 1) % 2 ^ 32) ∧
    (let t := stepTime n s
     networkNs t t.time = n ∧ t.time = s.time)

/-- Setpoints by UDP and CANA, timed application, late and lost setpoints and the end of a limit entry have their
effects. Derived from R337, R338, R339, R340, R343, R345. -/
def Obligations.SetpointCommandsComplete : Prop :=
  ∀ (c : Ctx) (addr : BitVec 32) (port : BitVec 16) (bytes : List Byte) (sp : Setpoint) (t : Nat) (s : State),
    (c.src = .udp addr port → c.v1 = false → rcpOpen c s = true →
      let h := noteHeard s
      (setpointReject 1 bytes s = none → setpointStale 1 bytes s = false →
        exec (.setpoint c bytes) s = .next (settle (setpointAccept 1 bytes h))) ∧
      (setpointReject 1 bytes s = none → setpointStale 1 bytes s = true →
        exec (.setpoint c bytes) s = .next (settle (h.bump F.DISP_SP_STALE_VALUE 1))) ∧
      (∀ code, setpointReject 1 bytes s = some code → exec (.setpoint c bytes) s =
        .next (settle ((h.bump F.DISP_SP_REJ_VALUE 1).set F.DISP_STATUS_REJ_REASON code)))) ∧
    (rcpOpen c s = true → isUdp c.src = false ∨ c.v1 = true →
      exec (.setpoint c bytes) s = .next (settle (reply c 0x0600 stBadOp [] (noteHeard s)))) ∧
    (canOn s .cana = true → (bytes.length ≤ 8 ∨ canFdEn s .cana = true) →
      let f : CanFrame := { len := bytes.length, fdf := decide (8 < bytes.length), brs := false, data := bytes, at_ := s.time }
      let id := ownerWord (s.word F.DISP_CAN_ID_ID.addr)
      let s1 := canIn .cana id.1 id.2 f s
      setpointReject 2 bytes s1 = none → setpointStale 2 bytes s1 = false →
      exec (.setpointCanFrame bytes) s = .next (settle (setpointAccept 2 bytes s1))) ∧
    (s.disp.waiting = some sp → sp.applyAt = some t →
      let at_ := (t + 2499) / 2500 * 2500
      exec .timedSetpointApply s = .next (settle (activate sp ({ s.at at_ with disp := { s.disp with
        waiting := none } }.setB F.DISP_STATUS_PENDING false)))) ∧
    (lossTimer s = true →
      (s.disp.lateSeen = false → exec .setpointLate s = .next (settle (raise C.SETPOINT_LATE ({ s.at (s.disp.lastAccept +
        2 * s.get F.DISP_LOSS_PERIOD * ms + 1) with disp := { s.disp with lateSeen := true } }.setB
          F.DISP_STATUS_LATE true)))) ∧
      (s.disp.lateSeen = true → exec .setpointLate s = .next (settle s)) ∧
      (s.disp.lostSeen = false →
        let s1 := s.at (s.disp.lastAccept + s.get F.DISP_LOSS_T_HOLD * ms)
        let i := requestNow s1
        let s2 := if i = 0 then s1 else pulseCut s1
        let s3 := (causeRec C.SETPOINT_LOSS sevWarning [] ((s2.setB F.DISP_STATUS_LOST true).setB F.DISP_STATUS_PENDING
          false)).setB F.DISP_STATUS_RAMPING true
        exec .setpointLoss s = .next (settle { s3 with disp := { s3.disp with
          waiting := none, incoming := none, baseEth := none, baseCan := none, lossRamp := true, lossReq := i,
          lostSeen := true, rampAt := s3.time } })) ∧
      (s.disp.lostSeen = true → exec .setpointLoss s = .next (settle s))) ∧
    (lossTimer s = false → exec .setpointLate s = .next (settle s) ∧ exec .setpointLoss s = .next (settle s)) ∧
    (s.disp.lastClamp = some t →
      exec .limitEntryEnd s = .next (settle (limitEnd (s.at (t + 100 * ms)))))

/-- Writing, sealing, starting, stepping and ending recipes and reading grades have their effects. Derived from
R346, R347, R348, R350, R351, R352, R353, R361. -/
def Obligations.RecipeCommandsComplete : Prop :=
  ∀ (c : Ctx) (recipe step first count : BitVec 8) (pos : BitVec 16) (limit : BitVec 32) (record : List Byte) (s : State),
    (Safety.Admitted c 0x0601 s → isPlant s = false → running s recipe.toNat = false → recipe.toNat < 16 →
      step.toNat < 64 → record.length = 48 →
      let x := getRecipe s recipe.toNat
      exec (.recipeWrite c recipe step record) s = .next (settle (respond c false 0x0601 0 []
        (setSealed recipe.toNat false (putRecipe recipe.toNat { x with steps := tabSet x.steps step.toNat record }
          (noteAdmit s)))))) ∧
    (Safety.Admitted c 0x0602 s → isPlant s = false → running s recipe.toNat = false → recipe.toNat < 16 →
      1 ≤ count.toNat → count.toNat ≤ 64 → firstFail (noteAdmit s) (getRecipe s recipe.toNat) count.toNat = none →
      let x := getRecipe s recipe.toNat
      let s1 := setSealed recipe.toNat true (putRecipe recipe.toNat { x with
        count := count.toNat, limit := limit.toNat } (noteAdmit s))
      exec (.recipeSeal c recipe count limit) s = .next (settle (respond c false 0x0602 0
        (u8 (Config.freeValue s.free)) { s1 with free := s.free + 1 }))) ∧
    (Safety.Admitted c 0x0603 s → s.flag F.CTL_STATUS_CLOSED = true → recipe.toNat < 16 →
      s.get F.SYS_MODE_PERSONALITY = 2 → s.get F.CTL_CFG_OUTER_MODE = 0 → sealedBit s recipe.toNat = true →
      s.disp.run = none → (hasType (getRecipe s recipe.toNat) 3 = true → fcvBoards s = true) →
      (hasType (getRecipe s recipe.toNat) 5 = true → s.flag F.EIS_STATUS_UNAVAIL = false) →
      first.toNat < (getRecipe s recipe.toNat).count →
      let s1 := (((respond c false 0x0603 stAccepted [] (noteAdmit s)).set F.DISP_RCP_STATUS_RECIPE recipe.toNat).set
        F.DISP_RCP_STATUS_STEP first.toNat).setB F.DISP_RCP_STATUS_RUNNING true
      exec (.recipeStart c recipe first) s = .next (settle { s1 with disp := { s1.disp with run := some {
        recipe := recipe.toNat, step := first.toNat, ctx := c, startAt := s1.time, stepAt := s1.time,
        next := some first.toNat, dueAt := s1.time + 2 * ms } } })) ∧
    (Safety.Admitted c 0x0604 s → isPlant s = false →
      exec (.recipeStop c) s = .next (settle (respond c false 0x0604 0 [] (recipeEnd 3 (noteAdmit s))))) ∧
    (Safety.Admitted c 0x0605 s → ∀ g, s.disp.grades = some g → 1 ≤ count.toNat → count.toNat ≤ 32 →
      pos.toNat + count.toNat ≤ posCount s →
      (c.v1 = true → ((g.drop pos.toNat).take count.toNat).flatten.length ≤ 255) →
      exec (.gradeRead c pos count) s = .next (settle (respond c false 0x0605 0
        ((g.drop pos.toNat).take count.toNat).flatten (noteAdmit s)))) ∧
    (∀ r, s.disp.run = some r →
      (∀ n, r.next = some n →
        exec .recipeStepStart s = .next (settle (stepStart n r (s.at ((min s.time r.dueAt + 2499) / 2500 * 2500))))) ∧
      (r.active = true →
        let b := stepRec (getRecipe s r.recipe) r.step
        let s1 := s.at ((r.stepAt + stTmax b * sec + 2499999) / 2500000 * 2500000)
        let held := if r.stepAt + sec ≤ s1.time then termAction (tickView s1) s1 r b else none
        (∀ a, held = some a → exec .recipeTmaxExpiry s = .next (settle (takeAction a s1))) ∧
        (held = none → r.eisOn = false ∨ s.eis.meas.isSome = true ∨ s.eis.closing.isSome = true →
          exec .recipeTmaxExpiry s = .next (settle (takeAction (stTmaxAct b) s1)))) ∧
      exec .recipeTimeLimit s = .next (settle (recipeEnd 4 (s.at (r.startAt + (getRecipe s r.recipe).limit * sec)))) ∧
      (∀ t, r.toggleAt = some t →
        let b := stepRec (getRecipe s r.recipe) r.step
        exec .pulseStepToggle s = .next (settle (runReq (if r.on then 0 else (stP b 1 : Rat) / 1000)
          { s.at t with disp := { s.disp with run := some { r with on := !r.on, toggleAt := some (t +
            (if r.on then stP b 3 else stP b 2).toNat * ms) } } }))))
end

