-- ==== Sys2Proof/Laws/Regs.lean ====
section
/-!
SUPPORT. Sparse tables, register words and register fields: what a read gives after a write.
-/

namespace Sys2Proof.Laws

open Sys2Proof.Machine

theorem lookup_tabSet_self {α : Type} (t : List (Nat × α)) (k : Nat) (x : α) :
    (tabSet t k x).lookup k = some x := by
  induction t with
  | nil => simp [tabSet]
  | cons e t ih =>
    simp only [tabSet]
    split
    · simp [List.lookup]
    · split
      · simp [List.lookup]
      · rename_i h1 h2
        have : (k == e.1) = false := by simpa using h2
        simp [List.lookup, this, ih]

theorem lookup_tabSet_ne {α : Type} (t : List (Nat × α)) (k j : Nat) (x : α) (h : j ≠ k) :
    (tabSet t k x).lookup j = t.lookup j := by
  have hb : (j == k) = false := by simpa using h
  induction t with
  | nil => simp [tabSet, List.lookup, hb]
  | cons e t ih =>
    simp only [tabSet]
    split
    · simp [List.lookup, hb]
    · split
      · rename_i h1 h2
        subst h2
        simp [List.lookup, hb]
      · simp only [List.lookup, ih]

theorem tabDel_cons {α : Type} (e : Nat × α) (t : List (Nat × α)) (k : Nat) :
    tabDel (e :: t) k = if e.1 = k then tabDel t k else e :: tabDel t k := by
  by_cases h : e.1 = k <;> simp [tabDel, h]

theorem lookup_tabDel_self {α : Type} (t : List (Nat × α)) (k : Nat) : (tabDel t k).lookup k = none := by
  induction t with
  | nil => rfl
  | cons e t ih =>
    rw [tabDel_cons]
    split
    · exact ih
    · rename_i h
      have hb : (k == e.1) = false := by simpa using fun h' => h h'.symm
      simp [List.lookup, hb, ih]

theorem lookup_tabDel_ne {α : Type} (t : List (Nat × α)) (k j : Nat) (h : j ≠ k) :
    (tabDel t k).lookup j = t.lookup j := by
  induction t with
  | nil => rfl
  | cons e t ih =>
    rw [tabDel_cons]
    split
    · rename_i he
      have hb : (j == e.1) = false := by simpa [he] using h
      simp [List.lookup, hb, ih]
    · simp [List.lookup, ih]

theorem rfGet_rfSet (rf : List (Nat × Word)) (a b : Nat) (w : Word) :
    rfGet (rfSet rf a w) b = if b = a then w else rfGet rf b := by
  by_cases hb : b = a
  · subst hb
    simp only [rfGet, rfSet, if_true]
    split
    · rename_i h; simp [lookup_tabDel_self, h]
    · simp [lookup_tabSet_self]
  · simp only [rfGet, rfSet, hb, if_false]
    split
    · rw [lookup_tabDel_ne _ _ _ hb]
    · rw [lookup_tabSet_ne _ _ _ _ hb]

/-- A word reads as it was last written; every other word is unchanged. -/
theorem word_setWord (s : State) (a b : Nat) (w : Word) :
    (s.setWord a w).word b = if b = a then w else s.word b := rfGet_rfSet _ _ _ _

theorem getLsbD_lowMask (n i : Nat) : (lowMask n).getLsbD i = (decide (i < n) && decide (i < 32)) := by
  simp [lowMask, BitVec.getLsbD_ofNat, Nat.testBit_two_pow_sub_one, Bool.and_comm]

theorem getLsbD_withField (w : Word) (lo n v i : Nat) (hi : i < 32) :
    (withField w lo n v).getLsbD i = if lo ≤ i ∧ i < lo + n then v.testBit (i - lo) else w.getLsbD i := by
  simp only [withField, BitVec.getLsbD_or, BitVec.getLsbD_and, BitVec.getLsbD_not, BitVec.getLsbD_shiftLeft,
    getLsbD_lowMask, BitVec.getLsbD_ofNat, hi, decide_true, Bool.true_and]
  by_cases h : lo ≤ i
  · have h1 : ¬ i < lo := by omega
    have h2 : i - lo < 32 := by omega
    by_cases h3 : i < lo + n
    · have h4 : i - lo < n := by omega
      simp [h, h1, h2, h3, h4]
    · have h4 : ¬ i - lo < n := by omega
      simp [h, h1, h3, h4]
  · have h1 : i < lo := by omega
    simp [h, h1]

theorem testBit_fieldOf (w : Word) (lo n i : Nat) :
    (fieldOf w lo n).testBit i = (decide (i < n) && w.getLsbD (lo + i)) := by
  have h : (fieldOf w lo n).testBit i = ((w >>> lo) &&& lowMask n).getLsbD i := rfl
  rw [h, BitVec.getLsbD_and, BitVec.getLsbD_ushiftRight, getLsbD_lowMask]
  by_cases h1 : i < n <;> by_cases h2 : i < 32 <;> simp [h1, h2]
  exact BitVec.getLsbD_of_ge w (lo + i) (by omega)

/-- A field reads as the value written to it. -/
theorem fieldOf_withField_same (w : Word) (lo n v : Nat) (h : lo + n ≤ 32) :
    fieldOf (withField w lo n v) lo n = v % 2 ^ n := by
  apply Nat.eq_of_testBit_eq
  intro i
  rw [testBit_fieldOf, Nat.testBit_mod_two_pow]
  by_cases hi : i < n
  · rw [getLsbD_withField _ _ _ _ _ (by omega)]
    simp [hi]
  · simp [hi]

/-- A field is unchanged by a write to a field beside it. -/
theorem fieldOf_withField_apart (w : Word) (lo n v lo' n' : Nat) (h : lo' + n' ≤ lo ∨ lo + n ≤ lo') :
    fieldOf (withField w lo n v) lo' n' = fieldOf w lo' n' := by
  apply Nat.eq_of_testBit_eq
  intro i
  rw [testBit_fieldOf, testBit_fieldOf]
  by_cases hi : i < n'
  · by_cases h32 : lo' + i < 32
    · rw [getLsbD_withField _ _ _ _ _ h32]
      have : ¬ (lo ≤ lo' + i ∧ lo' + i < lo + n) := by omega
      simp [this]
    · have h1 := BitVec.getLsbD_of_ge w (lo' + i) (by omega)
      have h2 := BitVec.getLsbD_of_ge (withField w lo n v) (lo' + i) (by omega)
      simp [h1, h2]
  · simp [hi]

/-- Two fields do not overlap. -/
def apart (f g : Fld) : Bool := f.addr != g.addr || decide (f.lo + f.n ≤ g.lo) || decide (g.lo + g.n ≤ f.lo)

theorem get_set_same (s : State) (f : Fld) (v : Nat) (h : f.lo + f.n ≤ 32) : (s.set f v).get f = v % 2 ^ f.n := by
  simp only [State.get, State.set, word_setWord, if_true]
  exact fieldOf_withField_same _ _ _ _ h

theorem get_set_apart (s : State) (f g : Fld) (v : Nat) (h : apart f g = true) : (s.set f v).get g = s.get g := by
  simp only [State.get, State.set, word_setWord]
  split
  · rename_i he
    rw [he]
    simp [apart, he] at h
    exact fieldOf_withField_apart _ _ _ _ _ _ (by omega)
  · rfl

theorem flag_setB_same (s : State) (f : Fld) (b : Bool) (h : f.lo + f.n ≤ 32) (hn : 0 < f.n) :
    (s.setB f b).flag f = b := by
  have h2 : 1 < 2 ^ f.n := Nat.one_lt_two_pow (by omega)
  simp only [State.flag, State.setB, get_set_same s f _ h]
  cases b <;> simp [b2n, Nat.mod_eq_of_lt h2]

theorem flag_setB_apart (s : State) (f g : Fld) (b : Bool) (h : apart f g = true) : (s.setB f b).flag g = s.flag g := by
  simp only [State.flag, State.setB, get_set_apart s f g _ h]

theorem flag_set_apart (s : State) (f g : Fld) (v : Nat) (h : apart f g = true) : (s.set f v).flag g = s.flag g := by
  simp only [State.flag, get_set_apart s f g _ h]

theorem word_set_other (s : State) (f : Fld) (v a : Nat) (h : a ≠ f.addr) : (s.set f v).word a = s.word a := by
  simp only [State.set, word_setWord, h, if_false]

end Sys2Proof.Laws
end

