-- ==== Sys2Proof/Laws/State.lean ====
section
/-!
SUPPORT. What each update of State leaves unchanged: one lemma per field and update, all by `rfl`.
-/

namespace Sys2Proof.Laws

open Sys2Proof.Machine

variable (s : State) (a : Nat) (w : Word) (f g : Fld) (v : Nat) (i : Int) (b : Bool) (x : Out)

@[simp] theorem setWord_pending : (s.setWord a w).pending = s.pending := rfl
@[simp] theorem setWord_shadow : (s.setWord a w).shadow = s.shadow := rfl
@[simp] theorem setWord_time : (s.setWord a w).time = s.time := rfl
@[simp] theorem setWord_free : (s.setWord a w).free = s.free := rfl
@[simp] theorem setWord_sent : (s.setWord a w).sent = s.sent := rfl
@[simp] theorem setWord_sys : (s.setWord a w).sys = s.sys := rfl
@[simp] theorem setWord_ring : (s.setWord a w).ring = s.ring := rfl
@[simp] theorem setWord_acq : (s.setWord a w).acq = s.acq := rfl
@[simp] theorem setWord_eis : (s.setWord a w).eis = s.eis := rfl
@[simp] theorem setWord_est : (s.setWord a w).est = s.est := rfl
@[simp] theorem setWord_bal : (s.setWord a w).bal = s.bal := rfl
@[simp] theorem setWord_ctl : (s.setWord a w).ctl = s.ctl := rfl
@[simp] theorem setWord_disp : (s.setWord a w).disp = s.disp := rfl
@[simp] theorem setWord_thm : (s.setWord a w).thm = s.thm := rfl
@[simp] theorem setWord_safe : (s.setWord a w).safe = s.safe := rfl
@[simp] theorem setWord_dio : (s.setWord a w).dio = s.dio := rfl
@[simp] theorem setWord_cmd : (s.setWord a w).cmd = s.cmd := rfl
@[simp] theorem setWord_net : (s.setWord a w).net = s.net := rfl
@[simp] theorem setWord_bus : (s.setWord a w).bus = s.bus := rfl
@[simp] theorem setWord_evr : (s.setWord a w).evr = s.evr := rfl
@[simp] theorem setWord_fwu : (s.setWord a w).fwu = s.fwu := rfl
@[simp] theorem setWord_pwr : (s.setWord a w).pwr = s.pwr := rfl

@[simp] theorem set_pending : (s.set f v).pending = s.pending := rfl
@[simp] theorem set_shadow : (s.set f v).shadow = s.shadow := rfl
@[simp] theorem set_time : (s.set f v).time = s.time := rfl
@[simp] theorem set_free : (s.set f v).free = s.free := rfl
@[simp] theorem set_sent : (s.set f v).sent = s.sent := rfl
@[simp] theorem set_sys : (s.set f v).sys = s.sys := rfl
@[simp] theorem set_ring : (s.set f v).ring = s.ring := rfl
@[simp] theorem set_acq : (s.set f v).acq = s.acq := rfl
@[simp] theorem set_eis : (s.set f v).eis = s.eis := rfl
@[simp] theorem set_est : (s.set f v).est = s.est := rfl
@[simp] theorem set_bal : (s.set f v).bal = s.bal := rfl
@[simp] theorem set_ctl : (s.set f v).ctl = s.ctl := rfl
@[simp] theorem set_disp : (s.set f v).disp = s.disp := rfl
@[simp] theorem set_thm : (s.set f v).thm = s.thm := rfl
@[simp] theorem set_safe : (s.set f v).safe = s.safe := rfl
@[simp] theorem set_dio : (s.set f v).dio = s.dio := rfl
@[simp] theorem set_cmd : (s.set f v).cmd = s.cmd := rfl
@[simp] theorem set_net : (s.set f v).net = s.net := rfl
@[simp] theorem set_bus : (s.set f v).bus = s.bus := rfl
@[simp] theorem set_evr : (s.set f v).evr = s.evr := rfl
@[simp] theorem set_fwu : (s.set f v).fwu = s.fwu := rfl
@[simp] theorem set_pwr : (s.set f v).pwr = s.pwr := rfl

@[simp] theorem setB_pending : (s.setB f b).pending = s.pending := rfl
@[simp] theorem setB_shadow : (s.setB f b).shadow = s.shadow := rfl
@[simp] theorem setB_time : (s.setB f b).time = s.time := rfl
@[simp] theorem setB_free : (s.setB f b).free = s.free := rfl
@[simp] theorem setB_sent : (s.setB f b).sent = s.sent := rfl
@[simp] theorem setB_sys : (s.setB f b).sys = s.sys := rfl
@[simp] theorem setB_ring : (s.setB f b).ring = s.ring := rfl
@[simp] theorem setB_acq : (s.setB f b).acq = s.acq := rfl
@[simp] theorem setB_eis : (s.setB f b).eis = s.eis := rfl
@[simp] theorem setB_est : (s.setB f b).est = s.est := rfl
@[simp] theorem setB_bal : (s.setB f b).bal = s.bal := rfl
@[simp] theorem setB_ctl : (s.setB f b).ctl = s.ctl := rfl
@[simp] theorem setB_disp : (s.setB f b).disp = s.disp := rfl
@[simp] theorem setB_thm : (s.setB f b).thm = s.thm := rfl
@[simp] theorem setB_safe : (s.setB f b).safe = s.safe := rfl
@[simp] theorem setB_dio : (s.setB f b).dio = s.dio := rfl
@[simp] theorem setB_cmd : (s.setB f b).cmd = s.cmd := rfl
@[simp] theorem setB_net : (s.setB f b).net = s.net := rfl
@[simp] theorem setB_bus : (s.setB f b).bus = s.bus := rfl
@[simp] theorem setB_evr : (s.setB f b).evr = s.evr := rfl
@[simp] theorem setB_fwu : (s.setB f b).fwu = s.fwu := rfl
@[simp] theorem setB_pwr : (s.setB f b).pwr = s.pwr := rfl

@[simp] theorem setI_pending : (s.setI f i).pending = s.pending := rfl
@[simp] theorem setI_shadow : (s.setI f i).shadow = s.shadow := rfl
@[simp] theorem setI_time : (s.setI f i).time = s.time := rfl
@[simp] theorem setI_free : (s.setI f i).free = s.free := rfl
@[simp] theorem setI_sent : (s.setI f i).sent = s.sent := rfl
@[simp] theorem setI_sys : (s.setI f i).sys = s.sys := rfl
@[simp] theorem setI_ring : (s.setI f i).ring = s.ring := rfl
@[simp] theorem setI_acq : (s.setI f i).acq = s.acq := rfl
@[simp] theorem setI_eis : (s.setI f i).eis = s.eis := rfl
@[simp] theorem setI_est : (s.setI f i).est = s.est := rfl
@[simp] theorem setI_bal : (s.setI f i).bal = s.bal := rfl
@[simp] theorem setI_ctl : (s.setI f i).ctl = s.ctl := rfl
@[simp] theorem setI_disp : (s.setI f i).disp = s.disp := rfl
@[simp] theorem setI_thm : (s.setI f i).thm = s.thm := rfl
@[simp] theorem setI_safe : (s.setI f i).safe = s.safe := rfl
@[simp] theorem setI_dio : (s.setI f i).dio = s.dio := rfl
@[simp] theorem setI_cmd : (s.setI f i).cmd = s.cmd := rfl
@[simp] theorem setI_net : (s.setI f i).net = s.net := rfl
@[simp] theorem setI_bus : (s.setI f i).bus = s.bus := rfl
@[simp] theorem setI_evr : (s.setI f i).evr = s.evr := rfl
@[simp] theorem setI_fwu : (s.setI f i).fwu = s.fwu := rfl
@[simp] theorem setI_pwr : (s.setI f i).pwr = s.pwr := rfl

@[simp] theorem bump_pending : (s.bump f v).pending = s.pending := rfl
@[simp] theorem bump_shadow : (s.bump f v).shadow = s.shadow := rfl
@[simp] theorem bump_time : (s.bump f v).time = s.time := rfl
@[simp] theorem bump_free : (s.bump f v).free = s.free := rfl
@[simp] theorem bump_sent : (s.bump f v).sent = s.sent := rfl
@[simp] theorem bump_sys : (s.bump f v).sys = s.sys := rfl
@[simp] theorem bump_ring : (s.bump f v).ring = s.ring := rfl
@[simp] theorem bump_acq : (s.bump f v).acq = s.acq := rfl
@[simp] theorem bump_eis : (s.bump f v).eis = s.eis := rfl
@[simp] theorem bump_est : (s.bump f v).est = s.est := rfl
@[simp] theorem bump_bal : (s.bump f v).bal = s.bal := rfl
@[simp] theorem bump_ctl : (s.bump f v).ctl = s.ctl := rfl
@[simp] theorem bump_disp : (s.bump f v).disp = s.disp := rfl
@[simp] theorem bump_thm : (s.bump f v).thm = s.thm := rfl
@[simp] theorem bump_safe : (s.bump f v).safe = s.safe := rfl
@[simp] theorem bump_dio : (s.bump f v).dio = s.dio := rfl
@[simp] theorem bump_cmd : (s.bump f v).cmd = s.cmd := rfl
@[simp] theorem bump_net : (s.bump f v).net = s.net := rfl
@[simp] theorem bump_bus : (s.bump f v).bus = s.bus := rfl
@[simp] theorem bump_evr : (s.bump f v).evr = s.evr := rfl
@[simp] theorem bump_fwu : (s.bump f v).fwu = s.fwu := rfl
@[simp] theorem bump_pwr : (s.bump f v).pwr = s.pwr := rfl

@[simp] theorem set64_pending : (s.set64 f g v).pending = s.pending := rfl
@[simp] theorem set64_shadow : (s.set64 f g v).shadow = s.shadow := rfl
@[simp] theorem set64_time : (s.set64 f g v).time = s.time := rfl
@[simp] theorem set64_free : (s.set64 f g v).free = s.free := rfl
@[simp] theorem set64_sent : (s.set64 f g v).sent = s.sent := rfl
@[simp] theorem set64_sys : (s.set64 f g v).sys = s.sys := rfl
@[simp] theorem set64_ring : (s.set64 f g v).ring = s.ring := rfl
@[simp] theorem set64_acq : (s.set64 f g v).acq = s.acq := rfl
@[simp] theorem set64_eis : (s.set64 f g v).eis = s.eis := rfl
@[simp] theorem set64_est : (s.set64 f g v).est = s.est := rfl
@[simp] theorem set64_bal : (s.set64 f g v).bal = s.bal := rfl
@[simp] theorem set64_ctl : (s.set64 f g v).ctl = s.ctl := rfl
@[simp] theorem set64_disp : (s.set64 f g v).disp = s.disp := rfl
@[simp] theorem set64_thm : (s.set64 f g v).thm = s.thm := rfl
@[simp] theorem set64_safe : (s.set64 f g v).safe = s.safe := rfl
@[simp] theorem set64_dio : (s.set64 f g v).dio = s.dio := rfl
@[simp] theorem set64_cmd : (s.set64 f g v).cmd = s.cmd := rfl
@[simp] theorem set64_net : (s.set64 f g v).net = s.net := rfl
@[simp] theorem set64_bus : (s.set64 f g v).bus = s.bus := rfl
@[simp] theorem set64_evr : (s.set64 f g v).evr = s.evr := rfl
@[simp] theorem set64_fwu : (s.set64 f g v).fwu = s.fwu := rfl
@[simp] theorem set64_pwr : (s.set64 f g v).pwr = s.pwr := rfl

@[simp] theorem at_pending : (s.at v).pending = s.pending := rfl
@[simp] theorem at_regs : (s.at v).regs = s.regs := rfl
@[simp] theorem at_shadow : (s.at v).shadow = s.shadow := rfl
@[simp] theorem at_free : (s.at v).free = s.free := rfl
@[simp] theorem at_sent : (s.at v).sent = s.sent := rfl
@[simp] theorem at_sys : (s.at v).sys = s.sys := rfl
@[simp] theorem at_ring : (s.at v).ring = s.ring := rfl
@[simp] theorem at_acq : (s.at v).acq = s.acq := rfl
@[simp] theorem at_eis : (s.at v).eis = s.eis := rfl
@[simp] theorem at_est : (s.at v).est = s.est := rfl
@[simp] theorem at_bal : (s.at v).bal = s.bal := rfl
@[simp] theorem at_ctl : (s.at v).ctl = s.ctl := rfl
@[simp] theorem at_disp : (s.at v).disp = s.disp := rfl
@[simp] theorem at_thm : (s.at v).thm = s.thm := rfl
@[simp] theorem at_safe : (s.at v).safe = s.safe := rfl
@[simp] theorem at_dio : (s.at v).dio = s.dio := rfl
@[simp] theorem at_cmd : (s.at v).cmd = s.cmd := rfl
@[simp] theorem at_net : (s.at v).net = s.net := rfl
@[simp] theorem at_bus : (s.at v).bus = s.bus := rfl
@[simp] theorem at_evr : (s.at v).evr = s.evr := rfl
@[simp] theorem at_fwu : (s.at v).fwu = s.fwu := rfl
@[simp] theorem at_pwr : (s.at v).pwr = s.pwr := rfl

@[simp] theorem send_pending : (s.send x).pending = s.pending := rfl
@[simp] theorem send_regs : (s.send x).regs = s.regs := rfl
@[simp] theorem send_shadow : (s.send x).shadow = s.shadow := rfl
@[simp] theorem send_time : (s.send x).time = s.time := rfl
@[simp] theorem send_free : (s.send x).free = s.free := rfl
@[simp] theorem send_sys : (s.send x).sys = s.sys := rfl
@[simp] theorem send_ring : (s.send x).ring = s.ring := rfl
@[simp] theorem send_acq : (s.send x).acq = s.acq := rfl
@[simp] theorem send_eis : (s.send x).eis = s.eis := rfl
@[simp] theorem send_est : (s.send x).est = s.est := rfl
@[simp] theorem send_bal : (s.send x).bal = s.bal := rfl
@[simp] theorem send_ctl : (s.send x).ctl = s.ctl := rfl
@[simp] theorem send_disp : (s.send x).disp = s.disp := rfl
@[simp] theorem send_thm : (s.send x).thm = s.thm := rfl
@[simp] theorem send_safe : (s.send x).safe = s.safe := rfl
@[simp] theorem send_dio : (s.send x).dio = s.dio := rfl
@[simp] theorem send_cmd : (s.send x).cmd = s.cmd := rfl
@[simp] theorem send_net : (s.send x).net = s.net := rfl
@[simp] theorem send_bus : (s.send x).bus = s.bus := rfl
@[simp] theorem send_evr : (s.send x).evr = s.evr := rfl
@[simp] theorem send_fwu : (s.send x).fwu = s.fwu := rfl
@[simp] theorem send_pwr : (s.send x).pwr = s.pwr := rfl

@[simp] theorem at_time : (s.at v).time = max s.time v := rfl
@[simp] theorem send_sent : (s.send x).sent = x :: s.sent := rfl
@[simp] theorem at_word : (s.at v).word a = s.word a := rfl
@[simp] theorem send_word : (s.send x).word a = s.word a := rfl

end Sys2Proof.Laws
end

