-- ==== Sys2Proof/Laws/Frames.lean ====
section
/-!
SUPPORT. What the shared operations leave unchanged: the parts of State, and the register words block by block.
-/

namespace Sys2Proof.Laws

open Sys2Proof.Machine

/-! ## Parts of State -/

/-- The parts of State that replies, causes, records and the opening of the loop leave alone. -/
def outer (s : State) :=
  (s.pending, s.shadow, s.time, s.free, s.sys, s.ring, s.acq, s.est, s.bal, s.thm, s.safe, s.dio, s.net, s.bus,
    s.fwu, s.pwr)

@[simp] theorem outer_setWord (s : State) (a : Nat) (w : Word) : outer (s.setWord a w) = outer s := rfl
@[simp] theorem outer_set (s : State) (f : Fld) (v : Nat) : outer (s.set f v) = outer s := rfl
@[simp] theorem outer_setB (s : State) (f : Fld) (b : Bool) : outer (s.setB f b) = outer s := rfl
@[simp] theorem outer_bump (s : State) (f : Fld) (v : Nat) : outer (s.bump f v) = outer s := rfl
@[simp] theorem outer_send (s : State) (x : Out) : outer (s.send x) = outer s := rfl
@[simp] theorem outer_raise (c : Cause) (s : State) : outer (raise c s) = outer s := rfl

@[simp] theorem outer_countDrop (n : Nat) (s : State) : outer (countDrop n s) = outer s := by
  simp only [countDrop]
  split <;> rfl

@[simp] theorem outer_enterRec (r : Rec) (s : State) : outer (enterRec r s) = outer s := by
  simp only [enterRec]
  split
  · rfl
  · split
    · rw [outer_countDrop]; rfl
    · exact outer_countDrop _ _

@[simp] theorem outer_addRec (a b c : Nat) (p : List Byte) (s : State) : outer (addRec a b c p s) = outer s :=
  outer_enterRec _ _

@[simp] theorem outer_causeRec (c : Cause) (n : Nat) (p : List Byte) (s : State) :
    outer (causeRec c n p s) = outer s := by
  simp [causeRec]

@[simp] theorem outer_mboxFill (p : List Byte) (s : State) : outer (mboxFill p s) = outer s := rfl

@[simp] theorem outer_mboxReply (p : List Byte) (s : State) : outer (mboxReply p s) = outer s := by
  simp only [mboxReply]
  split <;> rfl

@[simp] theorem outer_mboxNotify (p : List Byte) (s : State) : outer (mboxNotify p s) = outer s := by
  simp only [mboxNotify]
  repeat' split
  all_goals rfl

@[simp] theorem outer_transmit (c : Ctx) (n : Bool) (p : List Byte) (s : State) :
    outer (transmit c n p s) = outer s := by
  simp only [transmit]
  repeat' split
  all_goals first | rfl | simp

@[simp] theorem outer_putChan (x : Chan) (s : State) : outer (putChan x s) = outer s := rfl
@[simp] theorem outer_refuse (c : Ctx) (op : Nat) (p : List Byte) (s : State) : outer (refuse c op p s) = outer s := rfl

@[simp] theorem outer_keepReply (c : Ctx) (st : Nat) (n : Bool) (p : List Byte) (s : State) :
    outer (keepReply c st n p s) = outer s := by
  simp only [keepReply]
  repeat' split
  all_goals rfl

@[simp] theorem outer_freeSlot (c : Ctx) (s : State) : outer (freeSlot c s) = outer s := by
  simp only [freeSlot]
  split <;> rfl

@[simp] theorem outer_discardReply (c : Ctx) (n : Bool) (s : State) : outer (discardReply c n s) = outer s := by
  simp only [discardReply]
  split <;> rfl

@[simp] theorem outer_respond (c : Ctx) (n : Bool) (op st : Nat) (p : List Byte) (s : State) :
    outer (respond c n op st p s) = outer s := by
  simp only [respond]
  repeat' split
  all_goals simp

@[simp] theorem outer_notifyOpt (c : Option Ctx) (op st : Nat) (p : List Byte) (s : State) :
    outer (notifyOpt c op st p s) = outer s := by
  cases c <;> simp [notifyOpt]

/-- A fold of steps that keep a quantity keeps it. -/
theorem foldl_keeps {α β : Type} (g : State → β) (f : State → α → State) (h : ∀ s x, g (f s x) = g s) (l : List α)
    (s : State) : g (l.foldl f s) = g s := by
  induction l generalizing s with
  | nil => rfl
  | cons x l ih => rw [List.foldl_cons, ih, h]

@[simp] theorem outer_eisLanes (b : Bool) (s : State) : outer (eisLanes b s) = outer s :=
  foldl_keeps _ _ (fun _ _ => by simp) _ _

@[simp] theorem outer_eisAbandon (n : Nat) (s : State) : outer (eisAbandon n s) = outer s := by
  simp only [eisAbandon]
  split
  · rfl
  · have h (b : Bool) (s : State) : outer (if b then s.bump F.EIS_INC_CNT_VALUE 1 else s) = outer s := by cases b <;> rfl
    simp only [outer_notifyOpt, outer_addRec, outer_raise, outer_set, h, outer_eisLanes]; rfl

@[simp] theorem outer_pulseStop (s : State) : outer (pulseStop s) = outer s := by
  simp only [pulseStop]
  split
  · rfl
  · simp only [outer_notifyOpt, outer_set]; rfl

@[simp] theorem outer_releasePolicy (r : Run) (s : State) : outer (releasePolicy r s) = outer s := by
  simp only [releasePolicy]
  split <;> rfl

@[simp] theorem outer_pulseCut (s : State) : outer (pulseCut s) = outer s := by
  simp only [pulseCut]
  split
  · split
    · rw [outer_pulseStop]; rfl
    · rfl
  · rfl

@[simp] theorem outer_stepEnd (b : Bool) (r : Run) (s : State) : outer (stepEnd b r s).2 = outer s := by
  simp only [stepEnd]
  split
  · dsimp only
    rw [outer_releasePolicy]
    split <;> simp
  · rfl

@[simp] theorem outer_publishGrades (n : Nat) (s : State) : outer (publishGrades n s) = outer s := rfl

@[simp] theorem outer_recipeEnd (n : Nat) (s : State) : outer (recipeEnd n s) = outer s := by
  simp only [recipeEnd]
  split
  · rfl
  · rename_i r _
    have h (b : Bool) (n : Nat) (s : State) : outer (if b then publishGrades n s else s) = outer s := by cases b <;> rfl
    have k (s : State) (x : Disp) : outer { s with disp := x } = outer s := rfl
    have p (s : State) : outer (if r.req = 0 then s else pulseCut s) = outer s := by split <;> simp
    have q (s : State) (l : List Byte) :
        outer (if n = 1 then raise C.RECIPE_DONE s else causeRec C.RECIPE_ABORT sevWarning l s) = outer s := by
      split <;> simp
    simp only [outer_notifyOpt, h, q, outer_set, outer_setB, k, outer_stepEnd, p]

@[simp] theorem outer_dispatchOff (s : State) : outer (dispatchOff s) = outer s := rfl

@[simp] theorem outer_dutiesOff (s : State) : outer (dutiesOff s) = outer s :=
  foldl_keeps _ _ (fun _ _ => by simp) _ _

@[simp] theorem outer_loopShow (n : Nat) (s : State) : outer (loopShow n s) = outer s := by
  unfold loopShow
  rw [outer_dutiesOff, outer_set, outer_setB, outer_setB, outer_setB]

@[simp] theorem outer_loopClear (s : State) : outer (loopClear s) = outer s := rfl

theorem outer_with_eis (s : State) (x : Eis) : outer { s with eis := x } = outer s := rfl

@[simp] theorem outer_loopEnds (s : State) : outer (loopEnds s) = outer s := by
  unfold loopEnds
  dsimp only
  rw [outer_dispatchOff, outer_recipeEnd, outer_with_eis, outer_pulseStop, outer_eisAbandon]

@[simp] theorem outer_loopOpen (n : Nat) (s : State) : outer (loopOpen n s) = outer s := by
  unfold loopOpen
  split
  · rw [outer_loopEnds, outer_causeRec, outer_loopClear, outer_loopShow]
  · rfl

/-- The parts of State that the levels at the end of a command leave alone (beside nIRQ). -/
def inner (s : State) :=
  (s.pending, s.shadow, s.time, s.free, { s.sys with nirqLow := false }, s.ring, s.acq, s.est, s.bal, s.thm, s.dio,
    s.net, s.bus, s.fwu, s.pwr)

theorem inner_of_outer {s t : State} (h : outer s = outer t) : inner s = inner t := by
  simp only [outer, Prod.mk.injEq] at h
  simp only [inner, Prod.mk.injEq]
  obtain ⟨h1, h2, h3, h4, h5, h6, h7, h8, h9, h10, h11, h12, h13, h14, h15, h16⟩ := h
  exact ⟨h1, h2, h3, h4, by rw [h5], h6, h7, h8, h9, h10, h12, h13, h14, h15, h16⟩

@[simp] theorem inner_setB (s : State) (f : Fld) (b : Bool) : inner (s.setB f b) = inner s := rfl
@[simp] theorem inner_set (s : State) (f : Fld) (v : Nat) : inner (s.set f v) = inner s := rfl
@[simp] theorem inner_loopOpen (n : Nat) (s : State) : inner (loopOpen n s) = inner s :=
  inner_of_outer (outer_loopOpen n s)

@[simp] theorem inner_deEnergise (c : Nat) (s : State) : inner (deEnergise c s) = inner s := by
  simp only [deEnergise]
  split <;> rfl

@[simp] theorem inner_settleLow (c : Nat) (s : State) : inner (settleLow c s) = inner s := by
  simp only [settleLow]
  split
  · split <;> simp
  · rfl

@[simp] theorem inner_settleSafe (s : State) : inner (settleSafe s) = inner s := by
  simp only [settleSafe, inner_setB]
  split <;> simp

@[simp] theorem inner_settleCounts (s : State) : inner (settleCounts s) = inner s := by
  unfold settleCounts
  dsimp only
  simp only [inner_set]

theorem inner_with_nirq (s : State) (b : Bool) : inner { s with sys := { s.sys with nirqLow := b } } = inner s := rfl

@[simp] theorem inner_settleInt (s : State) : inner (settleInt s) = inner s := by
  unfold settleInt
  dsimp only
  rw [inner_with_nirq, inner_set]

/-- What the end of a command leaves unchanged. -/
@[simp] theorem inner_settle (s : State) : inner (settle s) = inner s := by
  rw [settle, inner_settleInt, inner_settleCounts, inner_settleSafe]

@[simp] theorem settle_pending (s : State) : (settle s).pending = s.pending := congrArg (·.1) (inner_settle s)
@[simp] theorem settle_shadow (s : State) : (settle s).shadow = s.shadow := congrArg (·.2.1) (inner_settle s)
@[simp] theorem settle_time (s : State) : (settle s).time = s.time := congrArg (·.2.2.1) (inner_settle s)
@[simp] theorem settle_free (s : State) : (settle s).free = s.free := congrArg (·.2.2.2.1) (inner_settle s)
@[simp] theorem settle_ring (s : State) : (settle s).ring = s.ring := congrArg (·.2.2.2.2.2.1) (inner_settle s)
@[simp] theorem settle_acq (s : State) : (settle s).acq = s.acq := congrArg (·.2.2.2.2.2.2.1) (inner_settle s)
@[simp] theorem settle_est (s : State) : (settle s).est = s.est := congrArg (·.2.2.2.2.2.2.2.1) (inner_settle s)
@[simp] theorem settle_bal (s : State) : (settle s).bal = s.bal := congrArg (·.2.2.2.2.2.2.2.2.1) (inner_settle s)
@[simp] theorem settle_thm (s : State) : (settle s).thm = s.thm := congrArg (·.2.2.2.2.2.2.2.2.2.1) (inner_settle s)
@[simp] theorem settle_dio (s : State) : (settle s).dio = s.dio := congrArg (·.2.2.2.2.2.2.2.2.2.2.1) (inner_settle s)
@[simp] theorem settle_net (s : State) : (settle s).net = s.net :=
  congrArg (·.2.2.2.2.2.2.2.2.2.2.2.1) (inner_settle s)
@[simp] theorem settle_bus (s : State) : (settle s).bus = s.bus :=
  congrArg (·.2.2.2.2.2.2.2.2.2.2.2.2.1) (inner_settle s)
@[simp] theorem settle_fwu (s : State) : (settle s).fwu = s.fwu :=
  congrArg (·.2.2.2.2.2.2.2.2.2.2.2.2.2.1) (inner_settle s)
@[simp] theorem settle_pwr (s : State) : (settle s).pwr = s.pwr :=
  congrArg (·.2.2.2.2.2.2.2.2.2.2.2.2.2.2) (inner_settle s)

end Sys2Proof.Laws
end

