-- ==== Sys2Proof/Laws/Rcp.lean ====
section
/-!
SUPPORT. What the shared envelopes of requests and register writes do, said once: `withCmd`, `withWrite`, and what an
admission leaves as it was.
-/

namespace Sys2Proof.Machine

/-! ## Admission -/

@[simp] theorem noteAdmit_word (s : State) (a : Nat) : (noteAdmit s).word a = s.word a := rfl
@[simp] theorem noteAdmit_shadowWord (s : State) (a : Nat) : (noteAdmit s).shadowWord a = s.shadowWord a := rfl
@[simp] theorem noteAdmit_get (s : State) (f : Fld) : (noteAdmit s).get f = s.get f := rfl
@[simp] theorem noteAdmit_get64 (s : State) (f g : Fld) : (noteAdmit s).get64 f g = s.get64 f g := rfl
@[simp] theorem noteAdmit_flag (s : State) (f : Fld) : (noteAdmit s).flag f = s.flag f := rfl
@[simp] theorem noteAdmit_st (s : State) : (noteAdmit s).st = s.st := rfl
@[simp] theorem noteAdmit_awake (s : State) : (noteAdmit s).awake = s.awake := rfl
@[simp] theorem noteAdmit_direct (s : State) : (noteAdmit s).direct = s.direct := rfl
@[simp] theorem noteAdmit_time (s : State) : (noteAdmit s).time = s.time := rfl
@[simp] theorem noteAdmit_regs (s : State) : (noteAdmit s).regs = s.regs := rfl
@[simp] theorem noteAdmit_pending (s : State) : (noteAdmit s).pending = s.pending := rfl
@[simp] theorem noteAdmit_cmd (s : State) : (noteAdmit s).cmd = s.cmd := rfl
@[simp] theorem noteAdmit_ctl (s : State) : (noteAdmit s).ctl = s.ctl := rfl
@[simp] theorem noteAdmit_disp (s : State) : (noteAdmit s).disp = s.disp := rfl
@[simp] theorem noteAdmit_eis (s : State) : (noteAdmit s).eis = s.eis := rfl
@[simp] theorem noteAdmit_est (s : State) : (noteAdmit s).est = s.est := rfl
@[simp] theorem noteAdmit_acq (s : State) : (noteAdmit s).acq = s.acq := rfl
@[simp] theorem noteAdmit_bal (s : State) : (noteAdmit s).bal = s.bal := rfl
@[simp] theorem noteAdmit_ring (s : State) : (noteAdmit s).ring = s.ring := rfl
@[simp] theorem noteAdmit_safe (s : State) : (noteAdmit s).safe = s.safe := rfl
@[simp] theorem noteAdmit_evr (s : State) : (noteAdmit s).evr = s.evr := rfl
@[simp] theorem noteAdmit_thm (s : State) : (noteAdmit s).thm = s.thm := rfl
@[simp] theorem noteAdmit_free (s : State) : (noteAdmit s).free = s.free := rfl
@[simp] theorem noteAdmit_sys (s : State) : (noteAdmit s).sys = { s.sys with lastAdmit := s.time } := rfl
@[simp] theorem noteAdmit_fwu (s : State) : (noteAdmit s).fwu = { s.fwu with exitAt := none } := rfl

@[simp] theorem noteAdmit_numbered (s : State) (c : Ctx) : numbered c (noteAdmit s) = numbered c s := rfl
@[simp] theorem noteAdmit_liveNonce (s : State) (c : Ctx) : liveNonce c (noteAdmit s) = liveNonce c s := rfl
@[simp] theorem noteAdmit_lockedOut (s : State) : lockedOut (noteAdmit s) = lockedOut s := rfl
@[simp] theorem noteAdmit_anyClosed (s : State) : anyClosed (noteAdmit s) = anyClosed s := rfl
@[simp] theorem noteAdmit_keepAlive (s : State) : keepAlive (noteAdmit s) = keepAlive s := rfl
@[simp] theorem noteAdmit_boards (s : State) : boards (noteAdmit s) = boards s := rfl
@[simp] theorem noteAdmit_posCount (s : State) : posCount (noteAdmit s) = posCount s := rfl
@[simp] theorem noteAdmit_present (s : State) (k : Nat) : present (noteAdmit s) k = present s k := rfl
@[simp] theorem noteAdmit_owBusy (s : State) (k : Nat) : owBusy (noteAdmit s) k = owBusy s k := rfl
@[simp] theorem noteAdmit_anyContactor (s : State) : anyContactor (noteAdmit s) = anyContactor s := rfl
@[simp] theorem noteAdmit_running (s : State) (r : Nat) : running (noteAdmit s) r = running s r := rfl
@[simp] theorem noteAdmit_sealedBit (s : State) (r : Nat) : sealedBit (noteAdmit s) r = sealedBit s r := rfl
@[simp] theorem noteAdmit_getRecipe (s : State) (r : Nat) : getRecipe (noteAdmit s) r = getRecipe s r := rfl
@[simp] theorem noteAdmit_brdClass (s : State) (k : Nat) : brdClass (noteAdmit s) k = brdClass s k := rfl
@[simp] theorem noteAdmit_getBrd (s : State) (k : Nat) : getBrd (noteAdmit s) k = getBrd s k := rfl
@[simp] theorem noteAdmit_shadowDirty (s : State) (b : Block) : shadowDirty (noteAdmit s) b = shadowDirty s b := rfl
@[simp] theorem noteAdmit_getChan (s : State) (src : Src) (session : BitVec 32) : getChan src session (noteAdmit s) = getChan src session s := rfl
@[simp] theorem noteAdmit_hostPowered (s : State) : hostPowered (noteAdmit s) = hostPowered s := rfl
@[simp] theorem noteAdmit_enginesUp (s : State) : enginesUp (noteAdmit s) = enginesUp s := rfl
@[simp] theorem noteAdmit_authorised (s : State) (c : Ctx) : authorised c (noteAdmit s) = authorised c s := rfl
@[simp] theorem noteAdmit_ringRuns (s : State) : ringRuns (noteAdmit s) = ringRuns s := rfl
@[simp] theorem noteAdmit_isC1 (s : State) : isC1 (noteAdmit s) = isC1 s := rfl
@[simp] theorem noteAdmit_positions (s : State) : positions (noteAdmit s) = positions s := rfl
@[simp] theorem noteAdmit_boardNums (s : State) : boardNums (noteAdmit s) = boardNums s := rfl
@[simp] theorem noteAdmit_closeFailing (s : State) : closeFailing (noteAdmit s) = closeFailing s := rfl
@[simp] theorem noteAdmit_actBank (s : State) (typ : Nat) : actBank (noteAdmit s) typ = actBank s typ := rfl
@[simp] theorem noteAdmit_idleBank (s : State) (typ : Nat) : idleBank (noteAdmit s) typ = idleBank s typ := rfl
@[simp] theorem noteAdmit_serialNum (s : State) : serialNum (noteAdmit s) = serialNum s := rfl

/-! ## The envelopes -/

/-- An admitted request runs its effect. -/
theorem withCmd_admitted {c : Ctx} {op : Nat} {s : State} (f : State → State) (h : Safety.Admitted c op s) :
    withCmd c op f s = f (noteAdmit s) := by
  obtain ⟨h1, h2, h3⟩ := h
  simp [withCmd, h1, h2, h3]

/-- Without an open transport nothing happens. -/
theorem withCmd_closed {c : Ctx} {op : Nat} {s : State} (f : State → State) (h : rcpOpen c s = false) :
    withCmd c op f s = s := by
  simp [withCmd, h]

/-- A request in a session that is not open gets its reply and nothing else. -/
theorem withCmd_session {c : Ctx} {op : Nat} {s : State} (f : State → State) (h : rcpOpen c s = true)
    (o : sessionOpen c s = false) : withCmd c op f s = refuseSession c op (noteHeard s) := by
  simp [withCmd, h, o]

/-- A request that may not run now gets its reply and nothing else. -/
theorem withCmd_refused {c : Ctx} {op st : Nat} {pl : List Byte} {s : State} (f : State → State)
    (h : rcpOpen c s = true) (o : sessionOpen c s = true) (g : guardFail c op s = some (st, pl)) :
    withCmd c op f s = reply c op st pl (noteHeard s) := by
  simp [withCmd, h, o, g]

/-- An admitted write has its effect. -/
theorem withWrite_admitted {p : Path} {a : Nat} {v : Word} {s : State} (f : State → State × WRes)
    (h : writeAdmitted p a v s = true) : withWrite p a v f s = (f s).1 := by
  simp [withWrite, h]

/-- A write that may not take effect leaves the window's note alone. -/
theorem withWrite_refused {p : Path} {a : Nat} {v : Word} {s : State} (f : State → State × WRes)
    (h : writeAdmitted p a v s = false) : withWrite p a v f s = windowNote p s := by
  simp [withWrite, h]

/-- Every meaning ends in a next state. -/
theorem finish_next (s : State) : finish s = .next (settle s) := rfl

end Sys2Proof.Machine
end

