-- ==== Sys2Proof/Laws/Words.lean ====
section
/-!
SUPPORT. The register words that replies, causes, records and the opening of the loop leave unchanged, block by block:
a block is 4 KiB (R67).
-/

namespace Sys2Proof.Laws

open Sys2Proof.Machine

/-- The blocks INT, CMD, EIS, BAL, DSP, DISP and EVR: all that replies, causes, records and the ends of a measurement,
a pulse and a recipe may change. -/
def auxBlocks : List Nat := [0x1, 0x2, 0x12, 0x14, 0x15, 0x22, 0x50]

/-- With CTL and PWM, all that the opening of the loop may change. -/
def loopBlocks : List Nat := [0x1, 0x2, 0x12, 0x14, 0x15, 0x20, 0x21, 0x22, 0x50]

/-- Every register word outside the blocks `l` is the same in both states. -/
def SameOutside (l : List Nat) (s t : State) : Prop := ∀ a, a / 0x1000 ∉ l → t.word a = s.word a

/-- Every register word outside `auxBlocks` is the same in both states. -/
abbrev SameWords (s t : State) : Prop := SameOutside auxBlocks s t

theorem SameOutside_refl (l : List Nat) (s : State) : SameOutside l s s := fun _ _ => rfl

theorem SameOutside_trans {l : List Nat} {s t u : State} (h : SameOutside l s t) (k : SameOutside l t u) :
    SameOutside l s u := fun a ha => (k a ha).trans (h a ha)

theorem SameOutside_loop {s t : State} (h : SameWords s t) : SameOutside loopBlocks s t := fun a ha =>
  h a (fun hm => ha (by
    simp only [auxBlocks, loopBlocks, List.mem_cons, List.not_mem_nil, or_false] at hm ⊢
    omega))

theorem SameOutside_set (l : List Nat) (s : State) (f : Fld) (v : Nat) (h : f.addr / 0x1000 ∈ l) :
    SameOutside l s (s.set f v) := fun a ha => word_set_other s f v a (fun e => ha (by rw [e]; exact h))

theorem SameOutside_setB (l : List Nat) (s : State) (f : Fld) (b : Bool) (h : f.addr / 0x1000 ∈ l) :
    SameOutside l s (s.setB f b) := SameOutside_set l s f _ h

theorem SameWords_refl (s : State) : SameWords s s := SameOutside_refl _ s

theorem SameWords_trans {s t u : State} (h : SameWords s t) (k : SameWords t u) : SameWords s u :=
  SameOutside_trans h k

/-- States with the same register file have the same words. -/
theorem SameWords_of_regs {s t : State} (h : t.regs = s.regs) : SameWords s t := fun a _ => by
  unfold State.word; rw [h]

theorem SameWords_set (s : State) (f : Fld) (v : Nat) (h : f.addr / 0x1000 ∈ auxBlocks) : SameWords s (s.set f v) :=
  SameOutside_set _ s f v h

theorem SameWords_setB (s : State) (f : Fld) (b : Bool) (h : f.addr / 0x1000 ∈ auxBlocks) :
    SameWords s (s.setB f b) := SameWords_set s f _ h

theorem SameWords_raise (c : Cause) (s : State) (hg : c.g < 16) : SameWords s (raise c s) := by
  refine SameWords_trans (SameWords_set s (F.INT_CAUSE_CAUSE c.g) _ ?_) (SameWords_of_regs rfl)
  have : (0x1100 + 8 * c.g) / 0x1000 = 1 := by omega
  show (0x1100 + 8 * c.g) / 0x1000 ∈ _
  rw [this]; decide

theorem SameWords_countDrop (n : Nat) (s : State) (hn : n < 6) : SameWords s (countDrop n s) := by
  have h1 : (0x50010 + 4 * n) / 0x1000 ∈ auxBlocks := by
    have : (0x50010 + 4 * n) / 0x1000 = 0x50 := by omega
    rw [this]; decide
  unfold countDrop
  dsimp only
  split
  · refine SameWords_trans ?_ (SameWords_raise _ _ (by decide))
    exact SameWords_trans (SameWords_set s (F.EVR_DROP_VALUE n) _ h1) (SameWords_of_regs rfl)
  · exact SameWords_trans (SameWords_set s (F.EVR_DROP_VALUE n) _ h1) (SameWords_of_regs rfl)

theorem foldl_min_le (l : List Rec) (m : Nat) : l.foldl (fun m r => min m r.sev) m ≤ m := by
  induction l generalizing m with
  | nil => exact Nat.le_refl m
  | cons r l ih => exact Nat.le_trans (ih _) (Nat.min_le_left _ _)

theorem SameWords_enterRec (r : Rec) (s : State) (h : r.sev < 6) : SameWords s (enterRec r s) := by
  unfold enterRec
  split
  · exact SameWords_of_regs rfl
  · split
    · dsimp only
      refine SameWords_trans ?_ (SameWords_countDrop _ _ ?_)
      · exact SameWords_of_regs rfl
      · have := foldl_min_le s.evr.buffer 5
        unfold lowestSev; omega
    · exact SameWords_countDrop _ _ h

theorem SameWords_addRec (a b c : Nat) (p : List Byte) (s : State) (h : a < 6) : SameWords s (addRec a b c p s) :=
  SameWords_enterRec _ _ h

theorem SameWords_causeRec (c : Cause) (n : Nat) (p : List Byte) (s : State) (hg : c.g < 16) (h : n < 6) :
    SameWords s (causeRec c n p s) :=
  SameWords_trans (SameWords_raise c s hg) (SameWords_addRec _ _ _ _ _ h)

theorem SameWords_mboxFill (p : List Byte) (s : State) : SameWords s (mboxFill p s) := by
  unfold mboxFill
  dsimp only
  refine SameWords_trans ?_ (SameWords_raise _ _ (by decide))
  refine SameWords_trans ?_ (SameWords_setB _ _ _ (by decide))
  refine SameWords_trans ?_ (SameWords_set _ _ _ (by decide))
  exact SameWords_of_regs rfl

theorem SameWords_mboxReply (p : List Byte) (s : State) : SameWords s (mboxReply p s) := by
  unfold mboxReply
  dsimp only
  refine SameWords_trans ?_ (SameWords_mboxFill _ _)
  refine SameWords_trans ?_ (SameWords_setB _ _ _ (by decide))
  split
  · exact SameWords_setB _ _ _ (by decide)
  · exact SameWords_refl s

theorem SameWords_mboxNotify (p : List Byte) (s : State) : SameWords s (mboxNotify p s) := by
  unfold mboxNotify
  split
  · split
    · split
      · exact SameWords_of_regs rfl
      · dsimp only
        refine SameWords_trans ?_ (SameWords_mboxFill _ _)
        refine SameWords_trans ?_ (SameWords_setB _ _ _ (by decide))
        exact SameWords_of_regs rfl
    · exact SameWords_of_regs rfl
  · exact SameWords_mboxFill _ _

theorem SameWords_transmit (c : Ctx) (n : Bool) (p : List Byte) (s : State) : SameWords s (transmit c n p s) := by
  unfold transmit
  split
  · exact SameWords_of_regs rfl
  · exact SameWords_of_regs rfl
  · split
    · exact SameWords_mboxNotify _ _
    · exact SameWords_mboxReply _ _
  · split <;> exact SameWords_of_regs rfl

theorem regs_keepReply (c : Ctx) (st : Nat) (n : Bool) (p : List Byte) (s : State) :
    (keepReply c st n p s).regs = s.regs := by
  simp only [keepReply]
  repeat' split
  all_goals rfl

theorem regs_freeSlot (c : Ctx) (s : State) : (freeSlot c s).regs = s.regs := by
  simp only [freeSlot]
  split <;> rfl

theorem SameWords_discardReply (c : Ctx) (n : Bool) (s : State) : SameWords s (discardReply c n s) := by
  unfold discardReply
  split
  · exact SameWords_setB _ _ _ (by decide)
  · exact SameWords_refl s

/-- A reply or a notification changes no register word outside INT and CMD. -/
theorem SameWords_respond (c : Ctx) (n : Bool) (op st : Nat) (p : List Byte) (s : State) :
    SameWords s (respond c n op st p s) := by
  unfold respond
  dsimp only
  have h : SameWords s (if st = stAccepted then keepReply c st n p s else freeSlot c (keepReply c st n p s)) := by
    split
    · exact SameWords_of_regs (regs_keepReply ..)
    · exact SameWords_of_regs ((regs_freeSlot _ _).trans (regs_keepReply ..))
  generalize (if st = stAccepted then keepReply c st n p s else freeSlot c (keepReply c st n p s)) = t at h ⊢
  split
  · exact SameWords_trans h (SameWords_transmit _ _ _ _)
  · exact SameWords_trans h (SameWords_discardReply _ _ _)

theorem SameWords_notifyOpt (c : Option Ctx) (op st : Nat) (p : List Byte) (s : State) :
    SameWords s (notifyOpt c op st p s) := by
  cases c
  · exact SameWords_refl s
  · exact SameWords_respond _ _ _ _ _ _

theorem SameWords_foldl {α : Type} (f : State → α → State) (l : List α) (h : ∀ s, ∀ x ∈ l, SameWords s (f s x))
    (s : State) : SameWords s (l.foldl f s) := by
  induction l generalizing s with
  | nil => exact SameWords_refl s
  | cons x l ih =>
    rw [List.foldl_cons]
    exact SameWords_trans (h s x (List.mem_cons_self ..)) (ih (fun s y hy => h s y (List.mem_cons_of_mem _ hy)) _)

theorem SameWords_eisLanes (b : Bool) (s : State) : SameWords s (eisLanes b s) := by
  refine SameWords_foldl _ _ (fun s n hn => SameWords_setB _ _ _ ?_) s
  have : n < 8 := List.mem_range.1 hn
  have h : (0x15000 + 4 * n) / 0x1000 = 0x15 := by omega
  show (0x15000 + 4 * n) / 0x1000 ∈ _
  rw [h]; decide

theorem SameWords_eisAbandon (n : Nat) (s : State) : SameWords s (eisAbandon n s) := by
  unfold eisAbandon
  split
  · exact SameWords_refl s
  · dsimp only
    refine SameWords_trans ?_ (SameWords_notifyOpt _ _ _ _ _)
    refine SameWords_trans ?_ (SameWords_addRec _ _ _ _ _ (by decide))
    refine SameWords_trans ?_ (SameWords_raise _ _ (by decide))
    refine SameWords_trans ?_ (SameWords_set _ _ _ (by decide))
    refine SameWords_trans ?_ (SameWords_set _ _ _ (by decide))
    refine SameWords_trans ?_ (SameWords_set _ _ _ (by decide))
    refine SameWords_trans ?_ (SameWords_set _ _ _ (by decide))
    have lost (b : Bool) (t : State) (h : SameWords s t) :
        SameWords s (if b then t.bump F.EIS_INC_CNT_VALUE 1 else t) := by
      cases b
      · exact h
      · exact SameWords_trans h (SameWords_set _ _ _ (by decide))
    apply lost
    refine SameWords_trans ?_ (SameWords_eisLanes _ _)
    exact SameWords_of_regs rfl

theorem SameWords_pulseStop (s : State) : SameWords s (pulseStop s) := by
  unfold pulseStop
  split
  · exact SameWords_refl s
  · dsimp only
    refine SameWords_trans ?_ (SameWords_notifyOpt _ _ _ _ _)
    refine SameWords_trans ?_ (SameWords_set _ _ _ (by decide))
    exact SameWords_of_regs rfl

theorem SameWords_releasePolicy (r : Run) (s : State) : SameWords s (releasePolicy r s) := by
  unfold releasePolicy
  split
  · exact SameWords_trans (SameWords_set _ _ _ (by decide)) (SameWords_setB _ _ _ (by decide))
  · exact SameWords_refl s

theorem SameWords_pulseCut (s : State) : SameWords s (pulseCut s) := by
  unfold pulseCut
  split
  · split
    · exact SameWords_trans (SameWords_of_regs rfl) (SameWords_pulseStop _)
    · exact SameWords_refl s
  · exact SameWords_refl s

theorem SameWords_stepEnd (b : Bool) (r : Run) (s : State) : SameWords s (stepEnd b r s).2 := by
  unfold stepEnd
  split
  · dsimp only
    refine SameWords_trans ?_ (SameWords_releasePolicy _ _)
    split
    · exact SameWords_addRec _ _ _ _ _ (by decide)
    · exact SameWords_refl s
  · exact SameWords_refl s

theorem SameWords_publishGrades (n : Nat) (s : State) : SameWords s (publishGrades n s) := by
  unfold publishGrades
  refine SameWords_trans ?_ (SameWords_raise _ _ (by decide))
  exact SameWords_of_regs rfl

theorem SameWords_recipeEnd (n : Nat) (s : State) : SameWords s (recipeEnd n s) := by
  unfold recipeEnd
  split
  · exact SameWords_refl s
  · rename_i r _
    dsimp only
    refine SameWords_trans ?_ (SameWords_notifyOpt _ _ _ _ _)
    have last (b : Bool) (m : Nat) (t : State) (h : SameWords s t) :
        SameWords s (if b then publishGrades m t else t) := by
      cases b
      · exact h
      · exact SameWords_trans h (SameWords_publishGrades _ _)
    apply last
    have cause (t : State) (l : List Byte) (h : SameWords s t) : SameWords s (if n = 1 then raise C.RECIPE_DONE t
        else causeRec C.RECIPE_ABORT sevWarning l t) := by
      split
      · exact SameWords_trans h (SameWords_raise _ _ (by decide))
      · exact SameWords_trans h (SameWords_causeRec _ _ _ _ (by decide) (by decide))
    apply cause
    refine SameWords_trans ?_ (SameWords_set _ _ _ (by decide))
    refine SameWords_trans ?_ (SameWords_set _ _ _ (by decide))
    refine SameWords_trans ?_ (SameWords_setB _ _ _ (by decide))
    refine SameWords_trans ?_ (SameWords_set _ _ _ (by decide))
    have cut : SameWords s (if r.req = 0 then s else pulseCut s) := by
      split
      · exact SameWords_refl s
      · exact SameWords_pulseCut s
    exact SameWords_trans (SameWords_trans cut (SameWords_stepEnd _ _ _)) (SameWords_of_regs rfl)

theorem SameWords_dispatchOff (s : State) : SameWords s (dispatchOff s) := by
  unfold dispatchOff
  dsimp only
  refine SameWords_trans ?_ (SameWords_set _ _ _ (by decide))
  refine SameWords_trans ?_ (SameWords_set _ _ _ (by decide))
  refine SameWords_trans ?_ (SameWords_setB _ _ _ (by decide))
  refine SameWords_trans ?_ (SameWords_setB _ _ _ (by decide))
  refine SameWords_trans ?_ (SameWords_setB _ _ _ (by decide))
  exact SameWords_of_regs rfl

theorem SameOutside_foldl {α : Type} (bs : List Nat) (f : State → α → State) (l : List α)
    (h : ∀ s, ∀ x ∈ l, SameOutside bs s (f s x)) (s : State) : SameOutside bs s (l.foldl f s) := by
  induction l generalizing s with
  | nil => exact SameOutside_refl bs s
  | cons x l ih =>
    rw [List.foldl_cons]
    exact SameOutside_trans (h s x (List.mem_cons_self ..)) (ih (fun s y hy => h s y (List.mem_cons_of_mem _ hy)) _)

theorem SameOutside_dutiesOff (s : State) : SameOutside [0x21] s (dutiesOff s) := by
  refine SameOutside_foldl _ _ _ (fun s n hn => ?_) s
  have : n < 6 := List.mem_range.1 hn
  have h : (0x21000 + 4 * n) / 0x1000 ∈ [0x21] := by
    have h : (0x21000 + 4 * n) / 0x1000 = 0x21 := by omega
    rw [h]; decide
  exact SameOutside_trans (SameOutside_set _ _ _ _ h) (SameOutside_setB _ _ _ _ h)

theorem openSev_lt (n : Nat) : openSev n < 6 := by
  unfold openSev
  split <;> decide

theorem SameOutside_with_eis {l : List Nat} {s t : State} (x : Eis) (h : SameOutside l s t) :
    SameOutside l s { t with eis := x } := h
theorem SameOutside_with_ctl {l : List Nat} {s t : State} (x : Ctl) (h : SameOutside l s t) :
    SameOutside l s { t with ctl := x } := h

theorem SameWords_loopEnds (s : State) : SameWords s (loopEnds s) := by
  unfold loopEnds
  dsimp only
  refine SameWords_trans ?_ (SameWords_dispatchOff _)
  refine SameWords_trans ?_ (SameWords_recipeEnd _ _)
  refine SameOutside_with_eis _ ?_
  refine SameWords_trans ?_ (SameWords_pulseStop _)
  exact SameWords_eisAbandon _ _

theorem word_loopClear (s : State) (a : Nat) : (loopClear s).word a = s.word a := rfl

/-- What follows the loop's own registers when it opens changes no word outside `auxBlocks`. -/
theorem SameWords_loopTail (n : Nat) (s : State) :
    SameWords s (loopEnds (causeRec C.LOOP_OPEN (openSev n) (u8 n) (loopClear s))) :=
  SameWords_trans (fun a ha => (SameWords_causeRec _ _ _ _ (by decide) (openSev_lt n) a ha).trans (word_loopClear s a))
    (SameWords_loopEnds _)

theorem SameOutside_loopShow (n : Nat) (s : State) : SameOutside loopBlocks s (loopShow n s) := by
  unfold loopShow
  refine SameOutside_trans ?_ (fun a ha => SameOutside_dutiesOff _ a (fun hm => ha ?_))
  · refine SameOutside_trans ?_ (SameOutside_set _ _ _ _ (by decide))
    refine SameOutside_trans ?_ (SameOutside_setB _ _ _ _ (by decide))
    refine SameOutside_trans ?_ (SameOutside_setB _ _ _ _ (by decide))
    exact SameOutside_setB _ _ _ _ (by decide)
  · rw [List.mem_singleton.1 hm]; decide

/-- The opening of the loop changes no register word outside its blocks. -/
theorem SameOutside_loopOpen (n : Nat) (s : State) : SameOutside loopBlocks s (loopOpen n s) := by
  unfold loopOpen
  split
  · exact SameOutside_trans (SameOutside_loopShow n s) (SameOutside_loop (SameWords_loopTail n _))
  · exact SameOutside_refl _ s

/-- The word of CTL_STATUS after an opening. -/
theorem status_loopShow (n : Nat) (s : State) : (loopShow n s).word 0x20050 =
    ((((s.setB F.CTL_STATUS_CLOSED false).setB F.CTL_STATUS_COASTING true).setB F.CTL_STATUS_SLEWING
      false).set F.CTL_STATUS_OPEN_CAUSE n).word 0x20050 :=
  SameOutside_dutiesOff _ 0x20050 (by decide)

theorem get_congr {s t : State} {f : Fld} (h : t.word f.addr = s.word f.addr) : t.get f = s.get f := by
  unfold State.get; rw [h]

theorem flag_congr {s t : State} {f : Fld} (h : t.word f.addr = s.word f.addr) : t.flag f = s.flag f := by
  unfold State.flag; rw [get_congr h]

/-- After an opening the loop is open. -/
theorem closed_loopOpen (n : Nat) (s : State) : (loopOpen n s).flag F.CTL_STATUS_CLOSED = false := by
  unfold loopOpen
  split
  · rw [flag_congr (f := F.CTL_STATUS_CLOSED) (SameWords_loopTail n (loopShow n s) 0x20050 (by decide)),
      flag_congr (f := F.CTL_STATUS_CLOSED) (status_loopShow n s)]
    unfold State.flag
    rw [get_set_apart _ _ _ _ (by decide)]
    have h := flag_setB_same s F.CTL_STATUS_CLOSED false (by decide) (by decide)
    rw [← flag_setB_apart _ F.CTL_STATUS_COASTING _ true (by decide),
      ← flag_setB_apart _ F.CTL_STATUS_SLEWING _ false (by decide)] at h
    exact h
  · rename_i h
    simpa using h

end Sys2Proof.Laws
end

