-- ==== Sys2Proof/Laws/Settle.lean ====
section
/-!
SUPPORT. What the derived levels of `settleSafe` read, and which operations leave those inputs as they are.
-/

namespace Sys2Proof.Laws

open Sys2Proof.Machine Sys2Proof.Safety


/-- The fields that the PWM request, the matrix, the low sides and SAFE_OK are computed from. -/
def inputs : List Fld := [F.SYS_STATE_STATE, F.SYS_STATE_HOLD, F.SAFE_STATUS_SET_VALID, konFb 0, konFb 1,
  F.SAFE_STATUS_SP_LATCH, F.SAFE_STATUS_ZSL_LATCH, F.SAFE_STATUS_AUX_OC_LATCH, F.FWU_STATUS_PLN_PAUSE,
  F.CVL_WADI_TONE, F.SAFE_CFG_SI0_USED, F.SAFE_CFG_SI1_USED,
  siChan 0, siChan 1, siChan 2, siChan 3, siTpf 0, siTpf 1, siTpf 2, siTpf 3, siDisc 0, siDisc 1]

/-- What they are computed from beside the fields: the demands before SP, SP's heartbeat, and the settings that the ZSL
evaluates. -/
def beside (s : State) := (s.safe.scs, s.safe.scsDemand, s.safe.spBeat, s.safe.zslOld)

/-- Two states that agree in all of them and in the clocks that are lost. -/
def Same (s t : State) : Prop :=
  (∀ f ∈ inputs, t.get f = s.get f) ∧ beside t = beside s ∧ t.sys.clkLost = s.sys.clkLost ∧
    t.word F.SAFE_CFG_SI0_MODE.addr = s.word F.SAFE_CFG_SI0_MODE.addr

theorem Same.trans {s t u} (h : Same s t) (k : Same t u) : Same s u :=
  ⟨fun f hf => (k.1 f hf).trans (h.1 f hf), k.2.1.trans h.2.1, k.2.2.1.trans h.2.2.1, k.2.2.2.trans h.2.2.2⟩

theorem Same.rest {s t} (h : Same s t) : t.safe.scs = s.safe.scs ∧ t.safe.scsDemand = s.safe.scsDemand ∧
    t.safe.spBeat = s.safe.spBeat ∧ t.safe.zslOld = s.safe.zslOld := by
  have := h.2.1
  simpa only [beside, Prod.mk.injEq] using this

theorem same_setB (s : State) (f : Fld) (b : Bool) (h : inputs.all (fun g => apart f g) = true)
    (ha : F.SAFE_CFG_SI0_MODE.addr ≠ f.addr) : Same s (s.setB f b) :=
  ⟨fun g hg => get_set_apart _ _ _ _ (List.all_eq_true.1 h g hg), rfl, rfl, word_set_other _ _ _ _ ha⟩

theorem same_loopOpen (n : Nat) (s : State) : Same s (loopOpen n s) := by
  have h := outer_loopOpen n s
  simp only [outer, Prod.mk.injEq] at h
  refine ⟨fun f hf => get_congr (SameOutside_loopOpen n s _ ?_), by unfold beside; rw [h.2.2.2.2.2.2.2.2.2.2.1],
    by rw [h.2.2.2.2.1], SameOutside_loopOpen n s _ (by decide)⟩
  revert f
  decide

theorem Same.flag {s t} (h : Same s t) (f) (hf : f ∈ inputs) : t.flag f = s.flag f := by
  unfold State.flag; rw [h.1 f hf]

theorem Same.siD {s t} (h : Same s t) (i) (hi : i = 0 ∨ i = 1) : siDemanding t i = siDemanding s i := by
  rcases hi with rfl | rfl <;>
  simp only [siDemanding, siUsed, chReleased, Nat.mul_zero, Nat.mul_one, Nat.reduceAdd, if_true, if_false, Nat.reduceEqDiff] <;>
  (simp (disch := decide) only [h.flag])

theorem Same.matrixCore {s t} (h : Same s t) : matrixCore t = matrixCore s := by
  simp (disch := decide) only [Machine.matrixCore, pumpsDead, h.2.2.1, h.rest.2.2.1, h.flag]
theorem Same.inputClear {s t} (h : Same s t) (i) (hi : i = 0 ∨ i = 1) : inputClear t i = inputClear s i := by
  simp only [Machine.inputClear, siMode, zslCfg, h.siD i hi, h.rest.1, h.rest.2.1, h.rest.2.2.2, h.2.2.2]
theorem Same.matrixClear {s t} (h : Same s t) : matrixClear t = matrixClear s := by
  simp (disch := decide) only [Machine.matrixClear, h.matrixCore, h.inputClear _ (Or.inl rfl), h.inputClear _ (Or.inr rfl), h.flag]
theorem Same.lowSideOk {s t} (h : Same s t) : lowSideOk t = lowSideOk s := by
  simp (disch := decide) only [Machine.lowSideOk, h.matrixCore, h.matrixClear, h.flag]
theorem Same.pwmRequest {s t} (h : Same s t) : pwmRequest t = pwmRequest s := by
  simp (disch := decide) only [Machine.pwmRequest, State.st, latched, h.flag, h.1]
theorem Same.safeOk {s t} (h : Same s t) : safeOk t = safeOk s := by
  simp (disch := decide) only [Machine.safeOk, h.siD _ (Or.inl rfl), h.siD _ (Or.inr rfl), h.flag, h.rest.1, h.rest.2.1]

theorem deEnergise_keeps (c : Nat) (s : State) :
    (deEnergise c s).regs = s.regs ∧ beside (deEnergise c s) = beside s ∧ (deEnergise c s).sys = s.sys := by
  unfold deEnergise; dsimp only; split <;> exact ⟨rfl, rfl, rfl⟩

theorem same_settleLow (c : Nat) (hc : c < 3) (s : State) : Same s (settleLow c s) := by
  unfold settleLow
  have hb : inputs.all (fun g => apart (konLs c) g) = true := by
    revert c; decide
  split
  · dsimp only
    have ha : F.SAFE_CFG_SI0_MODE.addr ≠ (konLs c).addr := by clear * - hc; revert c; decide
    refine Same.trans ?_ (same_setB _ _ _ hb ha)
    split
    · have k := deEnergise_keeps c s
      have w (a : Nat) : (deEnergise c s).word a = s.word a := by unfold State.word; rw [k.1]
      exact ⟨fun f _ => get_congr (w _), k.2.1, by rw [k.2.2], w _⟩
    · exact ⟨fun _ _ => rfl, rfl, rfl, rfl⟩
  · exact ⟨fun _ _ => rfl, rfl, rfl, rfl⟩

-- other fields of the same words kept by each
theorem settleLow_own (c : Nat) (hc : c < 3) (s : State) (h : (settleLow c s).flag (konLs c) = true) : lowSideOk s = true := by
  unfold settleLow at h
  split at h
  · rw [flag_setB_same _ _ _ (by unfold konLs kon; simp; omega) Nat.one_pos] at h; cases h
  · rename_i h1
    by_cases hl : lowSideOk s = true
    · exact hl
    · simp [h, hl] at h1

theorem settleLow_other (c d : Nat) (hcd : c ≠ d) (hc : c < 3) (hd : d < 3) (s : State) : (settleLow c s).flag (konLs d) = s.flag (konLs d) := by
  unfold settleLow
  split
  · dsimp only
    rw [flag_setB_apart _ _ _ _ (by clear * - hcd hc hd; interval_cases c <;> interval_cases d <;> first | exact absurd rfl hcd | decide)]
    split
    · exact flag_congr (by unfold State.word; rw [(deEnergise_keeps c s).1])
    · rfl
  · rfl


end Sys2Proof.Laws
end

