-- ==== Sys2Proof/WellFormed.lean ====
section
/-!
DEFINITION. Which commands are well formed: an operand that Lean's types do not bound lies in the range the spec gives
it. What a host's own request may carry outside its range is NOT excluded here: the opcode answers RANGE or BAD_LENGTH,
and that is its meaning. What is excluded is what no sender and no pin can bring: a board that is none of 1 to 36, a
position beyond 576, a CAN frame of a length that no frame has.
-/

namespace Sys2Proof

/-- A cell monitor board: chapter 1 gives a string up to 36. -/
def boardOk (k : Nat) : Bool := decide (1 ≤ k ∧ k ≤ 36)

/-- A cell position: chapter 1 numbers them 0 to 575. -/
def posOk (n : Nat) : Bool := decide (n < 576)

/-- A slot of a frame: a board and its 16 readings (R105). -/
def slotOk (x : BoardSlot) : Bool := boardOk x.k && x.readings.length == 16

/-- A BYPASS_REPORT: a board and its 16 currents (R175). -/
def reportOk (x : BypassReport) : Bool := boardOk x.k && x.currents.length == 16

/-- The payload length of a CAN frame: 0 to 8, for CAN FD also its longer steps (PRESUMED, log entry 51). -/
def canLen (fd : Bool) (n : Nat) : Bool :=
  decide (n ≤ 8) || (fd && [12, 16, 20, 24, 32, 48, 64].contains n)

/-- An enumeration: at most 36 boards, each with its remote words 0 to 12, and the boards heard (R119, R126, R127). -/
def foundOk (v : RingView) : Bool :=
  decide (v.found.length ≤ 36) && v.found.all (fun x => x.words.length == 13) && (v.heardA ++ v.heardB).all boardOk

/-- The checks of one command. -/
def Instr.wf : Instr → Bool
  | .controlTick _ _ _ iPh _ _ => iPh.length == 6
  | .frameReceived slots _ _ reports => slots.all slotOk && reports.all reportOk
  | .caravan1Scan slots _ reports _ => slots.all slotOk && reports.all reportOk
  | .dioCycle currents outVolts _ _ => currents.length == 16 && outVolts.length == 8
  | .thermalScan pst _ => pst.length == 6
  | .serviceReqRelease waited _ => decide (waited < 750000000)
  | .bootDone r => r.auxClosed.length == 3
  | .regWrite _ _ values => decide (4 * values.length + 4 ≤ 1024)
  | .boardMissing k => boardOk k
  | .boardMissingClear k => boardOk k
  | .noReadingLimit pos => posOk pos
  | .boardResponse k _ _ _ => boardOk k
  | .boardCommandResend k _ => boardOk k
  | .boardCommandFail k _ => boardOk k
  | .enumDone v => foundOk v
  | .ringRestore back => back.all (fun b => boardOk b.k)
  | .remoteMirrorRefresh words balState cvMask => words.all (fun e => boardOk e.1 && decide (e.2.length ≤ 13)) &&
      (balState ++ cvMask).all (fun e => boardOk e.1)
  | .openWirePeriodic k => boardOk k
  | .openWireDone k => boardOk k
  | .wireBreakRetest k => boardOk k
  | .cellFaultClear pos => posOk pos
  | .softLimitSet pos _ => posOk pos
  | .softLimitClear pos _ => posOk pos
  | .restPoint pos => posOk pos
  | .virtualRest pos => posOk pos
  | .gateFault phase => decide (phase.toNat < 6)
  | .setpoint _ bytes => decide (bytes.length ≤ 1024)
  | .setpointCanFrame bytes => canLen true bytes.length
  | .recipeWrite _ _ _ record => record.length == 48
  | .chillerReply data => canLen true data.length
  | .cellLimit pos _ => posOk pos
  | .diStateChange x => decide (x < 16)
  | .doShort x => decide (x < 8)
  | .doThermal x => decide (x < 8)
  | .doExtDrive x => decide (x < 8)
  | .extClear x => decide (x < 8)
  | .pt1000Sample ohms => ohms.length == 4
  | .ping _ data => decide (data.length ≤ 1024)
  | .rcpCanFrame fd bytes => canLen fd bytes.length
  | .canFrameReceive _ ide id rtr fdf brs _ data => canLen fdf data.length && (ide || decide (id.toNat < 2048)) && !(rtr && fdf) && !(brs && !fdf)
  | .mboxWrite _ data _ => decide (data.length ≤ 255)
  | .winWriteBlock _ data _ => decide (data.length ≤ 255)
  | .twlTransferDone _ data => decide (data.length ≤ 32)
  | .fwData _ _ data => decide (data.length + 4 ≤ 1024)
  | .handoverDone result => decide (result.toNat = 0 ∨ result.toNat = 4 ∨ result.toNat = 5 ∨ result.toNat = 7)
  | .plnActivationDone result v => decide (result.toNat = 0 ∨ result.toNat = 2 ∨ result.toNat = 3) && foundOk v
  | .sweepBoundary | .fitDone | .stepDone | .stepPulseEnd | .outerLoopSample | .pwmPeriodStart | .frameStart .. | .protectionTick .. | .estimationTick | .managementTick
  | .recordWrite | .feedPresent .. | .feedAbsent .. | .brownOut | .serviceReqWake .. | .wakeContact ..
  | .wakeTimerExpiry .. | .serviceReqRecovery | .bootTimeout .. | .bootHeartbeatLoss .. | .stateRequest ..
  | .warmReset .. | .enterRecovery .. | .isolationReset .. | .setPersonality .. | .commissionDone ..
  | .reinitCvl .. | .reinitCana .. | .reinitCanb .. | .reinitTwl .. | .reinitEth .. | .reinitEis .. | .reinitEst ..
  | .reinitDsp .. | .stopTimeout | .testTimeout | .holdTimeout | .holdCurrent | .oasisHandoff | .rstLocalPulse
  | .rstLong | .supervisorWatchdog | .supervisorException .. | .clockLoss .. | .clockRestore .. | .heartbeatLoss ..
  | .logicClockStop | .regRead .. | .regModify .. | .registerWrite .. | .bitAliasRead .. | .bitAliasWrite ..
  | .shadowWrite .. | .blockCommit .. | .shadowDiscard .. | .commitApply .. | .postedWrite ..
  | .postedWriteComplete .. | .postFail .. | .snapTake .. | .snapshot .. | .snapshotCopy | .intRearm ..
  | .addressTokenTimeout | .keepaliveTakeover | .wadiLoss .. | .wadiToneReturn | .wadiLow | .wadiTest ..
  | .boardAccept .. | .remoteWordWrite .. | .stillnessWindowEnd | .openWireTest .. | .wireLearn .. | .wireResSet ..
  | .icLearn .. | .wireLearnDone | .icLearnDone | .sumCheck | .sumCheckClear | .diagnosisOpenWire | .podFault .. | .podRecover ..
  | .eisStart .. | .eisStop .. | .stepPulse .. | .headroomResume | .eisTimeout | .resultPublish
  | .eisHoldRelease .. | .estInsert .. | .capacitySet .. | .estPersist .. | .persistDone .. | .estPackWrite ..
  | .balPolicy .. | .balStop .. | .balManual .. | .oasisReportRead .. | .balancePlanReady | .cvOvershoot
  | .oasisReportApply | .loopClose .. | .loopOpen .. | .feedbackAck .. | .rcReset .. | .ctlCtrlFbAck ..
  | .ctlCtrlRcReset .. | .ctlDeadlineMiss .. | .mirage | .auxMismatch | .prechargeDone | .prechargeNoCurrent
  | .prechargeTimeout | .timedSetpointApply | .limitEntryEnd | .setpointLate | .setpointLoss | .recipeSeal ..
  | .recipeStart .. | .recipeStop .. | .gradeRead .. | .recipeTmaxExpiry | .recipeStepStart | .recipeTimeLimit
  | .pulseStepToggle | .throttleStep | .throttleRecover | .releaseReady | .chillerRequest | .coolantFault
  | .thermalRelease .. | .coolTest .. | .coolTestEnd | .scsTimeout | .zslScsBackup | .auxOvercurrent
  | .envelopeExceeded | .safetyInputOpen .. | .safetyInputRelease .. | .testPulseFault .. | .testPulseFaultClear ..
  | .discrepancyFault .. | .coilTestPulseEnd .. | .contactorConfirm .. | .closeFail .. | .dropOut ..
  | .weldSuspect .. | .contactorTest .. | .contactorTestHoldEnd | .contactorTestDone | .safeSummary ..
  | .fieldSupplyLow | .fieldSupplyRecover | .dioDoSetWrite .. | .doHostTimeout | .doRetry .. | .crossTestPulseEnd
  | .crossAck .. | .rcpPacketReceive .. | .commandStart | .identify .. | .sessionOpen .. | .sessionClose ..
  | .sessionTimeout .. | .subscribe .. | .causeNotify .. | .authChallenge .. | .authResponse .. | .authDrop ..
  | .keyInit .. | .keyRotate .. | .authExpiry .. | .authLockoutEnd | .canTransferTimeout | .linkChange ..
  | .ethFrameIngress .. | .ipApply .. | .dhcpRetry .. | .ptpOffsetSample .. | .ptpAnnounce .. | .ptpSyncTimeout
  | .announceTimeout | .holdMaxExpiry | .ptpCfgWrite .. | .timeSetGo .. | .timeReadLatch | .canRxSelect ..
  | .canTxLoad .. | .canTxAbort .. | .canTxComplete .. | .canError .. | .canBusOffRecover ..
  | .canBoRecoverWrite .. | .mboxStatus .. | .mboxPtr .. | .mboxRead .. | .mboxGo .. | .mboxAck .. | .winAddr ..
  | .winRead .. | .winWrite .. | .winReadBlock .. | .ident .. | .twsTimeout | .twlGo .. | .twlArbLost ..
  | .twlTimeout .. | .twlClear .. | .twlAbort .. | .twlPwrCycleEnd .. | .evrRead .. | .evrStatus .. | .evrClear ..
  | .evrClearDone | .fwBegin .. | .fwVerify .. | .fwVerifyDone .. | .fwActivateSup .. | .fwActivatePln ..
  | .fwRelay .. | .fwStatus .. | .transferAbort | .fwConfirm | .relayFrame .. | .relayProgress .. | .relayResend ..
  | .handoverReady .. | .handoverReadyTimeout | .plnHeartbeatTimeout | .recoveryExitTimeout .. | .changeoverConfirm
  | .changeoverTimeout | .feedIlFault .. | .feedGoA .. | .feedGoB .. | .autoReturn .. | .swapTest ..
  | .swapTestPeriodic .. | .swapDwellEnd .. | .standbyAbsent | .storeOk .. | .railFault .. | .canArbitrationLost ..
  | .twsStartStop .. | .macAddressAgeOut .. => true

end Sys2Proof
end

