-- ==== Sys2Proof/Tests/Slice0.lean ====
section
/-!
SUPPORT. Tests: small states that meet the hypotheses of every statement, ill-formed commands that the checks refuse,
and single steps whose results the spec gives.
-/

set_option Elab.async false

namespace Sys2Proof.Tests

open Sys2Proof.Machine

/-! ## Small states -/

/-- Powered, with the supervisor running and an IP address in use. -/
def up : State :=
  { State.reset with sys := { powered := true, supRuns := true } }.set F.ETH_IP_ACT_VALUE 1

/-- `up` in a state, with some register fields set. -/
def w (st : Nat) (l : List (Fld × Nat)) : State := l.foldl (fun s e => s.set e.1 e.2) (up.set F.SYS_STATE_STATE st)

/-- One board of four cells on a running ring. -/
def ring (st : Nat) (l : List (Fld × Nat)) : State :=
  { w st ([(F.CVL_STATUS_GEN, 2), (F.CVL_STATUS_MODE, 1), (F.CVL_BRD_CFG_COUNT 0, 4), (F.CVL_BRD_STATE_PRESENT 0, 1),
    (F.CVL_CFG_BOARDS, 1)] ++ l) with ring := { boards := 1 } }

/-- A host in the default session, one in session 9, and the TWS mailbox. -/
def udp : Ctx := ⟨.udp 1 2, .eth1, false, 0, 7⟩
def ses : Ctx := { udp with session := 9 }
def tws : Ctx := { udp with src := .tws }

/-- Session 9, authorised and with a nonce. -/
def user : Session :=
  { id := 9, src := .udp 1 2, port := .eth1, lastPkt := 0, authEnd := some 1000, nonce := some ([], 1000) }

def au (st : Nat) (l : List (Fld × Nat)) : State := { w st l with cmd := { sessions := [user], keys := [[1]] } }

/-- A COMMISSION state in which COMMISSION_DONE finds nothing missing. -/
def ready : State :=
  { ring stCommission [(F.SYS_MODE_PERSONALITY, 1), (F.EST_PACK_PACK, 1), (F.EST_VLIM_V_MAX, 4200),
      (F.SAFE_STATUS_SET_VALID, 1)] with
    ring := { boards := 1, brds := [(1, { read := true })] }
    acq := { wires := (brdWires (ring stCommission []) 1).map (fun x => (x, 0)) } }

/-- Thermal settings outside and estimation settings inside the ranges their commits check. -/
def badThm : State := w stStandby [(F.THM_CFG_FAULT_STEP, 9)]
def goodEst : State :=
  w stStandby [(F.EST_WINDOW_SOC_HIGH, 9000), (F.EST_WINDOW_SOC_LOW, 1000), (F.EST_LEARN_DSOC_MIN, 5000),
    (F.EST_UNC_UNC_MAX, 500), (F.EST_CFG_Q_MIN, 200), (F.EST_CFG_I_THRESH, 10), (F.EST_REST_DVDT_MAX, 100),
    (F.EST_REST_REST_MIN, 60), (F.EST_VIRT_RESID_MAX, 10), (F.EST_VIRT_I_MAX, 50), (F.EST_VIRT_HOLD_S, 60),
    (F.EST_LEARN_SLOPE_MIN, 50), (F.EST_LEARN_CAP_SIG_MAX, 20), (F.EST_UNC_CONV_SPAN, 500), (F.EST_NOISE_SIGMA_I, 10),
    (F.EST_NOISE_SIGMA_V, 100)]

/-- An idle bank that is valid, for a relay, a handover and a planner activation. -/
def relayable : State := w stStandby [(F.FWU_BANKS_SUP_B_VALID, 1), (F.ETH_STAT_LINK 0, 1)]
def handover : State := w stStandby [(F.FWU_BANKS_SUP_B_VALID, 1)]
def planner : State := au stStandby [(F.FWU_BANKS_PLN_B_VALID, 1)]

/-- Recipe 15 with one step, a rest. -/
def resting : State :=
  { w stStandby [(F.SYS_MODE_PERSONALITY, 2)] with
    disp := { recipes := [(15, { steps := [(0, [4, 0, 0xFF] ++ List.replicate 13 0 ++ [1] ++ List.replicate 31 0)] })] } }

/-- A recipe of one step of a second with a temperature condition that always holds. -/
def warm : Recipe :=
  { count := 1
    steps := [(0, [4, 0, 0xFF] ++ List.replicate 13 0 ++ [1, 0, 0, 0, 8, 1, 0, 0, 0, 0, 0, 0x80] ++ List.replicate 20 0)] }

/-- The action of the condition that holds when a step's longest time is over. -/
def heldAtMax (r : Run) (s : State) : Option Nat :=
  let b := stepRec (getRecipe s r.recipe) r.step
  let s1 := s.at ((r.stepAt + stTmax b * sec + 2499999) / 2500000 * 2500000)
  if r.stepAt + sec ≤ s1.time then termAction (tickView s1) s1 r b else none

/-- The state a setpoint's frame leaves before it is judged. -/
def heard (bytes : List Byte) (s : State) : State :=
  let f : CanFrame := { len := bytes.length, fdf := decide (8 < bytes.length), brs := false, data := bytes, at_ := s.time }
  let id := ownerWord (s.word F.DISP_CAN_ID_ID.addr)
  canIn .cana id.1 id.2 f s

/-- The state a chiller's frame leaves before the coolant is judged. -/
def answered (data : List Byte) (s : State) : State :=
  let id := ownerWord (s.word F.THM_CHL_RXID_ID.addr)
  let s1 := canIn .canb id.1 id.2 ⟨data.length, decide (8 < data.length), false, false, data, s.time⟩ s
  let bad := bitOf (BitVec.ofNat 32 (numAt data 0 1)) 1
  setThm { s1.thm with
    replyAt := some s1.time
    faults := if bad then s1.thm.faults + 1 else 0
    goods := if bad then 0 else s1.thm.goods + 1 } s1

/-- Lists filled with one entry. -/
theorem length_fill {α : Type} {x : α} {k n : Nat} (h : k ≤ n) : k ≤ (List.replicate n x).length := by
  rw [List.length_replicate]; exact h

theorem length_fill2 {α : Type} {x y z : α} {k n : Nat} (h : k ≤ n + 2) :
    k ≤ ([x, y] ++ List.replicate n z).length := by
  rw [List.length_append, List.length_replicate]; simp; omega

theorem all_fill {α : Type} {x : α} {n : Nat} {p : α → Prop} (h : p x) : ∀ y ∈ List.replicate n x, p y := by
  intro y hy; rw [List.eq_of_mem_replicate hy]; exact h

/-- The eight low bytes of a 256-bit value. -/
theorem take_bvBytes (x : BitVec 256) : (bvBytes 32 x).take 8 = bvBytes 8 (x.setWidth 64) := by
  simp only [bvBytes, leBytes, List.take, BitVec.toNat_setWidth, List.cons.injEq, and_true]
  refine ⟨?_, ?_, ?_, ?_, ?_, ?_, ?_, ?_⟩ <;> apply BitVec.eq_of_toNat_eq <;>
    simp only [BitVec.toNat_ofNat] <;> omega

/-- What an admission needs, as one test. -/
theorem adm {c : Ctx} {op : Nat} {s : State}
    (h : (rcpOpen c s && sessionOpen c s && (guardFail c op s).isNone) = true) : Safety.Admitted c op s := by
  simp only [Bool.and_eq_true, Option.isNone_iff_eq_none] at h
  exact ⟨h.1.1, h.1.2, h.2⟩

/-- The state `up` meets the safe conditions. -/
theorem safe_up : Safety.Safe up :=
  ⟨⟨by decide +kernel, by decide +kernel, by decide +kernel⟩,
    (by decide +kernel : ∀ c, c < 3 → up.flag (konLs c) = true → lowSideOk up = true), (by decide +kernel : up.flag F.SAFE_STATUS_SAFE_OK = safeOk up),
    ⟨by decide +kernel, by decide +kernel⟩, by decide +kernel, by decide +kernel, by decide +kernel, by decide +kernel⟩


/-- The hypotheses of StepTakesFrontCommand are met. -/
theorem witness_StepTakesFrontCommand :
    (∃ (c : Instr) (rest : List Instr) (s : State), s.pending = c :: rest) ∧
    (∃ (s : State), s.pending = []) :=
  ⟨⟨.ping udp [1], [], { w stStandby [] with pending := [.ping udp [1]] }, by decide +kernel⟩,
    ⟨State.reset, by decide +kernel⟩⟩

/-- The hypotheses of StepKeepsSafe are met. -/
theorem witness_StepKeepsSafe :
    (∃ (s : State) (t : State), Safety.Safe s ∧ step s = .next t) :=
  ⟨up, up, safe_up, rfl⟩

/-- The hypotheses of RefusedRequestOnlyReplies are met. -/
theorem witness_RefusedRequestOnlyReplies :
    (∃ (i : Instr) (c : Ctx) (op : ℕ) (s : State), Safety.rcpRow i = some (c, op) ∧ rcpOpen c s = false) ∧
    (∃ (i : Instr) (c : Ctx) (op : ℕ) (s : State), Safety.rcpRow i = some (c, op) ∧ rcpOpen c s = true ∧
      sessionOpen c s = false) ∧
    (∃ (i : Instr) (c : Ctx) (op : ℕ) (s : State) (st : ℕ) (pl : List Byte), Safety.rcpRow i = some (c, op) ∧
      rcpOpen c s = true ∧ sessionOpen c s = true ∧ guardFail c op s = some (st, pl)) :=
  ⟨⟨.ping udp [], udp, 0x0000, w stShip [], by decide +kernel⟩,
    ⟨.ping ses [], ses, 0x0000, w stStandby [], by decide +kernel⟩,
    ⟨.loopClose udp, udp, 0x0500, w stStandby [], stForbids, [], by decide +kernel⟩⟩

/-- The hypotheses of RefusedWriteOnlyNotes are met. -/
theorem witness_RefusedWriteOnlyNotes :
    (∃ (i : Instr) (p : Sys2Proof.Path) (a : Nat) (v : Word) (s : State), Safety.writeRow i = some (p, a, v) ∧
    writeAdmitted p a v s = false) :=
  ⟨.timeSetGo .win, .win, 0x440CC, 1, w stBoot [], by decide +kernel⟩

/-- The hypotheses of RegisterFileStaysCanonical are met. -/
theorem witness_RegisterFileStaysCanonical :
    (∃ (rf : List (ℕ × Word)), Safety.Canonical rf) :=
  ⟨[(0x34, 5), (0x300C, 1)], ⟨by decide +kernel, by decide +kernel⟩⟩

/-- The hypotheses of TickInstants are met. -/
theorem witness_TickInstants :
    (∃ (last : Option ℕ) (period : ℕ) (l : Nat), 0 < period ∧ l ∈ last) ∧
    (∃ (last : Option ℕ) (period : ℕ) (now : ℕ) (u : ℕ), 0 < period ∧ u % period = 0 ∧ now ≤ u ∧ (∀ l ∈ last, l < u)) :=
  ⟨⟨some 3, 5, 3, by decide +kernel⟩,
    ⟨some 3, 5, 4, 10, by decide +kernel⟩⟩

/-- The hypotheses of PacketParsesBack are met. -/
theorem witness_PacketParsesBack :
    (∃ (payload : List Byte), payload.length ≤ 1024) ∧
    (∃ (payload : List Byte), payload.length ≤ 255) :=
  ⟨⟨List.replicate 1024 0, by decide +kernel⟩,
    ⟨List.replicate 255 0, by decide +kernel⟩⟩

/-- The hypotheses of ReplyLayout are met. -/
theorem witness_ReplyLayout :
    (∃ (c : Ctx) (payload : List Byte), c.v1 = false ∧ payload.length ≤ 1024) :=
  ⟨udp, List.replicate 1024 0, by decide +kernel⟩

/-- The hypotheses of ClosedSessionGetsNoReply are met. -/
theorem witness_ClosedSessionGetsNoReply :
    (∃ (c : Ctx) (s : State), sessionOpen c s = false) ∧
    (∃ (s : State) (x : Slot), s.get F.FWU_STATUS_HO_STATE ≠ 3 ∧ nextSlot s = some x ∧ startFail x.ctx x.op
      { s with cmd := { s.cmd with slots := s.cmd.slots.map (fun y => if slotOf x.ctx y then { y with started := true } else y) } }
      = none) :=
  ⟨⟨ses, w stStandby [], by decide +kernel⟩,
    ⟨{ w stStandby [] with cmd := { slots := [⟨udp, 0x0501, [], false, 0, false⟩] } },
      ⟨udp, 0x0501, [], false, 0, false⟩, by decide +kernel⟩⟩

/-- The hypotheses of ReadClearsWhatItReturns are met. -/
theorem witness_ReadClearsWhatItReturns :
    (∃ (a : Nat) (b : ℕ), a < 0x100000 ∧ a ≠ 0x44080 ∧ b ≠ a) ∧
    (∃ (a : Nat) (mask : Word), commitBlock a = none ∧ writable a &&& mask = 0) :=
  ⟨⟨0x1040, 0x1044, by decide +kernel⟩,
    ⟨0x800, 0xFFFFFFFF, by decide +kernel⟩⟩

/-- The hypotheses of SessionCommandsComplete are met. -/
theorem witness_SessionCommandsComplete :
    (∃ (c : Ctx) (s : State), Safety.Admitted c 0 s ∧ Safety.Admitted c 1 s ∧ Safety.Admitted c 2 s ∧
    s.cmd.sessions.length < 8 ∧ Safety.Admitted c 3 s ∧ c.session = 0) ∧
    (∃ (c : Ctx) (s : State), Safety.Admitted c 3 s ∧ c.session ≠ 0 ∧ Safety.Admitted c 4 s ∧ numbered c s = true ∧
    isUdp c.src = true) ∧
    (∃ (id : BitVec 32) (s : State) (x : Session), findSession id s = some x) :=
  ⟨⟨udp, w stStandby [], adm (by decide +kernel), adm (by decide +kernel),
    adm (by decide +kernel), by decide +kernel, adm (by decide +kernel),
    by decide +kernel⟩,
    ⟨ses, au stStandby [], adm (by decide +kernel), by decide +kernel, adm (by decide +kernel), by decide +kernel⟩,
    ⟨9, au stStandby [], user, by decide +kernel⟩⟩

/-- The hypotheses of ClosedSessionIsGone are met. -/
theorem witness_ClosedSessionIsGone :
    (∃ (id : BitVec 32) (s : State) (x : Session), findSession id s = some x) :=
  ⟨9, au stStandby [], user, by decide +kernel⟩

/-- The hypotheses of AuthorisationCommandsComplete are met. -/
theorem witness_AuthorisationCommandsComplete :
    (∃ (c : Ctx) (s : State), Safety.Admitted c 0x0B00 s ∧ Safety.Admitted c 0x0B02 s ∧ numbered c s = true ∧ lockedOut
    s = false) ∧
    (∃ (c : Ctx) (s : State) (n : List Byte) (mac : BitVec 256), Safety.Admitted c 2817 s ∧ numbered c s = true ∧
    liveNonce c s = some n ∧ s.cmd.keys ≠ [] ∧ authMac c n s = bvBytes 32 mac) ∧
    (∃ (id : BitVec 32) (s : State) (x : Session) (t : ℕ), findSession id s = some x ∧ x.authEnd = some t) ∧
    (∃ (s : State) (t : ℕ), s.cmd.lockEnd = some t) ∧
    (∃ (c : Ctx) (s : State), Safety.Admitted c 2819 s ∧ s.cmd.keys = [] ∧ c.src = Src.tws) ∧
    (∃ (c : Ctx) (s : State) (n : List Byte) (wrapped : BitVec 256) (check : BitVec 64), Safety.Admitted c 0x0B04 s ∧
    s.cmd.keys.length < 8 ∧ liveNonce c s = some n ∧ (hmac (xorBytes (bvBytes 32 wrapped) (hmac (activeKey s) (n ++
    [0x4B, 0x52]))) n).take 8 = bvBytes 8 check) :=
  ⟨⟨ses, au stStandby [], adm (by decide +kernel), adm (by decide +kernel),
    by decide +kernel⟩,
    ⟨ses, au stStandby [], [], Config.hmac (activeKey (au stStandby [])) ([] ++ u32 (9 : BitVec 32).toNat ++ u64
    (serialNum (au stStandby [])) ++ u8 1), adm (by decide +kernel), by decide +kernel,
    by decide +kernel, by decide +kernel, rfl⟩,
    ⟨9, au stStandby [], user, 1000, by decide +kernel⟩,
    ⟨{ w stStandby [] with cmd := { lockEnd := some 5 } }, 5, by decide +kernel⟩,
    ⟨tws, w stCommission [], adm (by decide +kernel), by decide +kernel⟩,
    ⟨ses, au stStandby [], [], 0, (Config.hmac (xorBytes (bvBytes 32 (0 : BitVec 256)) (hmac (activeKey (au stStandby
    [])) [0x4B, 0x52])) []).setWidth 64, adm (by decide +kernel), by decide +kernel,
    by decide +kernel, take_bvBytes _⟩⟩

/-- The hypotheses of PacketAndQueueCommandsComplete are met. -/
theorem witness_PacketAndQueueCommandsComplete :
    (∃ (src : Src) (p : EthPort) (bytes : List Byte) (k : Pkt) (s : State) (r : Bool),
      rcpOpen ⟨src, p, false, 0, 0⟩ s = true ∧ parse (src == .cana) bytes = .good k ∧
      ¬ (k.op = 0x0600 ∧ isUdp src = true ∧ k.v1 = false) ∧ numbered ⟨src, p, k.v1, 0, 7⟩ (noteHeard s) = false ∧
      sessionOpen ⟨src, p, k.v1, 0, 7⟩ (noteHeard s) = true ∧
      (getChan src 0 (noteHeard s)).cache.find? (fun e => e.seq == k.seq) = none ∧
      (getChan src 0 (noteHeard s)).high = none ∧ opStates k.op ≠ [] ∧ lengthOk k.op k.payload = true ∧
      guardFail ⟨src, p, k.v1, 0, 7⟩ k.op (noteHeard s) = none ∧ queueSlot k.op (noteHeard s) = some r) ∧
    (∃ (src : Src) (p : EthPort) (bytes : List Byte) (s : State), rcpOpen ⟨src, p, false, 0, 0⟩ s = true ∧
      parse (src == Src.cana) bytes = Parsed.crc) ∧
    (∃ (s : State) (slot : Slot), s.get F.FWU_STATUS_HO_STATE ≠ 3 ∧ nextSlot s = some slot ∧ startFail slot.ctx slot.op
      { s with cmd := { s.cmd with slots := s.cmd.slots.map (fun y => if slotOf slot.ctx y then { y with started := true } else y) } }
      = none) ∧
    (∃ (body : List Byte) (s : State), canRcp s = true ∧ s.cmd.reasm = none ∧ body ≠ []) ∧
    (∃ (s : State) (x : Reasm), s.cmd.reasm = some x) ∧
    (∃ (slot : Slot) (s : State) (x : Session), findSession slot.ctx.session s = some x ∧ x.causes ≠ 0 ∧
      x.lastNote = none ∧ rcpOpen ⟨x.src, x.port, false, x.id, BitVec.ofNat 16 x.count⟩ s = true) :=
  ⟨⟨.udp 1 2, .eth1, Safety.request2 7 0x0501 0 [], ⟨false, 7, 0x0501, 0, []⟩, w stStandby [], false,
      by decide +kernel⟩,
    ⟨.udp 1 2, .eth1, (Safety.request2 7 0x0501 0 []).dropLast ++ [0], w stStandby [], by decide +kernel⟩,
    ⟨{ w stStandby [] with cmd := { slots := [⟨udp, 0x0501, [], false, 0, false⟩] } },
      ⟨udp, 0x0501, [], false, 0, false⟩, by decide +kernel⟩,
    ⟨[1], w stStandby [(canFld .cana 0 0 1, 1), (F.CMD_CAN_RXID_EN, 1)], by decide +kernel⟩,
    ⟨{ w stStandby [] with cmd := { reasm := some ⟨1, 1, [], 0⟩ } }, ⟨1, 1, [], 0⟩, by decide +kernel⟩,
    ⟨⟨ses, 0, [], false, 0, false⟩, { w stStandby [] with cmd := { sessions := [{ user with causes := 4 }] } },
      { user with causes := 4 }, by decide +kernel⟩⟩

/-- The hypotheses of QueueTakesSixtyFour are met. -/
theorem witness_QueueTakesSixtyFour :
    (∃ (src : Src) (p : EthPort) (b : Bool) (f : Bool) (bytes : List Byte) (s : State) (t : State), List.countP (fun x
    => !x.reserved) s.cmd.slots ≤ 56 ∧ List.countP (fun x => x.reserved) s.cmd.slots ≤ 8 ∧ exec
    (Instr.rcpPacketReceive src p b f bytes) s = Host.Outcome.next t) :=
  ⟨.udp 1 2, .eth1, false, false, Safety.request2 7 0x0501 0 [], up, _, by decide +kernel, by decide +kernel, rfl⟩

/-- The hypotheses of WakeAndStartUpCommandsComplete are met. -/
theorem witness_WakeAndStartUpCommandsComplete :
    (∃ (s : State) (t : ℕ), s.sys.powered = true ∧ (s.st = stShip ∨ s.st = stOasis) ∧ s.flag F.SYS_AON_CFG_WAKE_EN =
    true ∧ s.sys.wakeAt = some t ∧ s.sys.clkLost / 2048 % 2 = 0) ∧
    (∃ (s : State) (t : ℕ) (w : ℕ), s.sys.svcWait = some t ∧ w < 3 * sec) ∧
    (∃ (s : State), s.st = stBoot ∧ s.sys.supRuns = true ∧ s.flag F.CVL_STATUS_ENUM_BUSY = false ∧ s.get
    F.CVL_STATUS_GEN ≠ 0 ∧ s.sys.powered = true) :=
  ⟨⟨{ w stOasis [(F.SYS_AON_CFG_WAKE_EN, 1)] with sys := { powered := true, wakeAt := some 9 } }, 9, by decide +kernel⟩,
    ⟨{ w stBoot [] with sys := { powered := true, svcWait := some 9 } }, 9, 3 * sec - 1, by decide +kernel⟩,
    ⟨w stBoot [(F.CVL_STATUS_GEN, 2)], by decide +kernel⟩⟩

/-- The hypotheses of BootEndsInItsState are met. -/
theorem witness_BootEndsInItsState :
    (∃ (s : State), s.st = stBoot ∧ s.sys.supRuns = true ∧ s.flag F.CVL_STATUS_ENUM_BUSY = false ∧ s.get
    F.CVL_STATUS_GEN ≠ 0) :=
  ⟨w stBoot [(F.CVL_STATUS_GEN, 2)], by decide +kernel⟩

/-- The hypotheses of StateCommandsComplete are met. -/
theorem witness_StateCommandsComplete :
    (∃ (c : Ctx) (code : BitVec 8) (arg : Word) (s : State), Safety.Admitted c 0x0010 s ∧ 10 < code.toNat) ∧
    (∃ (c : Ctx) (code : BitVec 8) (arg : Word) (s : State), Safety.Admitted c 0x0010 s ∧ code.toNat ≤ 10 ∧ 86400 <
      arg.toNat) ∧
    (∃ (c : Ctx) (code : BitVec 8) (arg : Word) (s : State), Safety.Admitted c 0x0010 s ∧ arg.toNat ≤ 86400 ∧
      code.toNat = stStandby ∧ s.sys.stop ≠ none) ∧
    (∃ (c : Ctx) (code : BitVec 8) (arg : Word) (s : State), Safety.Admitted c 0x0010 s ∧ arg.toNat ≤ 86400 ∧
      code.toNat = stStandby ∧ s.sys.stop = none ∧ s.st = stStandby) ∧
    (∃ (c : Ctx) (code : BitVec 8) (arg : Word) (s : State), Safety.Admitted c 0x0010 s ∧ arg.toNat ≤ 86400 ∧
      code.toNat = stStandby ∧ s.sys.stop = none ∧ s.st = stPrecharge) ∧
    (∃ (c : Ctx) (code : BitVec 8) (arg : Word) (s : State), Safety.Admitted c 0x0010 s ∧ arg.toNat ≤ 86400 ∧
      code.toNat = stStandby ∧ s.sys.stop = none ∧ s.st = stRun) ∧
    (∃ (c : Ctx) (code : BitVec 8) (arg : Word) (s : State), Safety.Admitted c 0x0010 s ∧ arg.toNat ≤ 86400 ∧
      code.toNat = stStandby ∧ s.sys.stop = none ∧ s.st = stTest) ∧
    (∃ (c : Ctx) (code : BitVec 8) (arg : Word) (s : State), Safety.Admitted c 0x0010 s ∧ arg.toNat ≤ 86400 ∧
      code.toNat = stStandby ∧ s.sys.stop = none ∧ s.st ∉ [stStandby, stPrecharge, stRun, stTest]) ∧
    (∃ (c : Ctx) (code : BitVec 8) (arg : Word) (s : State), Safety.Admitted c 0x0010 s ∧ arg.toNat ≤ 86400 ∧
      code.toNat ≤ 10 ∧ code.toNat ≠ stStandby ∧ code.toNat = s.st) ∧
    (∃ (c : Ctx) (code : BitVec 8) (arg : Word) (s : State), Safety.Admitted c 0x0010 s ∧ arg.toNat ≤ 86400 ∧
      code.toNat ≤ 10 ∧ code.toNat ≠ stStandby ∧ code.toNat = stSafeStop ∧ s.st = stIsolated) ∧
    (∃ (c : Ctx) (code : BitVec 8) (arg : Word) (s : State), Safety.Admitted c 0x0010 s ∧ arg.toNat ≤ 86400 ∧
      code.toNat ≤ 10 ∧ code.toNat ≠ stStandby ∧ code.toNat = stIsolated ∧ s.st ≠ stIsolated) ∧
    (∃ (c : Ctx) (code : BitVec 8) (arg : Word) (s : State), Safety.Admitted c 0x0010 s ∧ arg.toNat ≤ 86400 ∧
      code.toNat ≤ 10 ∧ code.toNat ≠ stStandby ∧ code.toNat = stSafeStop ∧ s.st = stRun) ∧
    (∃ (c : Ctx) (code : BitVec 8) (arg : Word) (s : State), Safety.Admitted c 0x0010 s ∧ arg.toNat ≤ 86400 ∧
      code.toNat ≤ 10 ∧ code.toNat ≠ stStandby ∧ code.toNat = stSafeStop ∧ s.st ∉ [stRun, stSafeStop, stIsolated]) ∧
    (∃ (c : Ctx) (code : BitVec 8) (arg : Word) (s : State), Safety.Admitted c 0x0010 s ∧ arg.toNat ≤ 86400 ∧
      code.toNat ≤ 10 ∧ code.toNat ∉ [stStandby, stSafeStop, stIsolated, s.st] ∧ s.direct = true) ∧
    (∃ (c : Ctx) (code : BitVec 8) (arg : Word) (s : State), Safety.Admitted c 0x0010 s ∧ arg.toNat ≤ 86400 ∧
      code.toNat ≤ 10 ∧ code.toNat ∉ [stStandby, stSafeStop, stIsolated, s.st] ∧ s.direct = false ∧ s.flag
      F.SYS_STATE_TRANSITION = true) ∧
    (∃ (c : Ctx) (code : BitVec 8) (arg : Word) (s : State), Safety.Admitted c 0x0010 s ∧ arg.toNat ≤ 86400 ∧
      code.toNat ≤ 10 ∧ code.toNat ∉ [stStandby, stSafeStop, stIsolated, s.st] ∧ s.direct = false ∧ s.flag
      F.SYS_STATE_TRANSITION = false ∧ s.st ≠ stStandby) ∧
    (∃ (c : Ctx) (code : BitVec 8) (arg : Word) (s : State), Safety.Admitted c 0x0010 s ∧ arg.toNat ≤ 86400 ∧
      code.toNat ≤ 10 ∧ code.toNat ∉ [stStandby, stSafeStop, stIsolated, s.st] ∧ s.direct = false ∧ s.flag
      F.SYS_STATE_TRANSITION = false ∧ s.st = stStandby ∧ code.toNat = stRun ∧ runConditions (noteAdmit s) = false) ∧
    (∃ (c : Ctx) (code : BitVec 8) (arg : Word) (s : State), Safety.Admitted c 0x0010 s ∧ arg.toNat ≤ 86400 ∧
      code.toNat ≤ 10 ∧ code.toNat ∉ [stStandby, stSafeStop, stIsolated, s.st] ∧ s.direct = false ∧ s.flag
      F.SYS_STATE_TRANSITION = false ∧ s.st = stStandby ∧ code.toNat = stRun ∧ runConditions (noteAdmit s) = true ∧
      s.flag F.SYS_STATE_HOLD = true) ∧
    (∃ (c : Ctx) (code : BitVec 8) (arg : Word) (s : State), Safety.Admitted c 0x0010 s ∧ arg.toNat ≤ 86400 ∧
      code.toNat ≤ 10 ∧ code.toNat ∉ [stStandby, stSafeStop, stIsolated, s.st] ∧ s.direct = false ∧ s.flag
      F.SYS_STATE_TRANSITION = false ∧ s.st = stStandby ∧ code.toNat = stRun ∧ runConditions (noteAdmit s) = true ∧
      s.flag F.SYS_STATE_HOLD = false) ∧
    (∃ (c : Ctx) (code : BitVec 8) (arg : Word) (s : State), Safety.Admitted c 0x0010 s ∧ arg.toNat ≤ 86400 ∧
      code.toNat ≤ 10 ∧ code.toNat ∉ [stStandby, stSafeStop, stIsolated, s.st] ∧ s.direct = false ∧ s.flag
      F.SYS_STATE_TRANSITION = false ∧ s.st = stStandby ∧ code.toNat ≠ stRun ∧ s.flag F.SYS_STATE_HOLD = true) ∧
    (∃ (c : Ctx) (code : BitVec 8) (arg : Word) (s : State), Safety.Admitted c 0x0010 s ∧ arg.toNat ≤ 86400 ∧
      code.toNat ≤ 10 ∧ code.toNat ∉ [stStandby, stSafeStop, stIsolated, s.st] ∧ s.direct = false ∧ s.flag
      F.SYS_STATE_TRANSITION = false ∧ s.st = stStandby ∧ code.toNat = stOasis ∧ s.flag F.SYS_STATE_HOLD = false ∧
      s.flag F.FEED_STATUS_CHG_BUSY = true) ∧
    (∃ (c : Ctx) (code : BitVec 8) (arg : Word) (s : State), Safety.Admitted c 0x0010 s ∧ arg.toNat ≤ 86400 ∧
      code.toNat ≤ 10 ∧ code.toNat ∉ [stStandby, stSafeStop, stIsolated, s.st] ∧ s.direct = false ∧ s.flag
      F.SYS_STATE_TRANSITION = false ∧ s.st = stStandby ∧ code.toNat = stShip ∧ s.flag F.SYS_STATE_HOLD = false ∧
      s.flag F.FEED_STATUS_CHG_BUSY = false ∧ s.flag F.FEED_STATUS_SWAP_BUSY = false ∧ s.flag (postBusy .aon) = true)
      ∧
    (∃ (c : Ctx) (code : BitVec 8) (arg : Word) (s : State), Safety.Admitted c 0x0010 s ∧ arg.toNat ≤ 86400 ∧
      code.toNat ≤ 10 ∧ code.toNat ∉ [stStandby, stSafeStop, stIsolated, s.st] ∧ s.direct = false ∧ s.flag
      F.SYS_STATE_TRANSITION = false ∧ s.st = stStandby ∧ code.toNat = stShip ∧ s.flag F.SYS_STATE_HOLD = false ∧
      s.flag F.FEED_STATUS_CHG_BUSY = false ∧ s.flag F.FEED_STATUS_SWAP_BUSY = false ∧ s.flag (postBusy .aon) = false)
      ∧
    (∃ (c : Ctx) (code : BitVec 8) (arg : Word) (s : State), Safety.Admitted c 0x0010 s ∧ arg.toNat ≤ 86400 ∧
      code.toNat ≤ 10 ∧ code.toNat ∉ [stStandby, stSafeStop, stIsolated, s.st] ∧ s.direct = false ∧ s.flag
      F.SYS_STATE_TRANSITION = false ∧ s.st = stStandby ∧ code.toNat = stOasis ∧ s.flag F.SYS_STATE_HOLD = false ∧
      s.flag F.FEED_STATUS_CHG_BUSY = false ∧ s.flag F.FEED_STATUS_SWAP_BUSY = false ∧ s.flag (postBusy .aon) = false)
      ∧
    (∃ (c : Ctx) (code : BitVec 8) (arg : Word) (s : State), Safety.Admitted c 0x0010 s ∧ arg.toNat ≤ 86400 ∧
      code.toNat ≤ 10 ∧ code.toNat ∉ [stStandby, stSafeStop, stIsolated, s.st] ∧ s.direct = false ∧ s.flag
      F.SYS_STATE_TRANSITION = false ∧ s.st = stStandby ∧ code.toNat = stTest ∧ s.flag F.SYS_STATE_HOLD = false) ∧
    (∃ (c : Ctx) (code : BitVec 8) (arg : Word) (s : State), Safety.Admitted c 0x0010 s ∧ arg.toNat ≤ 86400 ∧
      code.toNat ≤ 10 ∧ code.toNat ∉ [stStandby, stSafeStop, stIsolated, s.st] ∧ s.direct = false ∧ s.flag
      F.SYS_STATE_TRANSITION = false ∧ s.st = stStandby ∧ code.toNat = stCommission ∧ s.flag F.SYS_STATE_HOLD = false)
      ∧
    (∃ (c : Ctx) (code : BitVec 8) (arg : Word) (s : State), Safety.Admitted c 0x0010 s ∧ arg.toNat ≤ 86400 ∧
      code.toNat ≤ 10 ∧ code.toNat ∉ [stStandby, stSafeStop, stIsolated, s.st] ∧ s.direct = false ∧ s.flag
      F.SYS_STATE_TRANSITION = false ∧ s.st = stStandby ∧ code.toNat ∉ [stRun, stOasis, stShip, stTest, stCommission]
      ∧ s.flag F.SYS_STATE_HOLD = false) ∧
    (∃ (c : Ctx) (s : State), Safety.Admitted c 0x0011 s ∧ s.st ≠ stRecovery) ∧
    (∃ (c : Ctx) (s : State), Safety.Admitted c 0x0011 s ∧ s.st = stRecovery) ∧
    (∃ (c : Ctx) (s : State), Safety.Admitted c 0x0012 s ∧ s.flag F.SYS_STATE_HOLD = true) ∧
    (∃ (c : Ctx) (s : State), Safety.Admitted c 0x0012 s ∧ s.flag F.SYS_STATE_HOLD = false ∧ s.fwu.pln ≠ none) ∧
    (∃ (c : Ctx) (s : State), Safety.Admitted c 0x0012 s ∧ s.flag F.SYS_STATE_HOLD = false ∧ s.fwu.pln = none) ∧
    (∃ (c : Ctx) (code : BitVec 8) (s : State), Safety.Admitted c 0x0014 s ∧ s.get F.SYS_MODE_PERSONALITY ≠ 0) ∧
    (∃ (c : Ctx) (code : BitVec 8) (s : State), Safety.Admitted c 0x0014 s ∧ s.get F.SYS_MODE_PERSONALITY = 0 ∧
      (code = 1 ∨ code = 2)) ∧
    (∃ (c : Ctx) (code : BitVec 8) (s : State), Safety.Admitted c 0x0014 s ∧ s.get F.SYS_MODE_PERSONALITY = 0 ∧ code
      ≠ 1 ∧ code ≠ 2) ∧
    (∃ (c : Ctx) (s : State), Safety.Admitted c 0x0015 s ∧ commissionCheck (noteAdmit s) = 0) ∧
    (∃ (c : Ctx) (s : State), Safety.Admitted c 0x0015 s ∧ commissionCheck (noteAdmit s) ≠ 0) ∧
    (∃ (s : State) (t : ℕ), s.sys.holdEnd = some t ∧ s.flag F.SYS_STATE_HOLD = true ∧ 10 ≤ s.safe.holdRun) ∧
    (∃ (s : State), s.st = stTest) :=
  ⟨⟨udp, 11, 0, w stStandby [], adm (by decide +kernel), by decide +kernel⟩,
    ⟨udp, 10, 86401, w stStandby [], adm (by decide +kernel), by decide +kernel⟩,
    ⟨udp, 5, 0, { w stRun [] with sys := { powered := true, stop := some ⟨.ramp, some 9, none⟩ } }, adm (by decide +kernel), by decide +kernel⟩,
    ⟨udp, 5, 86400, w stStandby [], adm (by decide +kernel), by decide +kernel⟩,
    ⟨udp, 5, 86400, w stPrecharge [], adm (by decide +kernel), by decide +kernel⟩,
    ⟨udp, 5, 86400, w stRun [], adm (by decide +kernel), by decide +kernel⟩,
    ⟨udp, 5, 86400, w stTest [], adm (by decide +kernel), by decide +kernel⟩,
    ⟨udp, 5, 0, w stIsolated [], adm (by decide +kernel), by decide +kernel⟩,
    ⟨udp, 7, 86400, w stRun [], adm (by decide +kernel), by decide +kernel⟩,
    ⟨udp, 8, 0, w stIsolated [], adm (by decide +kernel), by decide +kernel⟩,
    ⟨udp, 9, 0, w stStandby [], adm (by decide +kernel), by decide +kernel⟩,
    ⟨udp, 8, 0, w stRun [], adm (by decide +kernel), by decide +kernel⟩,
    ⟨udp, 8, 0, w stTest [], adm (by decide +kernel), by decide +kernel⟩,
    ⟨udp, 7, 0, w stStandby [(F.SYS_MODE_DIRECT, 1)], adm (by decide +kernel), by decide +kernel⟩,
    ⟨udp, 7, 0, w stStandby [(F.SYS_STATE_TRANSITION, 1)], adm (by decide +kernel), by decide +kernel⟩,
    ⟨udp, 7, 0, w stTest [], adm (by decide +kernel), by decide +kernel⟩,
    ⟨udp, 7, 0, w stStandby [], adm (by decide +kernel), by decide +kernel⟩,
    ⟨udp, 7, 0, w stStandby [(F.SAFE_CFG_SI0_USED, 0), (F.SAFE_CFG_SI1_USED, 0), (F.CVL_WADI_TONE, 1), (F.SYS_STATE_HOLD, 1)], adm (by decide +kernel), by decide +kernel⟩,
    ⟨udp, 7, 0, w stStandby [(F.SAFE_CFG_SI0_USED, 0), (F.SAFE_CFG_SI1_USED, 0), (F.CVL_WADI_TONE, 1)], adm (by decide +kernel), by decide +kernel⟩,
    ⟨udp, 10, 0, w stStandby [(F.SYS_STATE_HOLD, 1)], adm (by decide +kernel), by decide +kernel⟩,
    ⟨udp, 1, 0, w stStandby [(F.FEED_STATUS_CHG_BUSY, 1)], adm (by decide +kernel), by decide +kernel⟩,
    ⟨udp, 0, 86400, w stStandby [(postBusy .aon, 1)], adm (by decide +kernel), by decide +kernel⟩,
    ⟨udp, 0, 0, w stStandby [], adm (by decide +kernel), by decide +kernel⟩,
    ⟨udp, 1, 86400, w stStandby [], adm (by decide +kernel), by decide +kernel⟩,
    ⟨udp, 10, 86400, w stStandby [], adm (by decide +kernel), by decide +kernel⟩,
    ⟨udp, 4, 0, w stStandby [], adm (by decide +kernel), by decide +kernel⟩,
    ⟨udp, 2, 0, w stStandby [], adm (by decide +kernel), by decide +kernel⟩,
    ⟨udp, w stStandby [], adm (by decide +kernel), by decide +kernel⟩,
    ⟨udp, w stRecovery [], adm (by decide +kernel), by decide +kernel⟩,
    ⟨udp, w stStandby [(F.SYS_STATE_HOLD, 1)], adm (by decide +kernel), by decide +kernel⟩,
    ⟨udp, { w stStandby [] with fwu := { pln := some (udp, 3) } }, adm (by decide +kernel), by decide +kernel⟩,
    ⟨udp, w stStandby [], adm (by decide +kernel), by decide +kernel⟩,
    ⟨udp, 1, w stCommission [(F.SYS_MODE_PERSONALITY, 2)], adm (by decide +kernel), by decide +kernel⟩,
    ⟨udp, 2, w stCommission [], adm (by decide +kernel), by decide +kernel⟩,
    ⟨udp, 3, w stCommission [], adm (by decide +kernel), by decide +kernel⟩,
    ⟨udp, ready, adm (by decide +kernel), by decide +kernel⟩,
    ⟨udp, w stCommission [], adm (by decide +kernel), by decide +kernel⟩,
    ⟨{ w stStandby [(F.SYS_STATE_HOLD, 1)] with sys := { powered := true, holdEnd := some 9 }, safe := { holdRun := 10 } }, 9, by decide +kernel⟩,
    ⟨w stTest [], by decide +kernel⟩⟩

/-- The hypotheses of ReinitialiseCommandsComplete are met. -/
theorem witness_ReinitialiseCommandsComplete :
    (∃ (c : Ctx) (s : State), Safety.Admitted c 0x0C01 s ∧ anyClosed s = false ∧ s.flag F.SYS_STATE_HOLD = false ∧
      keepAlive s = false ∧ s.flag F.CVL_STATUS_ENUM_BUSY = false) ∧
    (∃ (c : Ctx) (s : State), Safety.Admitted c 0x0C01 s ∧ anyClosed s = true) ∧
    (∃ (c : Ctx) (s : State), Safety.Admitted c 0x0C01 s ∧ s.flag F.SYS_STATE_HOLD = true) ∧
    (∃ (c : Ctx) (s : State), Safety.Admitted c 0x0C01 s ∧ anyClosed s = false ∧ s.flag F.SYS_STATE_HOLD = false ∧
      s.flag F.CVL_STATUS_ENUM_BUSY = true) ∧
    (∃ (c : Ctx) (s : State), Safety.Admitted c 0x0C01 s ∧ anyClosed s = false ∧ s.flag F.SYS_STATE_HOLD = false ∧
      keepAlive s = true) ∧
    (∃ (c : Ctx) (s : State), Safety.Admitted c 0x0C02 s ∧ Safety.Admitted c 0x0C03 s ∧ Safety.Admitted c 0x0C04 s ∧
      Safety.Admitted c 0x0C05 s ∧ Safety.Admitted c 0x0C06 s ∧ Safety.Admitted c 0x0C07 s ∧ Safety.Admitted c 0x0C08
      s) ∧
    (∃ (c : Ctx) (n : BitVec 8) (s : State), Safety.Admitted c 0x0C05 s ∧ (n = 1 ∨ n = 2) ∧ Safety.Admitted c 0x0C08
      s ∧ n.toNat ≤ 7) ∧
    (∃ (c : Ctx) (n : BitVec 8) (s : State), Safety.Admitted c 0x0C05 s ∧ n ≠ 1 ∧ n ≠ 2 ∧ Safety.Admitted c 0x0C08 s
      ∧ n.toNat ≤ 7) ∧
    (∃ (c : Ctx) (n : BitVec 8) (s : State), Safety.Admitted c 0x0C08 s ∧ 7 < n.toNat) :=
  ⟨⟨udp, w stStandby [], adm (by decide +kernel), by decide +kernel⟩,
    ⟨udp, w stTest [(konCmd 0, 1), (konHs 0, 1), (konLs 0, 1), (konFb 0, 1)], adm (by decide +kernel), by decide +kernel⟩,
    ⟨udp, w stStandby [(F.SYS_STATE_HOLD, 1)], adm (by decide +kernel), by decide +kernel⟩,
    ⟨udp, w stStandby [(F.CVL_STATUS_ENUM_BUSY, 1)], adm (by decide +kernel), by decide +kernel⟩,
    ⟨udp, w stStandby [(F.CVL_STATUS_MODE, 3)], adm (by decide +kernel), by decide +kernel⟩,
    ⟨udp, w stStandby [], adm (by decide +kernel), adm (by decide +kernel), adm (by decide +kernel), adm (by decide +kernel), adm (by decide +kernel), adm (by decide +kernel), adm (by decide +kernel)⟩,
    ⟨udp, 2, w stStandby [], adm (by decide +kernel), by decide +kernel, adm (by decide +kernel), by decide +kernel⟩,
    ⟨udp, 7, w stStandby [], adm (by decide +kernel), by decide +kernel, by decide +kernel, adm (by decide +kernel), by decide +kernel⟩,
    ⟨udp, 8, w stStandby [], adm (by decide +kernel), by decide +kernel⟩⟩

/-- The hypotheses of SupervisorAndClockCommandsComplete are met. -/
theorem witness_SupervisorAndClockCommandsComplete :
    (∃ (s : State), s.awake = true ∧ s.direct = false ∧ s.fwu.ho = none ∧ hostPowered s = true ∧ enginesUp s = true)
      ∧
    (∃ (h : Handover) (s : State), s.awake = true ∧ s.direct = false ∧ s.fwu.ho = some h) ∧
    (∃ (s : State), s.st = stBoot ∧ s.sys.supRuns = true) ∧
    (∃ (s : State), hostPowered s = false ∧ s.sys.powered = true) ∧
    (∃ (i : Island) (s : State), s.sys.clkLost &&& 2 ^ islandBit i = 2 ^ islandBit i ∧ hostPowered s = false) ∧
    (∃ (i : Island) (s : State), s.sys.clkLost &&& 2 ^ islandBit i = 2 ^ islandBit i ∧ hostPowered s = true ∧ i ∉
      [Island.cva, Island.cvb, Island.safe, Island.logic]) ∧
    (∃ (i : Island) (s : State), s.sys.clkLost &&& 2 ^ islandBit i = 2 ^ islandBit i ∧ hostPowered s = true ∧ i =
      .cva) ∧
    (∃ (i : Island) (s : State), s.sys.clkLost &&& 2 ^ islandBit i = 2 ^ islandBit i ∧ hostPowered s = true ∧ i =
      .cvb) ∧
    (∃ (i : Island) (s : State), s.sys.clkLost &&& 2 ^ islandBit i = 2 ^ islandBit i ∧ hostPowered s = true ∧ i =
      .safe) ∧
    (∃ (i : Island) (s : State), s.sys.clkLost &&& 2 ^ islandBit i = 2 ^ islandBit i ∧ hostPowered s = true ∧ i =
      .logic) :=
  ⟨⟨w stRun [], by decide +kernel⟩,
    ⟨{ ctx := udp }, { w stRun [] with fwu := { ho := some { ctx := udp } } }, by decide +kernel⟩,
    ⟨w stBoot [], by decide +kernel⟩,
    ⟨w stOasis [], by decide +kernel⟩,
    ⟨.aon, { w stShip [] with sys := { powered := true, clkLost := 2048 } }, by decide +kernel⟩,
    ⟨.eth, { w stStandby [] with sys := { powered := true, clkLost := 128 } }, by decide +kernel⟩,
    ⟨.cva, { w stStandby [] with sys := { powered := true, clkLost := 0xFFF } }, by decide +kernel⟩,
    ⟨.cvb, { w stStandby [] with sys := { powered := true, clkLost := 0xFFF } }, by decide +kernel⟩,
    ⟨.safe, { w stStandby [] with sys := { powered := true, clkLost := 0xFFF } }, by decide +kernel⟩,
    ⟨.logic, { w stStandby [] with sys := { powered := true, clkLost := 0xFFF } }, by decide +kernel⟩⟩

/-- The hypotheses of DemandCommandsComplete are met. -/
theorem witness_DemandCommandsComplete :
    (∃ (ch : SiCh) (s : State), siTp s (chIdx ch / 2) = true ∧ s.st ≠ stShip ∧ s.flag (siTpf (chIdx ch)) = false ∧
      s.flag (siChan (chIdx ch)) = true) ∧
    (∃ (ch : SiCh) (s : State), siTp s (chIdx ch / 2) = true ∧ s.st ≠ stShip ∧ s.flag (siTpf (chIdx ch)) = false ∧
      s.flag (siChan (chIdx ch)) = true) ∧
    (∃ (si1 : Bool) (s : State), siUsed s (if si1 then 1 else 0) = true ∧ tDisc s (if si1 then 1 else 0) + 1 ≤ s.get
      (discCnt (if si1 then 1 else 0))) ∧
    (∃ (s : State), zslAuxOc s ≠ 0 ∧ s.st ≠ stShip) ∧
    (∃ (pos : ℕ) (high : Bool) (t : ℕ) (s : State), (if high = true then s.safe.ovRun else s.safe.uvRun).lookup pos
      = some t ∧ cellActs (s.at (t + s.get F.SAFE_CELL_DEB_CELL_DEB * ms)) = true) ∧
    (∃ (pos : ℕ) (high : Bool) (t : ℕ) (s : State), (if high = true then s.safe.ovRun else s.safe.uvRun).lookup pos
      = some t ∧ cellActs (s.at (t + s.get F.SAFE_CELL_DEB_CELL_DEB * ms)) = true) ∧
    (∃ (s : State), s.flag F.SAFE_STATUS_SET_VALID = true ∧ s.awake = true ∧ s.get F.SAFE_ENV_ENV_T ≤ s.safe.envRun)
      ∧
    (∃ (s : State), s.safe.scs ≠ none) ∧
    (∃ (t : ℕ) (s : State), s.safe.backupAt = some t ∧ ∃ s1, s1 = { s.at t with safe := { s.safe with backupAt :=
      none } } ∧ (holds s1 0 || holds s1 1 || holds s1 2) = true) :=
  ⟨⟨.si0b, w stStandby [(F.SAFE_CFG_SI0_TP, 1), (siChan 1, 1)], by decide +kernel⟩,
    ⟨.si1b, w stStandby [(F.SAFE_CFG_SI1_TP, 1), (siChan 3, 1)], by decide +kernel⟩,
    ⟨true, w stStandby [(F.SAFE_CFG_SI1_USED, 1), (F.SAFE_SI_DISC_T_DISC1, 4), (discCnt 1, 5)], by decide +kernel⟩,
    ⟨w stStandby [(F.SAFE_AUXOC_AUX_OC, 1)], by decide +kernel⟩,
    ⟨3, true, 7, { w stStandby [(F.SAFE_STATUS_SET_VALID, 1)] with safe := { ovRun := [(3, 7)] } }, by decide +kernel⟩,
    ⟨3, false, 7, { w stStandby [(F.SAFE_STATUS_SET_VALID, 1)] with safe := { uvRun := [(3, 7)] } }, by decide +kernel⟩,
    ⟨{ w stStandby [(F.SAFE_STATUS_SET_VALID, 1), (F.SAFE_ENV_ENV_T, 5)] with safe := { envRun := 5 } }, by decide +kernel⟩,
    ⟨{ w stRun [] with safe := { scs := some ⟨0, 1, 0⟩ } }, by decide +kernel⟩,
    ⟨4, { w stRun [(konCmd 1, 1), (konHs 1, 1), (konLs 1, 1), (konFb 1, 1)] with safe := { backupAt := some 4 } }, rfl, _, rfl, by decide +kernel⟩⟩

/-- The hypotheses of ContactorCommandsComplete are met. -/
theorem witness_ContactorCommandsComplete :
    (∃ (s : State), hostPowered s = true) ∧
    (∃ (k : Contactor) (t : ℕ) (s : State), s.safe.closeAt.lookup (conIdx k) = some t ∧ s.safe.test = none ∧ (addRec
    sevFault 0x0B 0x0010 (u8 (conIdx k)) ((openAll (s.at (t + 100 * ms))).setB (konFail (conIdx k)) true)).safe.test
    = none ∧ (addRec sevFault 0x0B 0x0010 (u8 (conIdx k)) ((openAll (s.at (t + 100 * ms))).setB (konFail (conIdx k))
    true)).st = stStandby) ∧
    (∃ (k : Contactor) (s : State), s.flag (konCmd (conIdx k)) = true ∧ s.flag (konFb (conIdx k)) = false ∧
    (s.safe.closeAt.any fun e => e.1 == conIdx k) = false) ∧
    (∃ (k : Contactor) (t : ℕ) (s : State), s.safe.openAt.lookup (conIdx k) = some t) ∧
    (∃ (p : CoilPulse) (s : State), s.safe.pulse = some p ∧ p.offDemand = false) ∧
    (∃ (p : CoilPulse) (s : State), s.safe.pulse = some p ∧ p.offDemand = true) ∧
    (∃ (c : Ctx) (n : BitVec 8) (channel : BitVec 8) (s : State), Safety.Admitted c 0x0800 s ∧ n.toNat ≤ 2 ∧
    channel.toNat ≤ 2 ∧ s.safe.test = none ∧ (∀ j, j ≤ 2 → j ≠ n.toNat → s.flag (konFb j) = false)) ∧
    (∃ (x : ConTest) (s : State), s.safe.test = some x ∧ x.phase = .holding) ∧
    (∃ (x : ConTest) (s : State), s.safe.test = some x ∧ x.phase = .opening) ∧
    (∃ (c : Ctx) (s : State), Safety.Admitted c 2049 s) :=
  ⟨⟨w stStandby [], by decide +kernel⟩,
    ⟨.pc, 5, { w stStandby [] with safe := { closeAt := [(2, 5)] } }, by decide +kernel⟩,
    ⟨.mp, w stRun [(konCmd 0, 1)], by decide +kernel⟩,
    ⟨.mn, 5, { w stStandby [] with safe := { openAt := [(1, 5)] } }, by decide +kernel⟩,
    ⟨⟨0, true, 9, false⟩, { w stRun [] with safe := { pulse := some ⟨0, true, 9, false⟩ } }, by decide +kernel⟩,
    ⟨⟨0, true, 9, true⟩, { w stRun [] with safe := { pulse := some ⟨0, true, 9, true⟩ } }, by decide +kernel⟩,
    ⟨udp, 2, 2, w stTest [(konFb 2, 1)], adm (by decide +kernel), by decide +kernel⟩,
    ⟨⟨1, 2, .holding, 4, 5, none, false, udp⟩,
    { w stTest [] with safe := { test := some ⟨1, 2, .holding, 4, 5, none, false, udp⟩ } }, by decide +kernel⟩,
    ⟨⟨1, 2, .opening, 4, 5, none, false, udp⟩,
    { w stTest [] with safe := { test := some ⟨1, 2, .opening, 4, 5, none, false, udp⟩ } }, by decide +kernel⟩,
    ⟨udp, w stStandby [], adm (by decide +kernel)⟩⟩

/-- The hypotheses of IsolationResetAndStopComplete are met. -/
theorem witness_IsolationResetAndStopComplete :
    (∃ (c : Ctx) (s : State), Safety.Admitted c 19 s) ∧
    (∃ (s : State), s.st = stIsolated ∧ hostPowered s = true) ∧
    (∃ (x : Stop) (t : ℕ) (s : State), s.sys.stop = some x ∧ x.deadline = some t ∧ s.st = stRun) :=
  ⟨⟨ses, au stIsolated [], adm (by decide +kernel)⟩,
    ⟨w stIsolated [], by decide +kernel⟩,
    ⟨⟨.ramp, some 9, none⟩, 9, { w stRun [] with sys := { powered := true, stop := some ⟨.ramp, some 9, none⟩ } },
    by decide +kernel⟩⟩

/-- The hypotheses of CanCommandsComplete are met. -/
theorem witness_CanCommandsComplete :
    (∃ (ch : CanCh) (fdf : Bool) (s : State), canOn s ch = true ∧ (fdf = false ∨ canFdEn s ch = true)) ∧
    (∃ (ch : CanCh) (fdf : Bool) (s : State), canOn s ch = true ∧ (fdf = false ∨ canFdEn s ch = true)) ∧
    (∃ (ch : CanCh) (fdf : Bool) (s : State), canOn s ch = false ∨ (fdf = true ∧ canFdEn s ch = false)) ∧
    (∃ (p : Sys2Proof.Path) (ch : CanCh) (value : Word) (s : State), writeAdmitted p (canBase ch + 528) value s =
      true ∧ writeAdmitted p (canBase ch + 912) value s = true ∧ writeAdmitted p (canBase ch + 32) value s = true) ∧
    (∃ (p : Sys2Proof.Path) (ch : CanCh) (value : Word) (s : State), writeAdmitted p (canBase ch + 0x388) value s =
      true ∧ bitOf value 0 = true ∧ (txIdent s ch (s.get (canFld ch 0x380 0 5))).isNone = false ∧ txOwned s ch (s.get
      (canFld ch 0x380 0 5)) = false ∧ s.flag (txPend ch (s.get (canFld ch 0x380 0 5))) = false ∧ lenOk (s.flag
      (canFld ch 0x384 8 1)) (s.get (canFld ch 0x384 0 8)) = true ∧ (s.flag (canFld ch 0x384 8 1) = false ∨ canFdEn s
      ch = true)) ∧
    (∃ (ch : CanCh) (i : ℕ) (s : State), canOn s ch = true ∧ (canChan s ch).cur = some i) ∧
    (∃ (ch : CanCh) (tx : Bool) (i : ℕ) (s : State), canOn s ch = true ∧ (tx = false ∨ (canChan s ch).cur = some i))
      ∧
    (∃ (ch : CanCh) (tx : Bool) (i : ℕ) (s : State), canOn s ch = true ∧ (tx = false ∨ (canChan s ch).cur = some i))
      ∧
    (∃ (ch : CanCh) (s : State), s.flag (canBusOff ch) = true ∧ (s.flag (canFld ch 0 8 1) = false ∨ (canChan s
      ch).released = true)) :=
  ⟨⟨.cana, false, w stStandby [(canFld .cana 0 0 1, 1)], by decide +kernel⟩,
    ⟨.cana, true, w stStandby [(canFld .cana 0 0 1, 1), (canFld .cana 0 2 1, 1)], by decide +kernel⟩,
    ⟨.canb, true, w stStandby [(canFld .canb 0 0 1, 1)], by decide +kernel⟩,
    ⟨.win, .canb, 1, w stStandby [], by decide +kernel⟩,
    ⟨.win, .cana, 1, w stStandby [(canFld .cana 0 0 1, 1), (canFld .cana 0x300 0 32, 0x80000012), (canFld .cana 0x384 0 8, 8)],
      by decide +kernel⟩,
    ⟨.cana, 3, { w stStandby [(canFld .cana 0 0 1, 1)] with bus := { cana := { cur := some 3 } } }, by decide +kernel⟩,
    ⟨.cana, false, 0, w stStandby [(canFld .cana 0 0 1, 1)], by decide +kernel⟩,
    ⟨.cana, true, 3, { w stStandby [(canFld .cana 0 0 1, 1)] with bus := { cana := { cur := some 3 } } }, by decide +kernel⟩,
    ⟨.canb, { w stStandby [(canBusOff .canb, 1)] with bus := { canb := { released := true } } }, by decide +kernel⟩⟩

/-- The hypotheses of FieldInputAndOutputCommandsComplete are met. -/
theorem witness_FieldInputAndOutputCommandsComplete :
    (∃ (s : State), hostPowered s = true ∧ 100 ≤ s.dio.lowRun ∧ s.flag F.DIO_FIELD_LOW = false ∧ 1000 ≤
      s.dio.highRun) ∧
    (∃ (x : ℕ), x < 16) ∧
    (∃ (x : ℕ) (s : State), x < 8 ∧ 1000 ≤ tabGet s.dio.extLow (doLead s x) 0 ∧ hostPowered s = true ∧ doHas s
      F.DIO_DO_FAULT_THERM (doLead s x) = false) ∧
    (∃ (s : State), s.dio.retryDue = true) ∧
    (∃ (p : Sys2Proof.Path) (value : Word) (s : State), writeAdmitted p 0x32040 value s = true) ∧
    (∃ (s : State), s.get F.DIO_DO_TMO_TMO ≠ 0 ∧ s.flag F.DIO_DO_STATE_TMO_ACTIVE = false ∧ hostPowered s = true) ∧
    (∃ (p : Sys2Proof.Path) (value : Word) (s : State), writeAdmitted p 0x32058 value s = true ∧ s.flag
      F.DIO_DO_CROSS_VALID = true ∧ s.dio.pairs = [(s.get F.DIO_DO_CROSS_ON_CH, s.get F.DIO_DO_CROSS_OFF_CH)] ∧ (∃ m ∈
      doGroup s (s.get F.DIO_DO_CROSS_ON_CH) ++ doGroup s (s.get F.DIO_DO_CROSS_OFF_CH), bitOf value m = true)) ∧
    (∃ (p : Sys2Proof.Path) (value : Word) (s : State), writeAdmitted p 0x32058 value s = true ∧ (∀ e ∈ s.dio.pairs,
      ∀ m ∈ doGroup s e.1 ++ doGroup s e.2, bitOf value m = false) ∧ s.dio.pairs.contains (s.get F.DIO_DO_CROSS_ON_CH,
      s.get F.DIO_DO_CROSS_OFF_CH) = true) :=
  ⟨⟨{ w stStandby [] with dio := { lowRun := 100, highRun := 1000 } }, by decide +kernel⟩,
    ⟨15, by decide +kernel⟩,
    ⟨7, { w stStandby [] with dio := { extLow := [(7, 1000)] } }, by decide +kernel⟩,
    ⟨{ w stStandby [] with dio := { retryDue := true } }, by decide +kernel⟩,
    ⟨.win, 255, w stStandby [], by decide +kernel⟩,
    ⟨w stStandby [(F.DIO_DO_TMO_TMO, 10)], by decide +kernel⟩,
    ⟨.win, 2, { w stStandby [(F.DIO_DO_CROSS_VALID, 1), (F.DIO_DO_CROSS_ON_CH, 1)] with dio := { pairs := [(1, 0)] } }, by decide +kernel⟩,
    ⟨.win, 0xFC, { w stStandby [(F.DIO_DO_CROSS_VALID, 1), (F.DIO_DO_CROSS_ON_CH, 1)] with dio := { pairs := [(1, 0)] } }, by decide +kernel⟩⟩

/-- The hypotheses of RegisterAccessCommandsComplete are met. -/
theorem witness_RegisterAccessCommandsComplete :
    (∃ (c : Ctx) (count : BitVec 16) (addr : Word) (s : State), Safety.Admitted c 0x0100 s ∧ 1 ≤ count.toNat ∧
    count.toNat ≤ 256 ∧ (∀ i, i < count.toNat → validAddr (addr.toNat + 4 * i) = true) ∧ (c.v1 = true → count.toNat
    ≤ 63)) ∧
    (∃ (c : Ctx) (count : BitVec 16) (addr : Word) (s : State), Safety.Admitted c 0x0100 s ∧ 1 ≤ count.toNat ∧
    count.toNat ≤ 256 ∧ (∀ i, i < count.toNat → validAddr (addr.toNat + 4 * i) = true) ∧ c.v1 = true ∧ count.toNat ≤
    63) ∧
    (∃ (c : Ctx) (values : List Word) (s : State), Safety.Admitted c 0x0101 s ∧ 1 ≤ values.length ∧ values.length ≤ 64) ∧
    (∃ (c : Ctx) (addr : Word) (mask : Word) (value : Word) (s : State), Safety.Admitted c 0x0102 s ∧ validAddr
    addr.toNat = true ∧ s.direct = false ∧ (writeWord (.rcp c) addr.toNat (merge (readWord addr.toNat (noteAdmit
    s)).2 mask value) (readWord addr.toNat (noteAdmit s)).1).2 = .ok) ∧
    (∃ (p : Sys2Proof.Path) (addr : Word) (value : Word) (s : State), BitVec.toNat addr < 1048576 ∧ validAddr
    (BitVec.toNat addr) = true ∧ writeAdmitted p (BitVec.toNat addr) value s = true ∧ commitBlock (BitVec.toNat
    addr) = none ∧ codeMask Access.w1 (BitVec.toNat addr) = 0 ∧ codeMask Access.ws (BitVec.toNat addr) = 0 ∧
    codeMask Access.wp (BitVec.toNat addr) = 0 ∧ writable (BitVec.toNat addr) = 0) ∧
    (∃ (p : Sys2Proof.Path) (addr : Word) (value : Word) (s : State), BitVec.toNat addr < 1048576 ∧ validAddr
    (BitVec.toNat addr) = true ∧ writeAdmitted p (BitVec.toNat addr) value s = true ∧ commitBlock (BitVec.toNat
    addr) = none ∧ codeMask Access.w1 (BitVec.toNat addr) = 0 ∧ codeMask Access.ws (BitVec.toNat addr) = 0 ∧
    codeMask Access.wp (BitVec.toNat addr) = 0 ∧ writable (BitVec.toNat addr) ≠ 0 ∧ lockMask s (BitVec.toNat addr) =
    0 ∧ rangeOk s (BitVec.toNat addr) value = true) ∧
    (∃ (addr : Word) (s : State), isAlias (BitVec.toNat addr) = true ∧ validAddr (BitVec.toNat addr) = true ∧
    hostPowered s = true) :=
  ⟨⟨udp, 256, 0x30000, w stStandby [], adm (by decide +kernel), by decide +kernel⟩,
    ⟨{ udp with v1 := true }, 63, 0x30000, w stStandby [], adm (by decide +kernel), by decide +kernel⟩,
    ⟨udp, List.replicate 64 0, w stStandby [], adm (by decide +kernel), by decide +kernel⟩,
    ⟨udp, 0x1100, 1, 1, w stStandby [], adm (by decide +kernel), by decide +kernel⟩,
    ⟨.win, 0x800, 1, w stStandby [], by decide +kernel⟩,
    ⟨.win, 0x1104, 1, w stStandby [], by decide +kernel⟩,
    ⟨0x1000000, w stStandby [], by decide +kernel⟩⟩

/-- The hypotheses of CommitAndPostCommandsComplete are met. -/
theorem witness_CommitAndPostCommandsComplete :
    (∃ (p : Sys2Proof.Path) (addr : Word) (value : Word) (s : State) (b : Block), BitVec.toNat addr < 1048576 ∧
    validAddr (BitVec.toNat addr) = true ∧ writeAdmitted p (BitVec.toNat addr) value s = true ∧ commitBlock
    (BitVec.toNat addr) = none ∧ codeMask Access.w1 (BitVec.toNat addr) = 0 ∧ lockMask s (BitVec.toNat addr) = 0 ∧
    codeMask Access.ws (BitVec.toNat addr) ≠ 0 ∧ blockOf (BitVec.toNat addr) = some b ∧ s.flag (shPending b) =
    false) ∧
    (∃ (p : Sys2Proof.Path) (addr : Word) (value : Word) (s : State), BitVec.toNat addr < 1048576 ∧ validAddr
    (BitVec.toNat addr) = true ∧ writeAdmitted p (BitVec.toNat addr) value s = true ∧ commitBlock (BitVec.toNat
    addr) = none ∧ codeMask Access.w1 (BitVec.toNat addr) = 0 ∧ lockMask s (BitVec.toNat addr) = 0 ∧ codeMask
    Access.ws (BitVec.toNat addr) = 0 ∧ codeMask Access.wp (BitVec.toNat addr) ≠ 0 ∧ BitVec.toNat addr ≠ 65604 ∧
    rangeOk s (BitVec.toNat addr) value = true ∧ s.flag (postBusy (domainOf (BitVec.toNat addr))) = false) ∧
    (∃ (p : Sys2Proof.Path) (b : Block) (token : BitVec 16) (s : State), writeAdmitted p (commitAddr b) (commitWord 90
    token) s = true ∧ writeAdmitted p (commitAddr b) (commitWord 209 token) s = true) ∧
    (∃ (b : Block) (s : State), hostPowered s = true ∧ s.flag (shPending b) = true) ∧
    (∃ (d : Domain) (s : State) (y : Post × State), takePost d s = some y) ∧
    (∃ (p : Sys2Proof.Path) (value : Word) (s : State), writeAdmitted p 77888 value s = true ∧ lockMask s 77888 = 0 ∧
    rangeOk s 77888 value = true ∧ s.flag (postBusy Domain.mram) = false) ∧
    (∃ (p : Sys2Proof.Path) (value : Word) (s : State), writeAdmitted p 65604 value s = true) :=
  ⟨⟨.win, 0x23000, 5, w stStandby [], .thm, by decide +kernel⟩,
    ⟨.win, 0x13044, 5, w stCommission [], by decide +kernel⟩,
    ⟨.win, .ctl, 0, w stStandby [], by decide +kernel⟩,
    ⟨.est, w stStandby [(shPending .est, 1)], by decide +kernel⟩,
    ⟨.mram,
    { w stStandby [] with sys := { powered := true, posts := [⟨.mram, 0x13044, 0xFFFFFFFF, 5, inside, false, 0⟩] } },
    _, rfl⟩,
    ⟨.win, 1, w stCommission [], by decide +kernel⟩,
    ⟨.win, 1, w stStandby [], by decide +kernel⟩⟩

/-- The hypotheses of CommitIsTestedInOrder are met. -/
theorem witness_CommitIsTestedInOrder :
    (∃ (v : Word), fieldOf v 24 8 ≠ 0x5A ∧ fieldOf v 24 8 ≠ 0xD1) ∧
    (∃ (v : Word) (b : Block) (s : State), (fieldOf v 24 8 = 0x5A ∨ fieldOf v 24 8 = 0xD1) ∧ s.flag (shPending b) =
    true) ∧
    (∃ (v : Word) (b : Block) (s : State), (fieldOf v 24 8 = 0x5A ∨ fieldOf v 24 8 = 0xD1) ∧ s.flag (shPending b) =
    false ∧ fieldOf v 0 16 ≠ s.get (shToken b)) ∧
    (∃ (v : Word) (b : Block) (s : State), fieldOf v 24 8 = 0xD1 ∧ s.flag (shPending b) = false ∧ fieldOf v 0 16 = s.get
    (shToken b)) ∧
    (∃ (v : Word) (p : Path) (b : Block) (s : State), fieldOf v 24 8 = 0x5A ∧ s.flag (shPending b) = false ∧ fieldOf v 0
    16 = s.get (shToken b) ∧ commitAuth b p s = false) ∧
    (∃ (v : Word) (p : Path) (b : Block) (s : State) (r : WRes), fieldOf v 24 8 = 0x5A ∧ s.flag (shPending b) = false ∧
    fieldOf v 0 16 = s.get (shToken b) ∧ commitAuth b p s = true ∧ blockState b s = some r) ∧
    (∃ (v : Word) (p : Path) (b : Block) (s : State), fieldOf v 24 8 = 0x5A ∧ s.flag (shPending b) = false ∧ fieldOf v 0
    16 = s.get (shToken b) ∧ commitAuth b p s = true ∧ blockState b s = none ∧ blockChecks b s = false) ∧
    (∃ (v : Word) (p : Path) (b : Block) (s : State), fieldOf v 24 8 = 0x5A ∧ s.flag (shPending b) = false ∧ fieldOf v 0
    16 = s.get (shToken b) ∧ commitAuth b p s = true ∧ blockState b s = none ∧ blockChecks b s = true) :=
  ⟨⟨0x5B000000, by decide +kernel⟩,
    ⟨0xD1000000, .ctl, w stStandby [(shPending .ctl, 1)], by decide +kernel⟩,
    ⟨0x5A000001, .ctl, w stStandby [], by decide +kernel⟩,
    ⟨0xD1000000, .ctl, w stStandby [], by decide +kernel⟩,
    ⟨0x5A000000, .win, .safe, w stStandby [], by decide +kernel⟩,
    ⟨0x5A000000, .win, .cvl, w stRun [], .forbids, by decide +kernel⟩,
    ⟨0x5A000000, .win, .thm, badThm, by decide +kernel⟩,
    ⟨0x5A000000, .win, .est, goodEst, by decide +kernel⟩⟩

/-- The hypotheses of CommitTakesTheWholeShadow are met. -/
theorem witness_CommitTakesTheWholeShadow :
    (∃ (b : Block) (s : State), (b = Block.cvl ∨ b = Block.est ∨ b = Block.thm) ∧ hostPowered s = true ∧ s.flag
    (shPending b) = true ∧ (List.map (fun x => x.1) s.shadow).Nodup ∧ (∀ e ∈ s.shadow, blockOf e.1 = some b →
    codeMask Access.ws e.1 ≠ 0)) :=
  ⟨.est, { w stStandby [(shPending .est, 1)] with shadow := [(0x13000, 1)] }, by decide +kernel⟩

/-- The hypotheses of SnapshotAndInterruptCommandsComplete are met. -/
theorem witness_SnapshotAndInterruptCommandsComplete :
    (∃ (p : Sys2Proof.Path) (s : State), writeAdmitted p 80 1 s = true) ∧
    (∃ (c : Ctx) (s : State), Safety.Admitted c 0x0006 s) ∧
    (∃ (s : State), s.sys.snapReq = true ∧ enginesUp s = true ∧ s.sys.snapCtx = []) ∧
    (∃ (p : Sys2Proof.Path) (s : State), writeAdmitted p 0x1004 (s.word 0x1004 ||| 2) s = true) :=
  ⟨⟨.win, w stStandby [], by decide +kernel⟩,
    ⟨udp, w stStandby [], adm (by decide +kernel)⟩,
    ⟨{ w stStandby [] with sys := { powered := true, snapReq := true } }, by decide +kernel⟩,
    ⟨.win, w stStandby [], by decide +kernel⟩⟩

/-- The hypotheses of TickCommandsComplete are met. -/
theorem witness_TickCommandsComplete :
    (∃ (s : State), enginesUp s = true ∧ s.awake = true ∧ supActs s = true ∧ ringRuns s = true ∧ isC1 s = false ∧
      lanesRun s = true ∧ hostPowered s = true) ∧
    (∃ (s : State), ringRuns s = true ∧ isC1 s = true) :=
  ⟨⟨ring stRun [], by decide +kernel⟩,
    ⟨ring stRun [(F.CVL_STATUS_GEN, 1)], by decide +kernel⟩⟩

/-- The hypotheses of ATickAdvancesTimeAlone are met. -/
theorem witness_ATickAdvancesTimeAlone :
    (∃ (period : ℕ) (k : ℕ) (kind : ℕ), 0 < period ∧ k ≠ kind) :=
  ⟨250, 1, 0, by decide +kernel⟩

/-- The hypotheses of RingCommandsComplete are met. -/
theorem witness_RingCommandsComplete :
    (∃ (t : ℕ) (s : State), ringRuns s = true ∧ isC1 s = false ∧ s.ring.t0 = some t) ∧
    (∃ (k : ℕ) (code result : BitVec 8) (x : BoardCmd) (s : State), findCmd k code.toNat s = some x ∧ ringRuns s =
      true ∧ result = 0) ∧
    (∃ (k : ℕ) (code result : BitVec 8) (x : BoardCmd) (s : State), findCmd k code.toNat s = some x ∧ ringRuns s =
      true ∧ result ≠ 0 ∧ (x.code = 0x18 ∨ x.code = 0x1A) ∧ x.tries < 2) ∧
    (∃ (k : ℕ) (code result : BitVec 8) (x : BoardCmd) (s : State), findCmd k code.toNat s = some x ∧ ringRuns s =
      true ∧ result ≠ 0 ∧ x.code ≠ 0x18 ∧ x.code ≠ 0x1A) ∧
    (∃ (k : ℕ) (code result : BitVec 8) (x : BoardCmd) (s : State), findCmd k code.toNat s = some x ∧ ringRuns s =
      true ∧ result ≠ 0 ∧ 2 ≤ x.tries) ∧
    (∃ (k : ℕ) (code : BitVec 8) (x : BoardCmd) (s : State), findCmd k code.toNat s = some x ∧ 4 ≤ x.age ∧ x.tries <
      2) ∧
    (∃ (k : ℕ) (code : BitVec 8) (x : BoardCmd) (s : State), findCmd k code.toNat s = some x ∧ 4 ≤ x.age ∧ 2 ≤
      x.tries) ∧
    (∃ (k : ℕ) (s : State), 1 ≤ k ∧ k ≤ boards s ∧ missLimit s ≤ (getBrd s k).missRun ∧ missing s k = false) ∧
    (∃ (k : ℕ) (s : State), 1 ≤ k ∧ k ≤ boards s ∧ 16 ≤ (getBrd s k).goodRun ∧ (getBrd s k).read = true) ∧
    (∃ (s : State), s.flag F.CVL_STATUS_ENUM_BUSY = true ∧ enginesUp s = true ∧ s.ring.tokenB = false) ∧
    (∃ (s : State), ringRuns s = true ∧ s.ring.split = true ∧ keepAlive s = false ∧ portGone s = false) ∧
    (∃ (s : State), s.ring.restoring = some true) ∧
    (∃ (s : State), keepAlive s = true ∧ s.sys.supRuns = true ∧ s.get F.CVL_STATUS_GEN ≠ 0) ∧
    (∃ (s : State), ringRuns s = true ∧ keepAlive s = false) ∧
    (∃ (pos : ℕ) (s : State), pos < posCount s ∧ readingsCount s = true) ∧
    (∃ (pos : ℕ) (s : State), pos < posCount s ∧ readingsCount s = false) :=
  ⟨⟨14125, { ring stRun [] with ring := { boards := 1, t0 := some 14125 } }, by decide +kernel⟩,
    ⟨1, 0x18, 0, { board := 1, code := 0x18, payload := [], sent := true, tries := 0, age := 0 },
      { ring stRun [] with ring := { boards := 1, cmds := [{ board := 1, code := 0x18, payload := [], sent := true, tries := 0, age := 0 }] } }, by decide +kernel⟩,
    ⟨1, 0x1A, 1, { board := 1, code := 0x1A, payload := [], sent := true, tries := 1, age := 0 },
      { ring stRun [] with ring := { boards := 1, cmds := [{ board := 1, code := 0x1A, payload := [], sent := true, tries := 1, age := 0 }] } }, by decide +kernel⟩,
    ⟨1, 8, 1, { board := 1, code := 0x08, payload := [], sent := true, tries := 0, age := 0 },
      { ring stRun [] with ring := { boards := 1, cmds := [{ board := 1, code := 0x08, payload := [], sent := true, tries := 0, age := 0 }] } }, by decide +kernel⟩,
    ⟨1, 0x18, 1, { board := 1, code := 0x18, payload := [], sent := true, tries := 2, age := 0 },
      { ring stRun [] with ring := { boards := 1, cmds := [{ board := 1, code := 0x18, payload := [], sent := true, tries := 2, age := 0 }] } }, by decide +kernel⟩,
    ⟨1, 8, { board := 1, code := 0x08, payload := [], sent := true, tries := 1, age := 4 },
      { ring stRun [] with ring := { boards := 1, cmds := [{ board := 1, code := 0x08, payload := [], sent := true, tries := 1, age := 4 }] } }, by decide +kernel⟩,
    ⟨1, 8, { board := 1, code := 0x08, payload := [], sent := true, tries := 2, age := 4 },
      { ring stRun [] with ring := { boards := 1, cmds := [{ board := 1, code := 0x08, payload := [], sent := true, tries := 2, age := 4 }] } }, by decide +kernel⟩,
    ⟨1, { ring stRun [] with ring := { boards := 1, brds := [(1, { missRun := 16 })] } }, by decide +kernel⟩,
    ⟨1, { ring stRun [] with ring := { boards := 1, brds := [(1, { read := true, goodRun := 16 })] } }, by decide +kernel⟩,
    ⟨ring stStandby [(F.CVL_STATUS_ENUM_BUSY, 1)], by decide +kernel⟩,
    ⟨{ ring stRun [] with ring := { boards := 1, split := true } }, by decide +kernel⟩,
    ⟨{ ring stRun [] with ring := { boards := 1, split := true, restoring := some true } }, by decide +kernel⟩,
    ⟨ring stRun [(F.CVL_STATUS_MODE, 3)], by decide +kernel⟩,
    ⟨ring stRun [], by decide +kernel⟩,
    ⟨3, ring stRun [(konCmd 0, 1), (konHs 0, 1), (konLs 0, 1), (konFb 0, 1)], by decide +kernel⟩,
    ⟨3, ring stStandby [], by decide +kernel⟩⟩

/-- The hypotheses of WadiCommandsComplete are met. -/
theorem witness_WadiCommandsComplete :
    (∃ (s : State), s.sys.powered = true ∧ s.st ≠ stShip ∧ s.st = stOasis) ∧
    (∃ (s : State), s.sys.powered = true ∧ s.st ≠ stShip ∧ s.st = stBoot ∧ s.sys.supRuns = false) ∧
    (∃ (s : State), s.sys.powered = true ∧ s.st ≠ stShip ∧ s.st ≠ stOasis ∧ (s.st ≠ stBoot ∨ s.sys.supRuns = true))
      ∧
    (∃ (s : State), s.sys.powered = true ∧ s.st ≠ stShip ∧ s.st ≠ stOasis ∧ (s.st ≠ stBoot ∨ s.sys.supRuns = true))
      ∧
    (∃ (t : ℕ) (s : State), s.ring.lowSince = some t ∧ s.ring.lowNoted = false ∧ s.flag F.CVL_WADI_TONE = true) ∧
    (∃ (c : Ctx) (k : BitVec 8) (s : State), Safety.Admitted c 0x0280 s ∧ 1 ≤ k.toNat ∧ k.toNat ≤ 36 ∧
      s.ring.wadiTest = none ∧ k.toNat ≤ boards s ∧ present s k.toNat = true ∧ s.flag F.CVL_WADI_TONE = true) ∧
    (∃ (c : Ctx) (k : BitVec 8) (s : State), Safety.Admitted c 0x0280 s ∧ 1 ≤ k.toNat ∧ k.toNat ≤ 36 ∧
      s.ring.wadiTest = none ∧ k.toNat ≤ boards s ∧ present s k.toNat = true ∧ s.flag F.CVL_WADI_TONE = false) ∧
    (∃ (c : Ctx) (k : BitVec 8) (s : State), Safety.Admitted c 0x0281 s ∧ 1 ≤ k.toNat ∧ k.toNat ≤ 36 ∧ s.flag
      (shPending .cvl) = false ∧ shadowDirty s .cvl = false ∧ (getBrd s k.toNat).serial = none) ∧
    (∃ (c : Ctx) (k : BitVec 8) (n : ℕ) (s : State), Safety.Admitted c 0x0281 s ∧ 1 ≤ k.toNat ∧ k.toNat ≤ 36 ∧
      s.flag (shPending .cvl) = false ∧ shadowDirty s .cvl = false ∧ (getBrd s k.toNat).serial = some n ∧ s.flag
      (F.CVL_BRD_STATE_SERIAL_NEW (k.toNat - 1)) = true) ∧
    (∃ (c : Ctx) (k : BitVec 8) (n : ℕ) (s : State), Safety.Admitted c 0x0281 s ∧ 1 ≤ k.toNat ∧ k.toNat ≤ 36 ∧
      s.flag (shPending .cvl) = false ∧ shadowDirty s .cvl = false ∧ (getBrd s k.toNat).serial = some n ∧ s.flag
      (F.CVL_BRD_STATE_SERIAL_NEW (k.toNat - 1)) = false) :=
  ⟨⟨w stOasis [], by decide +kernel⟩,
    ⟨{ w stBoot [] with sys := { powered := true } }, by decide +kernel⟩,
    ⟨w stBoot [], by decide +kernel⟩,
    ⟨w stRun [], by decide +kernel⟩,
    ⟨3, { w stStandby [(F.CVL_WADI_TONE, 1)] with ring := { lowSince := some 3 } }, by decide +kernel⟩,
    ⟨udp, 1, ring stTest [(F.CVL_WADI_TONE, 1)], adm (by decide +kernel), by decide +kernel⟩,
    ⟨udp, 1, ring stTest [], adm (by decide +kernel), by decide +kernel⟩,
    ⟨udp, 36, ring stStandby [], adm (by decide +kernel), by decide +kernel⟩,
    ⟨udp, 1, 77,
      { ring stStandby [(F.CVL_BRD_STATE_SERIAL_NEW 0, 1)] with ring := { boards := 1, brds := [(1, { serial := some 77 })] } },
      adm (by decide +kernel), by decide +kernel⟩,
    ⟨udp, 1, 77,
      { ring stStandby [(F.CVL_BRD_STATE_SERIAL_NEW 0, 0)] with ring := { boards := 1, brds := [(1, { serial := some 77 })] } },
      adm (by decide +kernel), by decide +kernel⟩⟩

/-- The hypotheses of AcquisitionCommandsComplete are met. -/
theorem witness_AcquisitionCommandsComplete :
    (∃ (n0 : ℕ) (s : State), s.ring.still = some n0) ∧
    (∃ (s : State), 10 ≤ s.acq.sumRun ∧ s.flag F.MEAS_STATUS_SUM_FAIL = false ∧ 10 ≤ s.acq.sumOk) ∧
    (∃ (k : ℕ) (s : State), 1 ≤ k ∧ k ≤ boards s ∧ ringRuns s = true ∧ s.get F.MEAS_OW_CFG_OW_PERIOD ≠ 0 ∧ (∃ w ∈
      brdWires s k, s.flag (wbFld w) = true)) ∧
    (∃ (k : ℕ) (x : OwTest) (s : State), s.acq.tests.find? (fun y => y.board == k && y.start.isSome) = some x) ∧
    (∃ (c : Ctx) (k8 : BitVec 8) (s : State), Safety.Admitted c 0x0200 s ∧ k8.toNat ≤ 36 ∧ k8.toNat ≤ boards s ∧ 1 ≤
      boards s ∧ (∀ j ∈ if k8.toNat = 0 then boardNums s else [k8.toNat], owBusy s j = false)) ∧
    (∃ (c : Ctx) (k8 : BitVec 8) (s : State), Safety.Admitted c 0x0200 s ∧ k8.toNat ≤ 36 ∧ k8.toNat ≤ boards s ∧ 1 ≤
      boards s ∧ (∀ j ∈ if k8.toNat = 0 then boardNums s else [k8.toNat], owBusy s j = false)) ∧
    (∃ (c : Ctx) (s : State), Safety.Admitted c 0x0201 s ∧ anyContactor s = false ∧ s.acq.learn = none) ∧
    (∃ (c : Ctx) (w : WireLearn) (t : ℕ) (s : State), s.acq.learn = some (.wire c w) ∧ w.start = some t) ∧
    (∃ (c : Ctx) (wire : BitVec 16) (res : Word) (s : State), Safety.Admitted c 0x0202 s ∧ wire.toNat ≤ posCount s ∧
      0 ≤ BitVec.toInt res ∧ BitVec.toInt res ≤ 500000) ∧
    (∃ (c : Ctx) (wire : BitVec 16) (res : Word) (s : State), Safety.Admitted c 0x0202 s ∧ wire.toNat ≤ posCount s ∧
      0 ≤ BitVec.toInt res ∧ BitVec.toInt res ≤ 500000) ∧
    (∃ (c : Ctx) (s : State), Safety.Admitted c 0x0203 s ∧ s.acq.learn = none) ∧
    (∃ (c : Ctx) (t n : ℕ) (si sr sii sir lo hi : ℚ) (s : State), s.acq.learn = some (.ic c t n si sr sii sir lo hi)
      ∧ (n : Rat) * sii - si * si ≠ 0 ∧ ¬ hi - lo < cMin (setLearn none (s.at (t + 60 * sec))) / 5) ∧
    (∃ (pos : ℕ) (s : State), s.flag (cfFld pos) = true ∧ 100 ≤ tabGet s.acq.faultFree pos 0 ∧ s.flag
      F.MEAS_STATUS_SUM_FAIL = false) :=
  ⟨⟨3, { w stStandby [] with ring := { still := some 3 } }, by decide +kernel⟩,
    ⟨{ w stStandby [] with acq := { sumRun := 10, sumOk := 10 } }, by decide +kernel⟩,
    ⟨1, ring stStandby [(F.MEAS_OW_CFG_OW_PERIOD, 60), (wbFld 0, 1)], by decide +kernel⟩,
    ⟨1, { board := 1, start := some 9 }, { ring stStandby [] with acq := { tests := [{ board := 1, start := some 9 }] } }, by decide +kernel⟩,
    ⟨udp, 0, ring stStandby [], adm (by decide +kernel), by decide +kernel⟩,
    ⟨udp, 1, ring stStandby [], adm (by decide +kernel), by decide +kernel⟩,
    ⟨udp, ring stTest [], adm (by decide +kernel), by decide +kernel⟩,
    ⟨udp, { start := some 3 }, 3, { ring stTest [] with acq := { learn := some (.wire udp { start := some 3 }) } }, by decide +kernel⟩,
    ⟨udp, 4, 500000, ring stTest [], adm (by decide +kernel), by decide +kernel⟩,
    ⟨udp, 0, 0, ring stTest [], adm (by decide +kernel), by decide +kernel⟩,
    ⟨udp, ring stRun [], adm (by decide +kernel), by decide +kernel⟩,
    ⟨udp, 0, 2, 3, 0, 5, 0, 1, 2, { w stRun [] with acq := { learn := some (.ic udp 0 2 3 0 5 0 1 2) } },
      by decide +kernel⟩,
    ⟨3, { ring stRun [(cfFld 3, 1)] with acq := { faultFree := [(3, 100)] } }, by decide +kernel⟩⟩

/-- A step of 3 A between 2 s and 1 ms later, sampled each ms for a second on each side. -/
def rise (n : Nat) : List (Nat × Rat) := (List.range n).map (fun k => (sec + k * ms, if k ≤ 1000 then 0 else 3))

def stepped : State :=
  { w stRun [(F.EIS_CFG_STEP_EN, 1), (F.CTL_STATUS_CLOSED, 1), (F.EIS_STATUS_UNAVAIL, 0)] with
    time := 3 * sec + ms, eis := { closedAt := some 0, cur := rise 2001 } }

theorem sum_const {v : Rat} : ∀ {l : List Rat}, (∀ x ∈ l, x = v) → l.sum = (l.length : Nat) * v
  | [], _ => by simp
  | x :: l, h => by
    rw [List.sum_cons, sum_const (fun y hy => h y (List.mem_cons_of_mem _ hy)), h x List.mem_cons_self]
    push_cast [List.length_cons]; ring

theorem meanQ_const {v : Rat} {l : List Rat} (h : ∀ x ∈ l, x = v) (hl : l ≠ []) : meanQ l = v := by
  have : ((l.length : Nat) : Rat) ≠ 0 := by simpa using hl
  rw [meanQ, sum_const h]; field_simp

/-- A current that stands at `v` with a sample in each ms is steady. -/
theorem steady_const {l : List (Nat × Rat)} {a : Nat} {v : Rat} (hv : ∀ x ∈ l, a ≤ x.1 → x.1 < a + sec → x.2 = v)
    (hs : ∀ k, k < 1000 → ∃ x ∈ l, a + k * ms ≤ x.1 ∧ x.1 < a + (k + 1) * ms) : steadyFrom l a = some v := by
  have mean (b c : Nat) (hb : a ≤ b) (hc : c ≤ a + sec) (m : List (Nat × Rat)) (hm : ∀ x ∈ m, x ∈ l)
      (hn : spanOf (fun x : Nat × Rat => x.1) b c m ≠ []) :
      meanQ ((spanOf (fun x : Nat × Rat => x.1) b c m).map (fun x => x.2)) = v := by
    refine meanQ_const ?_ (by simpa using hn)
    intro y hy
    simp only [spanOf, List.mem_map, List.mem_filter, decide_eq_true_eq] at hy
    obtain ⟨x, ⟨hx, h1, h2⟩, rfl⟩ := hy
    exact hv x (hm x hx) (by omega) (by omega)
  have ne (k : Nat) (hk : k < 1000) (m : List (Nat × Rat)) (hm : ∀ x ∈ l, a ≤ x.1 → x.1 < a + sec → x ∈ m) :
      spanOf (fun x : Nat × Rat => x.1) (a + k * ms) (a + (k + 1) * ms) m ≠ [] := by
    obtain ⟨x, hx, h1, h2⟩ := hs k hk
    have : x ∈ spanOf (fun x : Nat × Rat => x.1) (a + k * ms) (a + (k + 1) * ms) m := by
      simp only [spanOf, List.mem_filter, decide_eq_true_eq]
      refine ⟨hm x hx (by omega) ?_, h1, h2⟩
      simp only [ms, sec] at *; omega
    intro h0; rw [h0] at this; cases this
  have inner : ∀ x ∈ l, a ≤ x.1 → x.1 < a + sec → x ∈ spanOf (fun x : Nat × Rat => x.1) a (a + sec) l := by
    intro x hx h1 h2
    simp only [spanOf, List.mem_filter, decide_eq_true_eq]; exact ⟨hx, h1, h2⟩
  have sub : ∀ x ∈ spanOf (fun x : Nat × Rat => x.1) a (a + sec) l, x ∈ l := by
    intro x hx; simp only [spanOf, List.mem_filter] at hx; exact hx.1
  have whole : spanOf (fun x : Nat × Rat => x.1) a (a + sec) (spanOf (fun x : Nat × Rat => x.1) a (a + sec) l) ≠ [] := by
    obtain ⟨x, hx, h1, h2⟩ := hs 0 (by omega)
    have h3 : x.1 < a + sec := by simp only [ms, sec] at *; omega
    have := inner x hx (by omega) h3
    have h4 : x ∈ spanOf (fun x : Nat × Rat => x.1) a (a + sec) (spanOf (fun x : Nat × Rat => x.1) a (a + sec) l) := by
      rw [spanOf, List.mem_filter]; exact ⟨this, by simpa using ⟨by omega, h3⟩⟩
    intro h0; rw [h0] at h4; cases h4
  have m0 := mean a (a + sec) (by omega) (by omega) _ sub whole
  simp only [steadyFrom, meanIn, m0]
  rw [if_pos]
  simp only [List.all_eq_true, List.mem_range, Bool.and_eq_true, Bool.not_eq_true', List.isEmpty_eq_false_iff, decide_eq_true_eq]
  intro k hk
  refine ⟨ne k hk _ inner, ?_⟩
  rw [mean (a + k * ms) (a + (k + 1) * ms) (by omega) (by simp only [ms, sec]; omega) _ sub (ne k hk _ inner), sub_self]
  simp only [absQ, maxQ]; norm_num
  split_ifs <;> linarith

theorem rise_mem {n : Nat} {x : Nat × Rat} (h : x ∈ rise n) :
    ∃ k, k < n ∧ x = (sec + k * ms, if k ≤ 1000 then 0 else 3) := by
  simp only [rise, List.mem_map, List.mem_range] at h
  obtain ⟨k, hk, rfl⟩ := h; exact ⟨k, hk, rfl⟩

theorem mem_rise {n k : Nat} (h : k < n) : (sec + k * ms, if k ≤ 1000 then (0 : Rat) else 3) ∈ rise n :=
  List.mem_map.2 ⟨k, List.mem_range.2 h, rfl⟩

theorem before_step {n : Nat} (hn : 2001 ≤ n) : steadyFrom (rise n) sec = some 0 := by
  refine steady_const ?_ ?_
  · intro x hx h1 h2
    obtain ⟨k, hk, rfl⟩ := rise_mem hx
    simp only [ms, sec] at *
    exact if_pos (by omega)
  · intro k hk
    exact ⟨_, mem_rise (k := k) (by omega), by simp, by simp only [ms, sec]; omega⟩

theorem after_step {n : Nat} (hn : 2001 ≤ n) : steadyFrom (rise n) (2 * sec + ms) = some 3 := by
  refine steady_const ?_ ?_
  · intro x hx h1 h2
    obtain ⟨k, hk, rfl⟩ := rise_mem hx
    simp only [ms, sec] at *
    exact if_neg (by omega)
  · intro k hk
    exact ⟨_, mem_rise (k := k + 1001) (by omega), by simp only [ms, sec]; omega, by simp only [ms, sec]; omega⟩

theorem stepped_at : stepAt stepped (2 * sec) (2 * sec + ms) = some 3 := by
  have e : stepped.eis.cur = rise 2001 := by simp only [stepped]
  unfold stepAt
  rw [if_neg (by decide +kernel), e]
  have h1 : 2 * sec - sec = sec := by decide
  rw [h1, before_step (Nat.le_refl _), after_step (Nat.le_refl _)]
  simp only
  rw [if_pos]
  · norm_num
  · refine ⟨by decide +kernel, by norm_num, ?_⟩
    rw [List.all_eq_true]
    intro x hx
    obtain ⟨h2, h3⟩ := List.mem_filter.1 hx
    obtain ⟨k, hk, rfl⟩ := rise_mem h2
    simp only [decide_eq_true_eq, ms, sec] at h3
    have : k = 1000 ∨ k = 1001 := by omega
    rcases this with rfl | rfl <;> norm_num [ms, sec]

theorem stepped_found : ∃ t10 t90 di, stepFound stepped = some (t10, t90, di) := by
  suffices h : (stepFound stepped).isSome by
    obtain ⟨⟨a, b, c⟩, h⟩ := Option.isSome_iff_exists.1 h; exact ⟨a, b, c, h⟩
  have e : stepped.eis.cur = rise 2001 := by simp only [stepped]
  have e2 : stepped.time = 3 * sec + ms := by simp only [stepped]
  have m1 : 2 * sec ∈ (rise 2001).map (fun x => x.1) := List.mem_map.2 ⟨_, mem_rise (k := 1000) (by omega), by decide⟩
  have m2 : 2 * sec + ms ∈ (rise 2001).map (fun x => x.1) := List.mem_map.2 ⟨_, mem_rise (k := 1001) (by omega), by decide⟩
  simp only [stepFound, List.findSome?_isSome_iff, e, e2]
  exact ⟨2 * sec + ms, List.mem_filter.2 ⟨m2, by decide⟩, 2 * sec, List.mem_filter.2 ⟨m1, by decide⟩, by rw [stepped_at]; rfl⟩

/-- The hypotheses of ImpedanceCommandsComplete are met. -/
theorem witness_ImpedanceCommandsComplete :
    (∃ (c : Ctx) (mode n : BitVec 8) (s : State), Safety.Admitted c 0x0210 s ∧ s.flag F.EIS_STATUS_UNAVAIL = false ∧
      s.flag F.CTL_STATUS_CLOSED = true ∧ s.eis.meas = none ∧ s.eis.closing = none ∧ s.eis.pulse = none ∧ (mode = 1 ∨
      (mode = 2 ∧ restingRequest (noteAdmit s) (requestNow (noteAdmit s)) = true)) ∧ n.toNat ≤ 60 ∧ ((if n.toNat = 0
      then s.get F.EIS_CFG_N_AVG else n.toNat) + 1) * 10 ≤ s.get F.EIS_TIMEOUT_TIMEOUT) ∧
    (∃ (c : Ctx) (mode n : BitVec 8) (s : State), Safety.Admitted c 0x0210 s ∧ s.flag F.EIS_STATUS_UNAVAIL = false ∧
      s.flag F.CTL_STATUS_CLOSED = true ∧ s.eis.meas = none ∧ s.eis.closing = none ∧ s.eis.pulse = none ∧ (mode = 1 ∨
      (mode = 2 ∧ restingRequest (noteAdmit s) (requestNow (noteAdmit s)) = true)) ∧ n.toNat ≤ 60 ∧ ((if n.toNat = 0
      then s.get F.EIS_CFG_N_AVG else n.toNat) + 1) * 10 ≤ s.get F.EIS_TIMEOUT_TIMEOUT) ∧
    (∃ (c : Ctx) (s : State), Safety.Admitted c 0x0211 s ∧ s.flag F.EIS_STATUS_UNAVAIL = false) ∧
    (∃ (c : Ctx) (s : State), Safety.Admitted c 0x0211 s ∧ s.flag F.EIS_STATUS_UNAVAIL = true) ∧
    (∃ (c : Ctx) (amp : Word) (s : State), Safety.Admitted c 0x0212 s ∧ s.flag F.EIS_STATUS_UNAVAIL = false ∧ s.flag
      F.CTL_STATUS_CLOSED = true ∧ restingRequest (noteAdmit s) (requestNow (noteAdmit s)) = true ∧ s.eis.meas = none
      ∧ s.eis.closing = none ∧ s.eis.pulse = none ∧ ¬ absQ ((amp.toInt : Rat) / 1000) < cMin (noteAdmit s) / 20 ∧
      s.ctl.clamped + (amp.toInt : Rat) / 1000 ≤ 9 / 10 * s.ctl.limChg ∧ -(9 / 10 * s.ctl.limDis) ≤ s.ctl.clamped +
      (amp.toInt : Rat) / 1000) ∧
    (∃ (m : Meas) (s : State), (lanesDue (s.tick tkSweep sweepCounts)).eis.meas = some m) ∧
    (∃ (s : State), (lanesDue (s.tick tkSweep sweepCounts)).eis.meas = none ∧ autoStart (lanesDue (s.tick tkSweep
      sweepCounts)) = true) ∧
    (∃ (s : State), (lanesDue (s.tick tkSweep sweepCounts)).eis.meas = none ∧ autoStart (lanesDue (s.tick tkSweep
      sweepCounts)) = false) ∧
    (∃ (m : Meas) (t : ℕ) (s : State), s.eis.meas = some m ∧ m.okSince = some t) ∧
    (∃ (m : Meas) (t : ℕ) (s : State), s.eis.meas = some m ∧ m.startAt = some t) ∧
    (∃ (m : Meas) (s : State), (lanesDue s).eis.closing = some m) ∧
    (∃ (p : Sys2Proof.Path) (s : State), writeAdmitted p 0x12014 0 s = true) ∧
    (∃ (t10 t90 : ℕ) (di : ℚ) (s : State), stepsOn s = true ∧ stepFound s = some (t10, t90, di)) ∧
    (∃ (x : Pulse) (s : State), s.eis.pulse = some x) :=
  ⟨⟨udp, 1, 60, w stRun [(F.CTL_STATUS_CLOSED, 1), (F.EIS_TIMEOUT_TIMEOUT, 610), (F.EIS_STATUS_UNAVAIL, 0)],
      adm (by decide +kernel), by decide +kernel⟩,
    ⟨udp, 2, 0, w stRun [(F.CTL_STATUS_CLOSED, 1), (F.EIS_CFG_N_AVG, 10), (F.EIS_TIMEOUT_TIMEOUT, 110),
      (F.EIS_STATUS_UNAVAIL, 0)], adm (by decide +kernel), by decide +kernel⟩,
    ⟨udp, w stStandby [(F.EIS_STATUS_UNAVAIL, 0)], adm (by decide +kernel), by decide +kernel⟩,
    ⟨udp, w stStandby [(F.EIS_STATUS_UNAVAIL, 1)], adm (by decide +kernel), by decide +kernel⟩,
    ⟨udp, 9000,
      { w stRun [(F.CTL_STATUS_CLOSED, 1), (F.EIS_STATUS_UNAVAIL, 0)] with ctl := { limChg := 10, limDis := 10 } },
      adm (by decide +kernel), by decide +kernel⟩,
    ⟨_, { ring stRun [] with eis := { meas := some { mode := 1, n := 1, phase := .waiting, ctx := none, reqAt := 0, startAt := some 4, okSince := some 5 } } }, rfl⟩,
    ⟨{ ring stRun [(F.EIS_CFG_AUTO, 1), (F.CTL_STATUS_CLOSED, 1), (F.EIS_STATUS_UNAVAIL, 0)] with time := 10 * sec, eis := { closedAt := some 0 } },
      by decide +kernel⟩,
    ⟨ring stRun [], by decide +kernel⟩,
    ⟨{ mode := 1, n := 1, phase := .waiting, ctx := none, reqAt := 0, startAt := some 4, okSince := some 5 }, 5,
      { w stRun [] with eis := { meas := some { mode := 1, n := 1, phase := .waiting, ctx := none, reqAt := 0, startAt := some 4, okSince := some 5 } } }, by decide +kernel⟩,
    ⟨{ mode := 1, n := 1, phase := .waiting, ctx := none, reqAt := 0, startAt := some 4, okSince := some 5 }, 4,
      { w stRun [] with eis := { meas := some { mode := 1, n := 1, phase := .waiting, ctx := none, reqAt := 0, startAt := some 4, okSince := some 5 } } }, by decide +kernel⟩,
    ⟨_, { ring stRun [] with eis := { closing := some { mode := 1, n := 1, phase := .waiting, ctx := none, reqAt := 0, startAt := some 4, okSince := some 5 } } }, rfl⟩,
    ⟨.win, w stRun [], by decide +kernel⟩,
    (let ⟨a, b, c, h⟩ := stepped_found; ⟨a, b, c, stepped, by decide +kernel, h⟩),
    ⟨⟨3, 9, some udp⟩, { w stRun [] with eis := { pulse := some ⟨3, 9, some udp⟩ } }, by decide +kernel⟩⟩

/-- The hypotheses of EstimationCommandsComplete are met. -/
theorem witness_EstimationCommandsComplete :
    (∃ (n : ℕ) (s : State), estRuns s = true ∧ s.direct = false ∧ n < posCount s) ∧
    (∃ (seq : ℕ) (r : ZResult) (s : State), s.eis.result = some (seq, r) ∧ s.eis.refit = true) ∧
    (∃ (c : Ctx) (first count : BitVec 16) (s : State), Safety.Admitted c 0x0300 s ∧ 1 ≤ count.toNat ∧ first.toNat +
      count.toNat ≤ posCount s ∧ count.toNat ≤ 576) ∧
    (∃ (c : Ctx) (pos : BitVec 16) (cap : Word) (s : State), Safety.Admitted c 0x0301 s ∧ (pos.toNat < posCount s ∨
      pos.toNat = 0xFFFF) ∧ s.get F.EST_RATED_CAP_RATED ≤ 2 * cap.toNat ∧ 2 * cap.toNat ≤ 3 * s.get
      F.EST_RATED_CAP_RATED) ∧
    (∃ (c : Ctx) (pos : BitVec 16) (cap : Word) (s : State), Safety.Admitted c 0x0301 s ∧ (pos.toNat < posCount s ∨
      pos.toNat = 0xFFFF) ∧ s.get F.EST_RATED_CAP_RATED ≤ 2 * cap.toNat ∧ 2 * cap.toNat ≤ 3 * s.get
      F.EST_RATED_CAP_RATED) ∧
    (∃ (c : Ctx) (pos : BitVec 16) (cap : Word) (s : State), Safety.Admitted c 0x0301 s ∧ (pos.toNat < posCount s ∨
      pos.toNat = 0xFFFF) ∧ s.get F.EST_RATED_CAP_RATED ≤ 2 * cap.toNat ∧ 2 * cap.toNat ≤ 3 * s.get
      F.EST_RATED_CAP_RATED) ∧
    (∃ (c : Ctx) (s : State), Safety.Admitted c 0x0302 s ∧ s.flag F.EST_STATUS_PF_DONE = false) ∧
    (∃ (c : Ctx) (s : State), Safety.Admitted c 0x0302 s ∧ s.flag F.EST_STATUS_PF_DONE = true) :=
  ⟨⟨3, ring stRun [(F.EST_PACK_PACK, 1), (F.EST_RATED_CAP_RATED, 1000)], by decide +kernel⟩,
    ⟨1, ⟨1, 1, 0, 0, 0, 0, [], [], none, false⟩,
    { w stRun [] with eis := { result := some (1, ⟨1, 1, 0, 0, 0, 0, [], [], none, false⟩), refit := true } }, by decide +kernel⟩,
    ⟨udp, 0, 4, ring stStandby [], adm (by decide +kernel), by decide +kernel⟩,
    ⟨udp, 3, 500, ring stStandby [(F.EST_RATED_CAP_RATED, 1000)], adm (by decide +kernel), by decide +kernel⟩,
    ⟨udp, 0, 1500, ring stStandby [(F.EST_RATED_CAP_RATED, 1000)], adm (by decide +kernel), by decide +kernel⟩,
    ⟨udp, 65535, 1000, ring stStandby [(F.EST_RATED_CAP_RATED, 1000)], adm (by decide +kernel), by decide +kernel⟩,
    ⟨udp, w stStandby [(F.EST_STATUS_PF_DONE, 0)], adm (by decide +kernel), by decide +kernel⟩,
    ⟨udp, w stStandby [(F.EST_STATUS_PF_DONE, 1)], adm (by decide +kernel), by decide +kernel⟩⟩

/-- The hypotheses of BalancingCommandsComplete are met. -/
theorem witness_BalancingCommandsComplete :
    (∃ (s : State), s.bal.next = none ∧ (∀ e ∈ s.bal.ovsRun, e.2 < 10)) ∧
    (∃ (s : State), s.bal.reportDue = true ∧ s.awake = true ∧ s.bal.reports ≠ []) ∧
    (∃ (s : State), s.bal.reportDue = true ∧ s.awake = true ∧ s.bal.reports = []) ∧
    (∃ (x : Ctx) (s : State), s.sys.sleep = some (stOasis, x) ∧ s.flag (postBusy .aon) = false ∧ s.bal.handoff =
      some []) ∧
    (∃ (c : Ctx) (policy align : BitVec 8) (s : State), Safety.Admitted c 0x0400 s ∧ s.flag F.BAL_STATUS_OWNED =
      false ∧ policyOk (noteAdmit s) policy.toNat (s.get F.BAL_FCV_V_CV) = true ∧ align.toNat ≤ 1 ∧ Safety.Admitted c
      0x0401 s) ∧
    (∃ (c : Ctx) (k : BitVec 8) (mask hold : BitVec 16) (s : State), Safety.Admitted c 0x0402 s ∧ 1 ≤ k.toNat ∧
      k.toNat ≤ 36 ∧ k.toNat ≤ boards s ∧ present s k.toNat = true ∧ (brdClass s k.toNat ≠ 3 → popcount mask.toNat ≤
      s.get F.BAL_CFG_MAX_ON) ∧ 1 ≤ hold.toNat ∧ hold.toNat ≤ 600) ∧
    (∃ (c : Ctx) (k : BitVec 8) (mask hold : BitVec 16) (s : State), Safety.Admitted c 0x0402 s ∧ 1 ≤ k.toNat ∧
      k.toNat ≤ 36 ∧ k.toNat ≤ boards s ∧ present s k.toNat = true ∧ (brdClass s k.toNat ≠ 3 → popcount mask.toNat ≤
      s.get F.BAL_CFG_MAX_ON) ∧ 1 ≤ hold.toNat ∧ hold.toNat ≤ 600) ∧
    (∃ (c : Ctx) (k : BitVec 8) (s : State), Safety.Admitted c 0x0403 s ∧ s.flag F.BAL_STATUS_OASIS_VALID = true ∧ 1
      ≤ k.toNat ∧ k.toNat ≤ 36) :=
  ⟨⟨{ w stStandby [] with bal := { ovsRun := [(0, 9)] } }, by decide +kernel⟩,
    ⟨{ w stStandby [] with bal := { reportDue := true, reports := [(1, {})] } }, by decide +kernel⟩,
    ⟨{ w stStandby [] with bal := { reportDue := true, reports := [] } }, by decide +kernel⟩,
    ⟨udp, { w stStandby [] with sys := { powered := true, sleep := some (stOasis, udp) }, bal := { handoff := some [] } }, by decide +kernel⟩,
    ⟨udp, 1, 1, w stStandby [], adm (by decide +kernel), by decide +kernel, by decide +kernel, by decide +kernel, adm (by decide +kernel)⟩,
    ⟨udp, 1, 0, 1, ring stTest [], adm (by decide +kernel), by decide +kernel⟩,
    ⟨udp, 1, 3, 600, { ring stTest [] with ring := { boards := 1, brds := [(1, { cls := 3 })] } }, adm (by decide +kernel), by decide +kernel⟩,
    ⟨udp, 36, w stStandby [(F.BAL_STATUS_OASIS_VALID, 1)], adm (by decide +kernel), by decide +kernel⟩⟩

/-- The hypotheses of ConverterCommandsComplete are met. -/
theorem witness_ConverterCommandsComplete :
    (∃ (c : Ctx) (s : State), Safety.Admitted c 0x0500 s ∧ s.flag F.CTL_STATUS_CLOSED = true) ∧
    (∃ (c : Ctx) (s : State), Safety.Admitted c 0x0500 s ∧ s.flag F.CTL_STATUS_CLOSED = false ∧ closeFailing
      (noteAdmit s) = 0) ∧
    (∃ (c : Ctx) (s : State), Safety.Admitted c 0x0500 s ∧ s.flag F.CTL_STATUS_CLOSED = false ∧ closeFailing
      (noteAdmit s) = 4) ∧
    (∃ (c : Ctx) (s : State), Safety.Admitted c 0x0500 s ∧ s.flag F.CTL_STATUS_CLOSED = false ∧ closeFailing
      (noteAdmit s) ≠ 0 ∧ closeFailing (noteAdmit s) ≠ 4) ∧
    (∃ (c : Ctx) (s : State), Safety.Admitted c 0x0501 s ∧ Safety.Admitted c 0x0502 s ∧ Safety.Admitted c 0x0503 s)
      ∧
    (∃ (p : Sys2Proof.Path) (s : State), writeAdmitted p 0x20040 2 s = true ∧ writeAdmitted p 0x20040 1 s = true) ∧
    (∃ (ph : BitVec 3), ph.toNat < 6) ∧
    (∃ (s : State), s.flag F.CTL_STATUS_CLOSED = true ∧ mirageBad s = true ∧ s.flag F.CTL_FB_MIRAGE_LATCH = false) ∧
    (∃ (s : State), auxBad s = true ∧ s.flag F.CTL_FB_MISMATCH_LATCH = false) ∧
    (∃ (l : List Rat) (s : State), s.ctl.duties = some l) ∧
    (∃ (l : Rat) (s : State), s.ctl.outerPend = some l) ∧
    (∃ (x : Pre) (s : State), s.ctl.pre = some x ∧ x.seen = true ∧ x.tp + 10 * ms ≤ s.time ∧ absQ s.ctl.meanStr ≤ (1
      - ((s.get F.CTL_PRE_PRE_THR : Nat) : Rat) / 100) * preI0 s) ∧
    (∃ (x : Pre) (s : State), s.ctl.pre = some x ∧ x.seen = false) :=
  ⟨⟨udp, w stRun [(F.CTL_STATUS_CLOSED, 1)], adm (by decide +kernel), by decide +kernel⟩,
    ⟨udp, { w stRun [(F.CTL_STATUS_PWM_EN, 1), (F.CTL_FB_ISD_OK, 1), (F.CTL_FB_VSD_OK, 1), (F.CTL_FB_BSD_OK, 1), (F.CTL_STATUS_BANKA_VALID, 1)] with ctl := { fb := { iStr := 0 } } },
      adm (by decide +kernel), by decide +kernel⟩,
    ⟨udp, w stRun [(F.CTL_STATUS_PWM_EN, 1), (F.CTL_FB_ISD_OK, 1), (F.CTL_FB_VSD_OK, 1), (F.CTL_FB_BSD_OK, 1)],
      adm (by decide +kernel), by decide +kernel⟩,
    ⟨udp, w stRun [], adm (by decide +kernel), by decide +kernel⟩,
    ⟨udp, w stStandby [], adm (by decide +kernel), adm (by decide +kernel), adm (by decide +kernel)⟩,
    ⟨.win, w stStandby [], by decide +kernel⟩,
    ⟨5, by decide +kernel⟩,
    ⟨{ w stRun [(F.CTL_STATUS_CLOSED, 1)] with ctl := { mirN := 2000, mirMax := 1 } }, by decide +kernel⟩,
    ⟨{ w stRun [] with ctl := { auxRun := 100 } }, by decide +kernel⟩,
    ⟨[0], { w stRun [] with ctl := { duties := some [0] } }, by decide +kernel⟩,
    ⟨0, { w stRun [] with ctl := { outerPend := some 0 } }, by decide +kernel⟩,
    ⟨⟨0, true⟩, { w stPrecharge [] with time := 10 * ms, ctl := { pre := some ⟨0, true⟩ } }, by decide +kernel⟩,
    ⟨⟨0, false⟩, { w stPrecharge [] with ctl := { pre := some ⟨0, false⟩ } }, by decide +kernel⟩⟩

/-- The hypotheses of ThermalCommandsComplete are met. -/
theorem witness_ThermalCommandsComplete :
    (∃ (t : ℕ) (s : State), s.awake = true ∧ supActs s = true ∧ s.thm.riseAt = some t ∧ t + 5 * sec ≤ s.time ∧
      thmStep s < 8) ∧
    (∃ (t : ℕ) (s : State), s.awake = true ∧ supActs s = true ∧ s.thm.riseAt = some t ∧ t + 5 * sec ≤ s.time ∧ 8 ≤
      thmStep s) ∧
    (∃ (t : ℕ) (s : State), s.awake = true ∧ supActs s = true ∧ s.thm.fallAt = some t ∧ t + 30 * sec ≤ s.time ∧
      stepFloor s < thmStep s) ∧
    (∃ (t : ℕ) (s : State), s.awake = true ∧ supActs s = true ∧ s.thm.fallAt = some t ∧ t + 30 * sec ≤ s.time ∧
      thmStep s ≤ stepFloor s) ∧
    (∃ (t : ℕ) (s : State), s.awake = true ∧ supActs s = true ∧ s.thm.coldAt = some t ∧ t + 600 * sec ≤ s.time ∧
      s.flag F.THM_STATUS_FAULT_FORCE = false ∧ s.flag F.THM_STATUS_RELEASE_READY = false) ∧
    (∃ (c : Ctx) (s : State), Safety.Admitted c 0x0700 s ∧ s.flag F.THM_STATUS_SHUT_LATCH = false) ∧
    (∃ (c : Ctx) (s : State), Safety.Admitted c 0x0700 s ∧ s.flag F.THM_STATUS_SHUT_LATCH = true ∧ s.flag
      F.THM_STATUS_RELEASE_READY = false) ∧
    (∃ (c : Ctx) (s : State), Safety.Admitted c 0x0700 s ∧ s.flag F.THM_STATUS_SHUT_LATCH = true ∧ s.flag
      F.THM_STATUS_RELEASE_READY = true) ∧
    (∃ (c : Ctx) (d6 d7 : BitVec 8) (hold : BitVec 16) (s : State), Safety.Admitted c 0x0701 s ∧ d6.toNat ≤ 100 ∧
      d7.toNat ≤ 100 ∧ 1 ≤ hold.toNat ∧ hold.toNat ≤ 600) ∧
    (∃ (c : Ctx) (d6 d7 : BitVec 8) (hold : BitVec 16) (s : State), Safety.Admitted c 0x0701 s ∧ 100 < d6.toNat) ∧
    (∃ (c : Ctx) (d6 d7 : BitVec 8) (hold : BitVec 16) (s : State), Safety.Admitted c 0x0701 s ∧ d6.toNat ≤ 100 ∧
      100 < d7.toNat) ∧
    (∃ (c : Ctx) (d6 d7 : BitVec 8) (hold : BitVec 16) (s : State), Safety.Admitted c 0x0701 s ∧ d6.toNat ≤ 100 ∧
      d7.toNat ≤ 100 ∧ (hold.toNat = 0 ∨ 600 < hold.toNat)) ∧
    (∃ (c : Ctx) (d6 d7 : BitVec 8) (hold : BitVec 16) (s : State), Safety.Admitted c 0x0701 s ∧ d6.toNat ≤ 100 ∧
      d7.toNat ≤ 100 ∧ (hold.toNat = 0 ∨ 600 < hold.toNat)) ∧
    (∃ (t : ℕ) (s : State), s.thm.testEnd = some t ∧ s.time ≤ t) ∧
    (∃ (s : State), s.flag F.THM_CHL_EN = true ∧ s.awake = true ∧ supActs s = true ∧ canOn s .canb = true) ∧
    (∃ (s : State), s.flag F.THM_CHL_EN = true ∧ s.awake = true ∧ supActs s = true ∧ coolDue s = true) ∧
    (∃ (t : ℕ) (s : State), s.flag F.THM_CHL_EN = true ∧ s.awake = true ∧ supActs s = true ∧ coolDue s = false ∧
      s.thm.replyAt = some t) ∧
    (∃ (data : List Byte) (s : State), s.flag F.THM_CHL_EN = true ∧ canOn s .canb = true ∧ (data.length ≤ 8 ∨
      canFdEn s .canb = true) ∧ coolDue (answered data s) = true) ∧
    (∃ (data : List Byte) (s : State), s.flag F.THM_CHL_EN = true ∧ canOn s .canb = true ∧ (data.length ≤ 8 ∨
      canFdEn s .canb = true) ∧ coolDue (answered data s) = false ∧ (answered data s).thm.goods < 5) ∧
    (∃ (data : List Byte) (s : State), s.flag F.THM_CHL_EN = true ∧ canOn s .canb = true ∧ (data.length ≤ 8 ∨
      canFdEn s .canb = true) ∧ coolDue (answered data s) = false ∧ 5 ≤ (answered data s).thm.goods) :=
  ⟨⟨0, { w stStandby [(F.THM_STATUS_STEP, 7)] with time := 5 * sec, thm := { riseAt := some 0 } }, by decide +kernel⟩,
    ⟨0, { w stStandby [(F.THM_STATUS_STEP, 8)] with time := 5 * sec, thm := { riseAt := some 0 } }, by decide +kernel⟩,
    ⟨0, { w stStandby [(F.THM_STATUS_STEP, 1)] with time := 30 * sec, thm := { fallAt := some 0 } }, by decide +kernel⟩,
    ⟨0, { w stStandby [(F.THM_STATUS_STEP, 0)] with time := 30 * sec, thm := { fallAt := some 0 } }, by decide +kernel⟩,
    ⟨0, { w stStandby [] with time := 600 * sec, thm := { coldAt := some 0 } }, by decide +kernel⟩,
    ⟨udp, w stIsolated [], adm (by decide +kernel), by decide +kernel⟩,
    ⟨udp, w stIsolated [(F.THM_STATUS_SHUT_LATCH, 1), (F.THM_STATUS_RELEASE_READY, 0)], adm (by decide +kernel), by decide +kernel⟩,
    ⟨udp, w stIsolated [(F.THM_STATUS_SHUT_LATCH, 1), (F.THM_STATUS_RELEASE_READY, 1)], adm (by decide +kernel), by decide +kernel⟩,
    ⟨udp, 100, 100, 600, w stTest [], adm (by decide +kernel), by decide +kernel⟩,
    ⟨udp, 101, 100, 600, w stTest [], adm (by decide +kernel), by decide +kernel⟩,
    ⟨udp, 100, 101, 0, w stTest [], adm (by decide +kernel), by decide +kernel⟩,
    ⟨udp, 100, 100, 0, w stTest [], adm (by decide +kernel), by decide +kernel⟩,
    ⟨udp, 100, 100, 601, w stTest [], adm (by decide +kernel), by decide +kernel⟩,
    ⟨9, { w stTest [] with time := 9, thm := { testEnd := some 9 } }, by decide +kernel⟩,
    ⟨w stStandby [(F.THM_CHL_EN, 1), (canFld .canb 0 0 1, 1)], by decide +kernel⟩,
    ⟨{ w stStandby [(F.THM_CHL_EN, 1)] with thm := { faults := 2 } }, by decide +kernel⟩,
    ⟨0, { w stStandby [(F.THM_CHL_EN, 1), (F.THM_CHL_PERIOD, 1)] with thm := { replyAt := some 0 } }, by decide +kernel⟩,
    ⟨[2], { w stStandby [(F.THM_CHL_EN, 1), (F.THM_CHL_PERIOD, 1), (canFld .canb 0 0 1, 1)] with thm := { faults := 1, goods := 0 } }, by decide +kernel⟩,
    ⟨[0], { w stStandby [(F.THM_CHL_EN, 1), (F.THM_CHL_PERIOD, 1), (canFld .canb 0 0 1, 1)] with thm := { faults := 2, goods := 3 } }, by decide +kernel⟩,
    ⟨[0], { w stStandby [(F.THM_CHL_EN, 1), (F.THM_CHL_PERIOD, 1), (canFld .canb 0 0 1, 1)] with thm := { faults := 2, goods := 4 } }, by decide +kernel⟩⟩

/-- The hypotheses of NetworkCommandsComplete are met. -/
theorem witness_NetworkCommandsComplete :
    (∃ (pt : EthPort) (s : State), s.flag (F.ETH_PHY_EN (portIdx pt)) = true ∧ switchOn s = true ∧ s.flag
      (F.ETH_STAT_LINK (portIdx pt)) = false) ∧
    (∃ (pt : EthPort) (s : State), s.flag (F.ETH_PHY_EN (portIdx pt)) = true ∧ switchOn s = true ∧ s.flag
      (F.ETH_STAT_LINK (portIdx pt)) = true) ∧
    (∃ (src : BitVec 48) (m : Mac) (s : State), s.net.macs.find? (fun x => x.addr == src) = some m) ∧
    (∃ (p : Sys2Proof.Path) (s : State), writeAdmitted p 0x4304C (s.word 0x4304C ||| 2) s = true) ∧
    (∃ (s : State), s.net.dhcp = true ∧ s.get F.ETH_IP_ACT_VALUE = 0 ∧ switchOn s = true) ∧
    (∃ (pt : EthPort) (gm : BitVec 64) (s : State), ptpRuns s = true ∧ s.get F.PTP_CFG_PROFILE ≠ 0 ∧ s.flag (match
      pt with | .eth1 => F.PTP_CFG_PORT1_EN | .eth2 => F.PTP_CFG_PORT2_EN) = true ∧ s.get64 F.PTP_GM_LO_VALUE
      F.PTP_GM_HI_VALUE = gm.toNat) ∧
    (∃ (pt : EthPort) (gm : BitVec 64) (s : State), ptpRuns s = true ∧ s.get F.PTP_CFG_PROFILE ≠ 0 ∧ s.flag (match
      pt with | .eth1 => F.PTP_CFG_PORT1_EN | .eth2 => F.PTP_CFG_PORT2_EN) = true ∧ s.get64 F.PTP_GM_LO_VALUE
      F.PTP_GM_HI_VALUE ≠ gm.toNat) ∧
    (∃ (t : ℕ) (s : State), s.net.lastSample = some t ∧ s.get F.PTP_STATUS_STATE = 3) ∧
    (∃ (t : ℕ) (s : State), s.net.lastAnnounce = some t) ∧
    (∃ (t : ℕ) (s : State), s.net.lastLocked = some t ∧ s.get F.PTP_STATUS_STATE ≠ 3) ∧
    (∃ (p : Sys2Proof.Path) (a v : Word) (s : State), (a = 0x44000 ∨ a = 0x44004) ∧ writeAdmitted p a.toNat v s =
      true) ∧
    (∃ (p : Sys2Proof.Path) (a v : Word) (s : State), (a = 0x44000 ∨ a = 0x44004) ∧ writeAdmitted p a.toNat v s =
      true) ∧
    (∃ (p : Sys2Proof.Path) (s : State), writeAdmitted p 0x440CC 1 s = true ∧ hostPowered s = true) :=
  ⟨⟨.eth2, w stStandby [(F.ETH_PHY_EN 1, 1), (F.ETH_STAT_LINK 1, 0)], by decide +kernel⟩,
    ⟨.eth2, w stStandby [(F.ETH_PHY_EN 1, 1), (F.ETH_STAT_LINK 1, 1)], by decide +kernel⟩,
    ⟨5, ⟨5, 0, 0⟩, { w stStandby [] with net := { macs := [⟨5, 0, 0⟩] } }, by decide +kernel⟩,
    ⟨.win, w stStandby [], by decide +kernel⟩,
    ⟨{ w stStandby [(F.ETH_IP_ACT_VALUE, 0)] with net := { dhcp := true } }, by decide +kernel⟩,
    ⟨.eth2, 0, w stStandby [(F.PTP_CFG_PROFILE, 1), (F.PTP_CFG_PORT2_EN, 1)], by decide +kernel⟩,
    ⟨.eth2, 7, w stStandby [(F.PTP_CFG_PROFILE, 1), (F.PTP_CFG_PORT2_EN, 1)], by decide +kernel⟩,
    ⟨3, { w stStandby [(F.PTP_STATUS_STATE, 3)] with net := { lastSample := some 3 } }, by decide +kernel⟩,
    ⟨3, { w stStandby [] with net := { lastAnnounce := some 3 } }, by decide +kernel⟩,
    ⟨3, { w stStandby [] with net := { lastLocked := some 3 } }, by decide +kernel⟩,
    ⟨.win, 0x44000, 1, w stStandby [], by decide +kernel⟩,
    ⟨.win, 0x44004, 1, w stStandby [], by decide +kernel⟩,
    ⟨.win, w stStandby [], by decide +kernel⟩⟩

/-- The hypotheses of ServicePortCommandsComplete are met. -/
theorem witness_ServicePortCommandsComplete :
    (∃ (a : BitVec 7) (n : ℕ) (s : State), hostPowered s = true ∧ twsSlot s a.toNat = some n) ∧
    (∃ (a : BitVec 7) (n : ℕ) (off : BitVec 16) (pec : Option (BitVec 8)) (s : State), hostPowered s = true ∧
      twsSlot s a.toNat = some n ∧ off.toNat ≤ 1087 ∧ pecBad a 0x02 (u16 off.toNat) pec s = true) ∧
    (∃ (a : BitVec 7) (n : ℕ) (off : BitVec 16) (pec : Option (BitVec 8)) (s : State), hostPowered s = true ∧
      twsSlot s a.toNat = some n ∧ off.toNat ≤ 1087 ∧ pecBad a 0x02 (u16 off.toNat) pec s = false) ∧
    (∃ (a : BitVec 7) (n : ℕ) (data : List Byte) (s : State), hostPowered s = true ∧ twsSlot s a.toNat = some n ∧ 1
      ≤ data.length ∧ data.length ≤ 32 ∧ s.cmd.mboxPtr + data.length ≤ 1088) ∧
    (∃ (a : BitVec 7) (n : ℕ) (data : List Byte) (s : State), hostPowered s = true ∧ twsSlot s a.toNat = some n ∧ 1
      ≤ data.length ∧ data.length ≤ 32 ∧ s.cmd.mboxPtr + data.length ≤ 1088) ∧
    (∃ (a : BitVec 7) (n : ℕ) (len : BitVec 16) (s : State), hostPowered s = true ∧ twsSlot s a.toNat = some n ∧ 10
      ≤ len.toNat ∧ len.toNat ≤ 1088) ∧
    (∃ (a : BitVec 7) (n : ℕ) (len : BitVec 16) (s : State), hostPowered s = true ∧ twsSlot s a.toNat = some n ∧ 10
      ≤ len.toNat ∧ len.toNat ≤ 1088) ∧
    (∃ (a : BitVec 7) (n : ℕ) (data : List Byte) (k : ℕ) (s : State), hostPowered s = true ∧ twsSlot s a.toNat =
      some n ∧ data.length = 4 * k ∧ 1 ≤ k ∧ k ≤ 8) ∧
    (∃ (a : BitVec 7) (n : ℕ) (data : List Byte) (k : ℕ) (s : State), hostPowered s = true ∧ twsSlot s a.toNat =
      some n ∧ data.length = 4 * k ∧ 1 ≤ k ∧ k ≤ 8) :=
  ⟨⟨0x10, 0, w stStandby [(⟨0x41004, 0, 8⟩, 0x90)], by decide +kernel⟩,
    ⟨0x10, 0, 1087, some 0, w stStandby [(⟨0x41004, 0, 8⟩, 0x90)], by decide +kernel⟩,
    ⟨0x10, 0, 1087, none, w stStandby [(⟨0x41004, 0, 8⟩, 0x90), (⟨0x41000, 8, 1⟩, 0)], by decide +kernel⟩,
    ⟨0x10, 0, List.replicate 1 0, { w stStandby [(⟨0x41004, 0, 8⟩, 0x90)] with cmd := { mboxPtr := 1087 } }, by decide +kernel⟩,
    ⟨0x10, 0, List.replicate 32 0, { w stStandby [(⟨0x41004, 0, 8⟩, 0x90)] with cmd := { mboxPtr := 1056 } }, by decide +kernel⟩,
    ⟨0x10, 0, 10, w stStandby [(⟨0x41004, 0, 8⟩, 0x90)], by decide +kernel⟩,
    ⟨0x10, 0, 1088, w stStandby [(⟨0x41004, 0, 8⟩, 0x90)], by decide +kernel⟩,
    ⟨0x10, 0, List.replicate 4 0, 1, w stStandby [(⟨0x41004, 0, 8⟩, 0x90)], by decide +kernel⟩,
    ⟨0x10, 0, List.replicate 32 0, 8, w stStandby [(⟨0x41004, 0, 8⟩, 0x90)], by decide +kernel⟩⟩

/-- The hypotheses of TwoWireLocalCommandsComplete are met. -/
theorem witness_TwoWireLocalCommandsComplete :
    (∃ (p : Sys2Proof.Path) (v : Word) (s : State), writeAdmitted p 0x42004 v s = true ∧ fieldOf v 24 8 ≤ 32 ∧
      fieldOf v 16 8 ≤ 32 ∧ bitOf v 0 = false) ∧
    (∃ (p : Sys2Proof.Path) (v : Word) (s : State), writeAdmitted p 0x42004 v s = true ∧ fieldOf v 24 8 ≤ 32 ∧
      fieldOf v 16 8 ≤ 32 ∧ bitOf v 0 = true ∧ s.flag F.TWL_STATUS_BUSY = false ∧ s.flag F.TWL_CFG_EN = true ∧
      (((storeWord (Path.origin p) 0x42004 (v &&& 0xFFFF7F00) s).set F.TWL_STATUS_RETRIES_USED 0).set
      F.TWL_STATUS_RESULT 0).flag F.TWL_STATUS_STUCK = false) ∧
    (∃ (p : Sys2Proof.Path) (v : Word) (s : State), writeAdmitted p 0x42004 v s = true ∧ fieldOf v 24 8 ≤ 32 ∧
      fieldOf v 16 8 ≤ 32 ∧ bitOf v 0 = true ∧ s.flag F.TWL_STATUS_BUSY = false ∧ s.flag F.TWL_CFG_EN = true ∧
      (((storeWord (Path.origin p) 0x42004 (v &&& 0xFFFF7F00) s).set F.TWL_STATUS_RETRIES_USED 0).set
      F.TWL_STATUS_RESULT 0).flag F.TWL_STATUS_STUCK = true) ∧
    (∃ (s : State), s.bus.twlRun = true ∧ s.get F.TWL_XFER_RD_LEN = 32) ∧
    (∃ (p : Sys2Proof.Path) (v : Word) (s : State), writeAdmitted p 0x42008 v s = true ∧ bitOf v 0 = true ∧
      s.bus.twlRun = true) ∧
    (∃ (p : Sys2Proof.Path) (v : Word) (s : State), writeAdmitted p 0x42008 v s = true ∧ bitOf v 1 = true ∧
      s.bus.twlRun = false) ∧
    (∃ (p : Sys2Proof.Path) (v : Word) (s : State), writeAdmitted p 0x42008 v s = true ∧ bitOf v 1 = true ∧
      s.bus.twlRun = true ∧ bitOf v 0 = false) ∧
    (∃ (p : Sys2Proof.Path) (v : Word) (s : State), writeAdmitted p 0x42008 v s = true ∧ bitOf v 1 = true ∧
      s.bus.twlRun = true ∧ bitOf v 0 = true) ∧
    (∃ (s : State), s.bus.twlCycle = true) :=
  ⟨⟨.win, 0x20200000, w stStandby [], by decide +kernel⟩,
    ⟨.win, 0x20200001, w stStandby [(F.TWL_CFG_EN, 1), (F.TWL_STATUS_STUCK, 0)], by decide +kernel⟩,
    ⟨.win, 0x20200001, w stStandby [(F.TWL_CFG_EN, 1), (F.TWL_STATUS_STUCK, 1)], by decide +kernel⟩,
    ⟨{ w stStandby [(F.TWL_XFER_RD_LEN, 32)] with bus := { twlRun := true } }, by decide +kernel⟩,
    ⟨.win, 1, { w stStandby [] with bus := { twlRun := true } }, by decide +kernel⟩,
    ⟨.win, 2, w stStandby [], by decide +kernel⟩,
    ⟨.win, 2, { w stStandby [] with bus := { twlRun := true } }, by decide +kernel⟩,
    ⟨.win, 3, { w stStandby [] with bus := { twlRun := true } }, by decide +kernel⟩,
    ⟨{ w stStandby [] with bus := { twlCycle := true } }, by decide +kernel⟩⟩

/-- The hypotheses of RecorderCommandsComplete are met. -/
theorem witness_RecorderCommandsComplete :
    (∃ (c : Ctx) (s : State), s.evr.clear = none ∧ s.flag F.EVR_STATUS_READY = true ∧ s.flag F.FEED_STATUS_PF_WARN =
    false ∧ Safety.Admitted c 2305 s) ∧
    (∃ (c : Ctx) (count : BitVec 8) (s : State), Safety.Admitted c 2304 s ∧ s.flag F.EVR_STATUS_READY = true ∧ 1 ≤
    count.toNat ∧ count.toNat ≤ 15 ∧ s.evr.clear = none) ∧
    (∃ (c : Ctx) (mask : BitVec 8) (s : State), Safety.Admitted c 2306 s ∧ mask.toNat % 16 ≠ 0 ∧ s.evr.clear = none) ∧
    (∃ (x : Clear) (s : State), s.evr.clear = some x) :=
  ⟨⟨udp, w stStandby [(F.EVR_STATUS_READY, 1)], by decide +kernel, by decide +kernel, by decide +kernel,
    adm (by decide +kernel)⟩,
    ⟨udp, 15, w stStandby [(F.EVR_STATUS_READY, 1)], adm (by decide +kernel), by decide +kernel⟩,
    ⟨ses, 8, au stStandby [], adm (by decide +kernel), by decide +kernel⟩,
    ⟨⟨1, 1, udp, []⟩, { w stStandby [] with evr := { clear := some ⟨1, 1, udp, []⟩ } }, by decide +kernel⟩⟩

/-- The hypotheses of FirmwareTransferCommandsComplete are met. -/
theorem witness_FirmwareTransferCommandsComplete :
    (∃ (c : Ctx) (typ : BitVec 8) (size : Word) (s : State), Safety.Admitted c 2560 s ∧ 1 ≤ typ.toNat ∧ typ.toNat ≤ 3 ∧
    257 ≤ BitVec.toNat size ∧ BitVec.toNat size ≤ imageLimit typ.toNat ∧ typeTakes c typ.toNat (noteAdmit s) = true
    ∧ s.fwu.xfer = none ∧ s.fwu.ho = none ∧ s.fwu.pln = none ∧ s.flag F.FWU_STATUS_UNCONFIRMED = false) ∧
    (∃ (c : Ctx) (typ : BitVec 8) (size : Word) (s : State), Safety.Admitted c 2560 s ∧ 1 ≤ typ.toNat ∧ typ.toNat ≤ 3 ∧
    257 ≤ BitVec.toNat size ∧ BitVec.toNat size ≤ imageLimit typ.toNat ∧ typeTakes c typ.toNat (noteAdmit s) = true
    ∧ s.fwu.xfer = none ∧ s.fwu.ho = none ∧ s.fwu.pln = none ∧ s.flag F.FWU_STATUS_UNCONFIRMED = false) ∧
    (∃ (c : Ctx) (off : Word) (data : List Byte) (x : Xfer) (s : State), s.fwu.xfer = some x ∧ Safety.Admitted c 2561 s
    ∧ 1 ≤ data.length ∧ data.length ≤ 1020 ∧ ownsXfer c x = true ∧ BitVec.toNat off = s.get F.FWU_XFER_OFFSET_VALUE
    ∧ BitVec.toNat off + data.length ≤ x.size ∧ Safety.Admitted c 2562 s ∧ s.fwu.verify = none) ∧
    (∃ (c : Ctx) (s : State), s.fwu.verify = some c) ∧
    (∃ (c : Ctx) (s : State), Safety.Admitted c 2566 s) ∧
    (∃ (c : Ctx) (port : BitVec 8) (hops : BitVec 8) (s : State), Safety.Admitted c 0x0A05 s ∧ (port = 1 ∨ port = 2) ∧ 1
    ≤ hops.toNat ∧ hops.toNat ≤ 254 ∧ s.fwu.xfer = none ∧ s.flag F.FWU_STATUS_RELAY_BUSY = false ∧ relayTypes
    (noteAdmit s) ≠ [] ∧ linkUp (((replyAccepted c 0x0A05 (noteAdmit s)).fresh.2.set F.FWU_RELAY_ID_VALUE
    ((replyAccepted c 0x0A05 (noteAdmit s)).fresh.1 % 2 ^ 32)).set F.FWU_STATUS_HOPS_DONE 0) (portOf port.toNat) =
    true) ∧
    (∃ (t : ℕ) (s : State), s.fwu.confirmAt = some t ∧ s.flag F.FWU_STATUS_UNCONFIRMED = true ∧ s.fwu.failed = false) ∧
    (∃ (tx : RelayTx) (p : EthPort) (id : Word) (bytes : List Byte) (s : State), s.fwu.tx = some tx ∧ hostPowered s =
    true ∧ tx.ctx.isSome = true ∧ tx.port = p ∧ tx.id = id.toNat ∧ isReply bytes = true) ∧
    (∃ (tx : RelayTx) (seq : BitVec 16) (e : RelayPkt) (s : State), s.fwu.tx = some tx ∧ hostPowered s = true ∧
    tx.flight.find? (fun e => e.seq == seq.toNat) = some e ∧ e.tries < 3) :=
  ⟨⟨udp, 2, 33554432, w stStandby [], adm (by decide +kernel), by decide +kernel⟩,
    ⟨tws, 3, 257, w stRecovery [], adm (by decide +kernel), by decide +kernel⟩,
    ⟨udp, 976, List.replicate 1020 0, ⟨1, 2000, .udp 1 2, 0, 0⟩,
    { w stStandby [(F.FWU_XFER_OFFSET_VALUE, 976)] with fwu := { xfer := some ⟨1, 2000, .udp 1 2, 0, 0⟩ } },
    by decide +kernel, adm (by decide +kernel), by decide +kernel, by decide +kernel,
    by decide +kernel, by decide +kernel, by decide +kernel, adm (by decide +kernel),
    by decide +kernel⟩,
    ⟨udp, { w stStandby [] with fwu := { verify := some udp } }, by decide +kernel⟩,
    ⟨udp, w stStandby [], adm (by decide +kernel)⟩,
    ⟨udp, 1, 254, relayable, adm (by decide +kernel), .inl rfl, by decide +kernel, by decide +kernel,
    by decide +kernel, by decide +kernel, by decide +kernel, (Laws.flag_set_apart _ _ _ _ (by decide)).trans
    ((Laws.flag_set_apart _ _ _ _ (by decide)).trans (by decide +kernel))⟩,
    ⟨3, { w stStandby [(F.FWU_STATUS_UNCONFIRMED, 1)] with fwu := { confirmAt := some 3 } }, by decide +kernel⟩,
    
    ⟨{ ctx := some udp, port := .eth1, hop := 1, left := 0, id := 6, rest := [], typ := 1, flight := [⟨9, 0, [], 2, 0⟩] },
    .eth1, 6, packet udp 1 0x0A01 0 [],
    { w stStandby [] with fwu := { tx := some { ctx := some udp, port := .eth1, hop := 1, left := 0, id := 6, rest := [], typ := 1, flight := [⟨9, 0, [], 2, 0⟩] } } },
    by decide +kernel⟩,
    
    ⟨{ ctx := some udp, port := .eth1, hop := 1, left := 0, id := 6, rest := [], typ := 1, flight := [⟨9, 0, [], 2, 0⟩] },
    9, ⟨9, 0, [], 2, 0⟩,
    { w stStandby [] with fwu := { tx := some { ctx := some udp, port := .eth1, hop := 1, left := 0, id := 6, rest := [], typ := 1, flight := [⟨9, 0, [], 2, 0⟩] } } },
    by decide +kernel⟩⟩

/-- The hypotheses of ActivationCommandsComplete are met. -/
theorem witness_ActivationCommandsComplete :
    (∃ (c : Ctx) (s : State), Safety.Admitted c 0x0A03 s ∧ handoverOk (noteAdmit s) = true) ∧
    (∃ (c : Ctx) (s : State), Safety.Admitted c 0x0A03 s ∧ handoverOk (noteAdmit s) = false) ∧
    (∃ (h : Handover) (t : ℕ) (s : State), s.fwu.ho = some h ∧ h.m1 = some t ∧ s.get F.FWU_STATUS_HO_STATE = 1) ∧
    (∃ (h : Handover) (t : ℕ) (s : State), s.fwu.ho = some h ∧ h.mk_ = some t ∧ s.get F.FWU_STATUS_HO_STATE = 3 ∧ 2
      ≤ h.misses) ∧
    (∃ (h : Handover) (t : ℕ) (s : State), s.fwu.ho = some h ∧ h.mk_ = some t ∧ s.get F.FWU_STATUS_HO_STATE = 3 ∧
      h.misses < 2) ∧
    (∃ (c : Ctx) (s : State), Safety.Admitted c 0x0A04 s ∧ s.fwu.pln ≠ none) ∧
    (∃ (c : Ctx) (s : State), Safety.Admitted c 0x0A04 s ∧ s.fwu.pln = none ∧ s.st = stRecovery) ∧
    (∃ (c : Ctx) (s : State), Safety.Admitted c 0x0A04 s ∧ s.fwu.pln = none ∧ s.st ≠ stRecovery ∧ plnOk (noteAdmit
      s) = false) ∧
    (∃ (c : Ctx) (s : State), Safety.Admitted c 0x0A04 s ∧ s.fwu.pln = none ∧ s.st ≠ stRecovery ∧ plnOk (noteAdmit
      s) = true) ∧
    (∃ (c : Ctx) (t : ℕ) (s : State), s.fwu.pln = some (c, t) ∧ s.flag F.FWU_STATUS_PLN_PAUSE = true) ∧
    (∃ (t : ℕ) (s : State), s.fwu.exitAt = some t ∧ s.st = stRecovery) :=
  ⟨⟨udp, handover, adm (by decide +kernel), by decide +kernel⟩,
    ⟨udp, w stStandby [], adm (by decide +kernel), by decide +kernel⟩,
    ⟨{ ctx := udp, m1 := some 3, mk_ := some 4, misses := 0 }, 3,
      { w stStandby [(F.FWU_STATUS_HO_STATE, 1)] with fwu := { ho := some { ctx := udp, m1 := some 3, mk_ := some 4, misses := 0 } } }, by decide +kernel⟩,
    ⟨{ ctx := udp, m1 := some 3, mk_ := some 4, misses := 2 }, 4,
      { w stStandby [(F.FWU_STATUS_HO_STATE, 3)] with fwu := { ho := some { ctx := udp, m1 := some 3, mk_ := some 4, misses := 2 } } }, by decide +kernel⟩,
    ⟨{ ctx := udp, m1 := some 3, mk_ := some 4, misses := 1 }, 4,
      { w stStandby [(F.FWU_STATUS_HO_STATE, 3)] with fwu := { ho := some { ctx := udp, m1 := some 3, mk_ := some 4, misses := 1 } } }, by decide +kernel⟩,
    ⟨ses, { planner with fwu := { pln := some (udp, 3) } }, adm (by decide +kernel), by decide +kernel⟩,
    ⟨ses, au stRecovery [], adm (by decide +kernel), by decide +kernel⟩,
    ⟨ses, au stStandby [], adm (by decide +kernel), by decide +kernel⟩,
    ⟨ses, planner, adm (by decide +kernel), by decide +kernel⟩,
    ⟨udp, 3, { w stStandby [(F.FWU_STATUS_PLN_PAUSE, 1)] with fwu := { pln := some (udp, 3) } }, by decide +kernel⟩,
    ⟨3, { w stRecovery [] with fwu := { exitAt := some 3 } }, by decide +kernel⟩⟩

/-- The hypotheses of FeedCommandsComplete are met. -/
theorem witness_FeedCommandsComplete :
    (∃ (s : State), s.sys.powered = false) ∧
    (∃ (s : State), s.sys.powered = true ∧ s.st ≠ stShip) ∧
    (∃ (f : Feed) (s : State), s.sys.powered = true ∧ s.st ≠ stShip ∧ s.flag (feedPresent f) = true ∧ s.pwr.chg =
      none ∧ s.pwr.swap = none) ∧
    (∃ (f : Feed) (y : SwapTest) (s : State), s.sys.powered = true ∧ s.st ≠ stShip ∧ s.flag (feedPresent f) = true ∧
      s.pwr.chg = none ∧ s.pwr.swap = some y) ∧
    (∃ (f : Feed) (x : Changeover) (s : State), s.sys.powered = true ∧ s.st ≠ stShip ∧ s.flag (feedPresent f) = true
      ∧ s.pwr.chg = some x ∧ s.pwr.swap = none) ∧
    (∃ (f : Feed) (x : Changeover) (y : SwapTest) (s : State), s.sys.powered = true ∧ s.st ≠ stShip ∧ s.flag
      (feedPresent f) = true ∧ s.pwr.chg = some x ∧ s.pwr.swap = some y) ∧
    (∃ (s : State), s.sys.powered = true ∧ s.st ≠ stShip ∧ s.flag F.FEED_STATUS_PF_WARN = true) ∧
    (∃ (x : Changeover) (s : State), s.sys.powered = true ∧ s.st ≠ stShip ∧ s.pwr.chg = some x ∧ s.flag (feedPresent
      x.dest) = true ∧ s.pwr.swap = none) ∧
    (∃ (x : Changeover) (y : SwapTest) (s : State), s.sys.powered = true ∧ s.st ≠ stShip ∧ s.pwr.chg = some x ∧
      s.flag (feedPresent x.dest) = true ∧ s.pwr.swap = some y ∧ x.use ≠ 1) ∧
    (∃ (x : Changeover) (y : SwapTest) (s : State), s.sys.powered = true ∧ s.st ≠ stShip ∧ s.pwr.chg = some x ∧
      s.flag (feedPresent x.dest) = true ∧ s.pwr.swap = some y ∧ x.use = 1) ∧
    (∃ (t : ℕ) (s : State), s.sys.powered = true ∧ s.st ≠ stShip ∧ s.pwr.storeLow = some t) ∧
    (∃ (s : State), s.sys.powered = true ∧ s.st ≠ stShip ∧ s.flag F.FEED_STATUS_IL_DRIVE = true) ∧
    (∃ (f : Feed) (s : State), s.sys.powered = true ∧ s.st ≠ stShip ∧ activeFeed s = some f ∧ feedCfg s
      F.FEED_CFG_DUAL = 1 ∧ s.flag (feedPresent (otherFeed f)) = false ∧ s.pwr.standbyArmed = true) ∧
    (∃ (t : ℕ) (s : State), s.sys.powered = true ∧ s.st ≠ stShip ∧ feedSince s (prefFeed s) = some t ∧ feedCfg s
      F.FEED_CFG_AUTO_RET = 1 ∧ activeFeed s = some (otherFeed (prefFeed s)) ∧ feedIdle s = true) ∧
    (∃ (x : Changeover) (s : State), s.pwr.chg = some x ∧ x.forced = true) ∧
    (∃ (x : Changeover) (s : State), s.pwr.chg = some x ∧ x.forced = false ∧ ((endChg (s.at (x.at_ + ms))).setB
      (feedSwitch x.dest) false).flag (feedPresent (otherFeed x.dest)) = false) ∧
    (∃ (x : Changeover) (s : State), s.pwr.chg = some x ∧ x.forced = false ∧ ((endChg (s.at (x.at_ + ms))).setB
      (feedSwitch x.dest) false).flag (feedPresent (otherFeed x.dest)) = true ∧ s.pwr.swap = none) ∧
    (∃ (x : Changeover) (y : SwapTest) (s : State), s.pwr.chg = some x ∧ x.forced = false ∧ ((endChg (s.at (x.at_ +
      ms))).setB (feedSwitch x.dest) false).flag (feedPresent (otherFeed x.dest)) = true ∧ s.pwr.swap = some y) ∧
    (∃ (p : Sys2Proof.Path) (s : State), writeAdmitted p 0x300C 1 s = true) ∧
    (∃ (p : Sys2Proof.Path) (s : State), writeAdmitted p 0x300C 2 s = true) ∧
    (∃ (p : Sys2Proof.Path) (s : State), writeAdmitted p 0x300C 4 s = true) ∧
    (∃ (s : State), supActs s = true ∧ s.get F.FEED_SWAP_CFG_PERIOD ≠ 0 ∧ s.pwr.swapAt + s.get
      F.FEED_SWAP_CFG_PERIOD * 86400 ≤ s.sys.opSec ∧ (∀ r ∈ s.pwr.retryAt, r ≤ s.sys.opSec)) ∧
    (∃ (y : SwapTest) (t : ℕ) (s : State), s.pwr.swap = some y ∧ s.pwr.chg = none ∧ y.endAt = some t) :=
  ⟨⟨State.reset, by decide +kernel⟩,
    ⟨w stStandby [], by decide +kernel⟩,
    ⟨.a, w stStandby [(feedPresent .a, 1), (F.FEED_STATUS_ACTIVE, 1)], by decide +kernel⟩,
    ⟨.a, { orig := .a }, { w stStandby [(feedPresent .a, 1), (F.FEED_STATUS_ACTIVE, 1)] with pwr := { swap := some { orig := .a } } }, by decide +kernel⟩,
    ⟨.a, ⟨.b, false, 0, 0⟩, { w stStandby [(feedPresent .a, 1), (F.FEED_STATUS_ACTIVE, 1)] with pwr := { chg := some ⟨.b, false, 0, 0⟩ } }, by decide +kernel⟩,
    ⟨.a, ⟨.b, false, 0, 1⟩, { orig := .a },
      { w stStandby [(feedPresent .a, 1), (F.FEED_STATUS_ACTIVE, 1)] with pwr := { chg := some ⟨.b, false, 0, 1⟩, swap := some { orig := .a } } }, by decide +kernel⟩,
    ⟨w stStandby [(F.FEED_STATUS_PF_WARN, 1)], by decide +kernel⟩,
    ⟨⟨.b, true, 0, 0⟩, { w stStandby [(feedPresent .b, 1)] with pwr := { chg := some ⟨.b, true, 0, 0⟩ } }, by decide +kernel⟩,
    ⟨⟨.b, false, 0, 2⟩, { orig := .a },
      { w stStandby [(feedPresent .b, 1)] with pwr := { chg := some ⟨.b, false, 0, 2⟩, swap := some { orig := .a } } }, by decide +kernel⟩,
    ⟨⟨.b, false, 0, 1⟩, { orig := .a },
      { w stStandby [(feedPresent .b, 1)] with pwr := { chg := some ⟨.b, false, 0, 1⟩, swap := some { orig := .a } } }, by decide +kernel⟩,
    ⟨3, { w stStandby [] with pwr := { storeLow := some 3 } }, by decide +kernel⟩,
    ⟨w stStandby [(F.FEED_STATUS_IL_DRIVE, 1)], by decide +kernel⟩,
    ⟨.a, { w stStandby [(F.FEED_STATUS_ACTIVE, 1), (F.FEED_CFG_DUAL, 1)] with pwr := { loaded := true } }, by decide +kernel⟩,
    ⟨3, { w stStandby [(F.FEED_STATUS_ACTIVE, 2), (F.FEED_CFG_AUTO_RET, 1)] with pwr := { loaded := true, aSince := some 3 } }, by decide +kernel⟩,
    ⟨⟨.b, true, 0, 0⟩, { w stStandby [] with pwr := { chg := some ⟨.b, true, 0, 0⟩ } }, by decide +kernel⟩,
    ⟨⟨.b, false, 0, 0⟩, { w stStandby [] with pwr := { chg := some ⟨.b, false, 0, 0⟩ } }, by decide +kernel⟩,
    ⟨⟨.b, false, 0, 0⟩, { w stStandby [(feedPresent .a, 1)] with pwr := { chg := some ⟨.b, false, 0, 0⟩ } }, by decide +kernel⟩,
    ⟨⟨.b, false, 0, 1⟩, { orig := .a },
      { w stStandby [(feedPresent .a, 1)] with pwr := { chg := some ⟨.b, false, 0, 1⟩, swap := some { orig := .a } } }, by decide +kernel⟩,
    ⟨.win, w stStandby [], by decide +kernel⟩,
    ⟨.win, w stStandby [], by decide +kernel⟩,
    ⟨.win, w stStandby [], by decide +kernel⟩,
    ⟨{ w stStandby [(F.FEED_SWAP_CFG_PERIOD, 1)] with
        sys := { powered := true, supRuns := true, opSec := 86400 }, pwr := { retryAt := some 86400 } }, by decide +kernel⟩,
    ⟨{ orig := .a, endAt := some 3 }, 3,
      { w stStandby [] with pwr := { swap := some { orig := .a, endAt := some 3 } } }, by decide +kernel⟩⟩

/-- The hypotheses of IsolationEndsOnlyWithCausesClear are met. -/
theorem witness_IsolationEndsOnlyWithCausesClear :
    (∃ (s : State), s.st = stIsolated ∧ latched s = true ∧ s.flag F.CVL_WADI_TONE = true ∧ causesClear s = true) ∧
    (∃ (s : State), s.st = stIsolated ∧ latched s = true ∧ (s.flag F.CVL_WADI_TONE = false ∨ causesClear s = false)) :=
  ⟨⟨w stIsolated [(F.SAFE_STATUS_SP_LATCH, 1), (F.SAFE_STATUS_ZSL_LATCH, 1), (F.CVL_WADI_TONE, 1),
    (F.SAFE_CFG_SI0_USED, 0), (F.SAFE_CFG_SI1_USED, 0)], by decide +kernel⟩,
    ⟨w stIsolated [(F.SAFE_STATUS_SP_LATCH, 1), (F.SAFE_STATUS_ZSL_LATCH, 1), (F.CVL_WADI_TONE, 0)], by decide +kernel⟩⟩

/-- The hypotheses of EnergyIsolationIsComplete are met. -/
theorem witness_EnergyIsolationIsComplete :
    (∃ (code : ℕ) (s : State), code < 256 ∧ s.awake = true ∧ latched s = false ∧ s.safe.scs = none) :=
  ⟨255, w stRun [], by decide +kernel⟩

/-- The hypotheses of LoopOpeningLeavesNothingRunning are met. -/
theorem witness_LoopOpeningLeavesNothingRunning :
    (∃ (s : State), s.flag F.CTL_STATUS_CLOSED = false) ∧
    (∃ (code : ℕ) (s : State), s.flag F.CTL_STATUS_CLOSED = true ∧ code < 16) :=
  ⟨⟨w stRun [], by decide +kernel⟩,
    ⟨15, w stRun [(F.CTL_STATUS_CLOSED, 1)], by decide +kernel⟩⟩

/-- The hypotheses of SettlingChangesOnlyDerivedLevels are met. -/
theorem witness_SettlingChangesOnlyDerivedLevels :
    (∃ (s : State), s.flag F.CTL_STATUS_CLOSED = false) :=
  ⟨w stRun [], by decide +kernel⟩

/-- The hypotheses of ConversationsLeaveTheModule are met. -/
theorem witness_ConversationsLeaveTheModule :
    (∃ (i : Instr) (c : Ctx) (op : ℕ) (s : State) (t : State) (a : Nat), Safety.rcpRow i = some (c, op) ∧ op ∈ [0x0000,
    0x0001, 0x0002, 0x0003, 0x0004, 0x0403, 0x0605, 0x0801, 0x0901, 0x0A06, 0x0B00, 0x0B02] ∧ s.flag
    F.CTL_STATUS_CLOSED = false ∧ exec i s = .next t ∧ a ∉ [F.INT_SUMMARY_GROUP.addr, F.CMD_QUEUE_SESSIONS.addr,
    F.AUTH_STATUS_AUTH_SESS.addr, F.EVR_STATUS_BUF_FILL.addr, F.EVR_HELD_SAFETY.addr, F.SAFE_STATUS_SAFE_OK.addr,
    (konLs 0).addr, F.CTL_STATUS_PWM_EN.addr, F.CMD_MBOX_READY.addr, (F.INT_CAUSE_CAUSE 1).addr]) ∧
    (∃ (i : Instr) (c : Ctx) (op : ℕ) (s : State) (t : State), Safety.rcpRow i = some (c, op) ∧ op ∈ [0, 1, 2, 3, 4,
    1027, 1541, 2049, 2305, 2566, 2816, 2818] ∧ s.flag F.CTL_STATUS_CLOSED = false ∧ exec i s = Host.Outcome.next t) :=
  ⟨⟨.ping udp [1], udp, 0x0000, w stStandby [], _, 0x30, rfl, by decide, by decide +kernel, rfl, by decide +kernel⟩,
    ⟨.authDrop udp, udp, 0x0B02, w stStandby [], _, rfl, by decide, by decide +kernel, rfl⟩⟩

/-- The hypotheses of RecordSlotsAreChosenBySeverity are met. -/
theorem witness_RecordSlotsAreChosenBySeverity :
    (∃ (r : Rec) (l : List Rec) (s : State), s.evr.buffer = r :: l ∧ r.sev = 4 ∧ s.evr.safety.length < 4096 ∧ (∀ e ∈
    s.evr.safety, e.2.sev = 4)) ∧
    (∃ (r : Rec) (l : List Rec) (e : ℕ × Rec) (m : List (ℕ × Rec)) (s : State), s.evr.buffer = r :: l ∧ r.sev = 4 ∧
    s.evr.safety = e :: m ∧ 4096 ≤ s.evr.safety.length) ∧
    (∃ (r : Rec) (l : List Rec) (s : State), s.evr.buffer = r :: l ∧ r.sev < 4 ∧ s.evr.general.length < 61440) ∧
    (∃ (r : Rec) (l : List Rec) (a : List (Nat × Rec)) (x : ℕ × Rec) (b : List (ℕ × Rec)) (s : State), s.evr.buffer = r
    :: l ∧ r.sev < 4 ∧ 61440 ≤ s.evr.general.length ∧ s.evr.general = a ++ x :: b ∧ x.2.sev ≤ r.sev ∧ (∀ y ∈ a,
    r.sev < y.2.sev)) ∧
    (∃ (r : Rec) (l : List Rec) (s : State), s.evr.buffer = r :: l ∧ r.sev < 4 ∧ 61440 ≤ s.evr.general.length ∧ (∀ y ∈
    s.evr.general, r.sev < y.2.sev)) :=
  ⟨⟨⟨0, 0, 0, 0, 4, 1, 1, []⟩, [], { w stStandby [] with evr := { buffer := [⟨0, 0, 0, 0, 4, 1, 1, []⟩] } },
    by decide +kernel⟩,
    ⟨⟨0, 0, 0, 0, 4, 1, 1, []⟩, [], (1, ⟨0, 0, 0, 0, 4, 1, 1, []⟩), List.replicate 4095 (1, ⟨0, 0, 0, 0, 4, 1, 1, []⟩),
    { w stStandby [] with evr := { buffer := [⟨0, 0, 0, 0, 4, 1, 1, []⟩], safety := List.replicate 4096 (1, ⟨0, 0, 0, 0, 4, 1, 1, []⟩) } },
    rfl, rfl, rfl, length_fill (by decide : 4096 ≤ 4096)⟩,
    ⟨⟨0, 0, 0, 0, 2, 1, 1, []⟩, [], { w stStandby [] with evr := { buffer := [⟨0, 0, 0, 0, 2, 1, 1, []⟩] } },
    by decide +kernel⟩,
    ⟨⟨0, 0, 0, 0, 2, 1, 1, []⟩, [], [(1, ⟨0, 0, 0, 0, 3, 1, 1, []⟩)], (2, ⟨0, 0, 0, 0, 2, 1, 1, []⟩), List.replicate
    61438 (1, ⟨0, 0, 0, 0, 3, 1, 1, []⟩),
    { w stStandby [] with evr := { buffer := [⟨0, 0, 0, 0, 2, 1, 1, []⟩], general := [(1, ⟨0, 0, 0, 0, 3, 1, 1, []⟩), (2, ⟨0, 0, 0, 0, 2, 1, 1, []⟩)] ++ List.replicate 61438 (1, ⟨0, 0, 0, 0, 3, 1, 1, []⟩) } },
    rfl, by decide, length_fill2 (by decide : 61440 ≤ 61438 + 2), rfl, by decide, by decide⟩,
    ⟨⟨0, 0, 0, 0, 2, 1, 1, []⟩, [],
    { w stStandby [] with evr := { buffer := [⟨0, 0, 0, 0, 2, 1, 1, []⟩], general := List.replicate 61440 (1, ⟨0, 0, 0, 0, 3, 1, 1, []⟩) } },
    rfl, by decide, length_fill (by decide : 61440 ≤ 61440), all_fill (by decide)⟩⟩

/-- The hypotheses of AFullBufferKeepsTheHigherSeverity are met. -/
theorem witness_AFullBufferKeepsTheHigherSeverity :
    (∃ (r : Rec) (a : List Rec) (x : Rec) (b : List Rec) (s : State), s.evr.buffer.length = 256 ∧ r.sev ≤ 4 ∧ (∀ y ∈
    s.evr.buffer, y.sev ≤ 4) ∧ s.evr.buffer = a ++ x :: b ∧ x.sev < r.sev ∧ (∀ y ∈ s.evr.buffer, x.sev ≤ y.sev) ∧ (∀
    y ∈ b, y.sev ≠ x.sev)) ∧
    (∃ (r : Rec) (s : State), s.evr.buffer.length = 256 ∧ r.sev ≤ 4 ∧ (∀ y ∈ s.evr.buffer, y.sev ≤ 4) ∧ (∀ y ∈
    s.evr.buffer, r.sev ≤ y.sev)) :=
  ⟨⟨⟨0, 0, 0, 0, 4, 1, 1, []⟩, List.replicate 254 ⟨0, 0, 0, 0, 2, 1, 1, []⟩, ⟨0, 0, 0, 0, 2, 1, 1, []⟩, [⟨0, 0, 0, 0,
    3, 1, 1, []⟩],
    { w stStandby [] with evr := { buffer := List.replicate 255 ⟨0, 0, 0, 0, 2, 1, 1, []⟩ ++ [⟨0, 0, 0, 0, 3, 1, 1, []⟩] } },
    by decide +kernel, by decide +kernel, by decide +kernel, by decide +kernel, by decide +kernel,
    by decide +kernel, by decide +kernel⟩,
    ⟨⟨0, 0, 0, 0, 2, 1, 1, []⟩,
    { w stStandby [] with evr := { buffer := List.replicate 256 ⟨0, 0, 0, 0, 3, 1, 1, []⟩ } }, by decide +kernel⟩⟩

/-- The hypotheses of NetworkTimeIsContinuous are met. -/
theorem witness_NetworkTimeIsContinuous :
    (∃ (n : Nat) (s : State), s.time < 2 ^ 64 ∧ n < 2 ^ 64 ∧ networkNs s s.time < 2 ^ 64) :=
  ⟨2 ^ 64 - 1, { w stStandby [] with time := 1000 }, by decide +kernel⟩

/-- The hypotheses of SetpointCommandsComplete are met. -/
theorem witness_SetpointCommandsComplete :
    (∃ (c : Ctx) (addr : BitVec 32) (port : BitVec 16) (bytes : List Byte) (s : State), c.src = .udp addr port ∧
      c.v1 = false ∧ rcpOpen c s = true ∧ setpointReject 1 bytes s = none ∧ setpointStale 1 bytes s = false) ∧
    (∃ (c : Ctx) (addr : BitVec 32) (port : BitVec 16) (bytes : List Byte) (s : State), c.src = .udp addr port ∧
      c.v1 = false ∧ rcpOpen c s = true ∧ setpointReject 1 bytes s = none ∧ setpointStale 1 bytes s = true) ∧
    (∃ (c : Ctx) (addr : BitVec 32) (port : BitVec 16) (bytes : List Byte) (code : ℕ) (s : State), c.src = .udp addr
      port ∧ c.v1 = false ∧ rcpOpen c s = true ∧ setpointReject 1 bytes s = some code) ∧
    (∃ (c : Ctx) (s : State), rcpOpen c s = true ∧ isUdp c.src = false) ∧
    (∃ (c : Ctx) (s : State), rcpOpen c s = true ∧ c.v1 = true) ∧
    (∃ (bytes : List Byte) (s : State), canOn s .cana = true ∧ (bytes.length ≤ 8 ∨ canFdEn s .cana = true) ∧
      setpointReject 2 bytes (heard bytes s) = none ∧ setpointStale 2 bytes (heard bytes s) = false) ∧
    (∃ (sp : Setpoint) (t : ℕ) (s : State), s.disp.waiting = some sp ∧ sp.applyAt = some t) ∧
    (∃ (s : State), lossTimer s = true ∧ s.disp.lateSeen = false ∧ s.disp.lostSeen = false) ∧
    (∃ (s : State), lossTimer s = true ∧ s.disp.lateSeen = true ∧ s.disp.lostSeen = true) ∧
    (∃ (s : State), lossTimer s = false) ∧
    (∃ (t : ℕ) (s : State), s.disp.lastClamp = some t) :=
  ⟨⟨udp, 1, 2, [0, 0, 1, 0, 0, 0, 0, 0], w stStandby [(F.SYS_MODE_PERSONALITY, 1), (F.DISP_CFG_SOURCE, 1)], by decide +kernel⟩,
    ⟨udp, 1, 2, [0, 0, 1, 0, 0, 0, 0, 0], { w stStandby [(F.SYS_MODE_PERSONALITY, 1), (F.DISP_CFG_SOURCE, 1)] with disp := { baseEth := some 1 } }, by decide +kernel⟩,
    ⟨udp, 1, 2, [0, 0, 1, 0, 0, 0, 0, 0], 3, w stIsolated [(F.SYS_MODE_PERSONALITY, 1), (F.DISP_CFG_SOURCE, 1)], by decide +kernel⟩,
    ⟨tws, w stStandby [], by decide +kernel⟩,
    ⟨{ udp with v1 := true }, w stStandby [], by decide +kernel⟩,
    ⟨[0, 0, 1, 0, 0, 0, 0, 0], w stStandby [(F.SYS_MODE_PERSONALITY, 1), (F.DISP_CFG_SOURCE, 2), (canFld .cana 0 0 1, 1)], by decide +kernel⟩,
    ⟨⟨0, 5, none, 1, some 9⟩, 9, { w stRun [] with disp := { waiting := some ⟨0, 5, none, 1, some 9⟩ } }, by decide +kernel⟩,
    ⟨{ w stRun [(F.CTL_STATUS_CLOSED, 1), (F.SYS_MODE_PERSONALITY, 1), (F.DISP_CFG_SOURCE, 1)] with disp := { lateSeen := false, lostSeen := false } }, by decide +kernel⟩,
    ⟨{ w stRun [(F.CTL_STATUS_CLOSED, 1), (F.SYS_MODE_PERSONALITY, 1), (F.DISP_CFG_SOURCE, 1)] with disp := { lateSeen := true, lostSeen := true } }, by decide +kernel⟩,
    ⟨w stRun [], by decide +kernel⟩,
    ⟨9, { w stRun [] with disp := { lastClamp := some 9 } }, by decide +kernel⟩⟩

/-- The hypotheses of RecipeCommandsComplete are met. -/
theorem witness_RecipeCommandsComplete :
    (∃ (c : Ctx) (recipe step : BitVec 8) (record : List Byte) (s : State), Safety.Admitted c 0x0601 s ∧ isPlant s =
      false ∧ running s recipe.toNat = false ∧ recipe.toNat < 16 ∧ step.toNat < 64 ∧ record.length = 48) ∧
    (∃ (c : Ctx) (recipe count : BitVec 8) (s : State), Safety.Admitted c 0x0602 s ∧ isPlant s = false ∧ running s
      recipe.toNat = false ∧ recipe.toNat < 16 ∧ 1 ≤ count.toNat ∧ count.toNat ≤ 64 ∧ firstFail (noteAdmit s)
      (getRecipe s recipe.toNat) count.toNat = none) ∧
    (∃ (c : Ctx) (recipe first : BitVec 8) (s : State), Safety.Admitted c 0x0603 s ∧ s.flag F.CTL_STATUS_CLOSED =
      true ∧ recipe.toNat < 16 ∧ s.get F.SYS_MODE_PERSONALITY = 2 ∧ s.get F.CTL_CFG_OUTER_MODE = 0 ∧ sealedBit s
      recipe.toNat = true ∧ s.disp.run = none ∧ (hasType (getRecipe s recipe.toNat) 3 = true → fcvBoards s = true) ∧
      (hasType (getRecipe s recipe.toNat) 5 = true → s.flag F.EIS_STATUS_UNAVAIL = false) ∧ first.toNat < (getRecipe s
      recipe.toNat).count) ∧
    (∃ (c : Ctx) (s : State), Safety.Admitted c 0x0604 s ∧ isPlant s = false) ∧
    (∃ (c : Ctx) (g : List (List Byte)) (pos : BitVec 16) (count : BitVec 8) (s : State), Safety.Admitted c 0x0605 s
      ∧ s.disp.grades = some g ∧ 1 ≤ count.toNat ∧ count.toNat ≤ 32 ∧ pos.toNat + count.toNat ≤ posCount s ∧ (c.v1 =
      true → ((g.drop pos.toNat).take count.toNat).flatten.length ≤ 255)) ∧
    (∃ (c : Ctx) (g : List (List Byte)) (pos : BitVec 16) (count : BitVec 8) (s : State), Safety.Admitted c 0x0605 s
      ∧ s.disp.grades = some g ∧ 1 ≤ count.toNat ∧ count.toNat ≤ 32 ∧ pos.toNat + count.toNat ≤ posCount s ∧ (c.v1 =
      true → ((g.drop pos.toNat).take count.toNat).flatten.length ≤ 255)) ∧
    (∃ (r : Run) (n : ℕ) (t : ℕ) (s : State), s.disp.run = some r ∧ r.next = some n ∧ r.toggleAt = some t) ∧
    (∃ (r : Run) (a : ℕ) (s : State), s.disp.run = some r ∧ r.active = true ∧ heldAtMax r s = some a) ∧
    (∃ (r : Run) (s : State), s.disp.run = some r ∧ r.active = true ∧ heldAtMax r s = none ∧ (r.eisOn = false ∨
      s.eis.meas.isSome = true ∨ s.eis.closing.isSome = true)) :=
  ⟨⟨udp, 15, 63, List.replicate 48 0, w stStandby [(F.SYS_MODE_PERSONALITY, 2)], adm (by decide +kernel), by decide +kernel⟩,
    ⟨udp, 15, 1, resting, adm (by decide +kernel), by decide +kernel⟩,
    ⟨udp, 0, 0,
      { w stRun [(F.SYS_MODE_PERSONALITY, 2), (F.CTL_STATUS_CLOSED, 1), (F.DISP_RCP_SEALED_SEALED, 1), (F.EIS_STATUS_UNAVAIL, 0)] with
        disp := { recipes := [(0, { count := 1, steps := [(0, 5 :: List.replicate 47 0)] })] } },
      adm (by decide +kernel), by decide +kernel⟩,
    ⟨udp, w stStandby [(F.SYS_MODE_PERSONALITY, 2)], adm (by decide +kernel), by decide +kernel⟩,
    ⟨udp, [], 0, 4, { ring stStandby [] with disp := { grades := some [] } }, adm (by decide +kernel), by decide +kernel⟩,
    ⟨{ udp with v1 := true }, List.replicate 4 (List.replicate 32 0), 0, 4,
      { ring stStandby [] with disp := { grades := some (List.replicate 4 (List.replicate 32 0)) } }, adm (by decide +kernel), by decide +kernel⟩,
    ⟨{ recipe := 0, step := 0, ctx := udp, startAt := 0, stepAt := 0, active := true, toggleAt := some 5, next := some 1 },
      1, 5, { w stStandby [(F.SYS_MODE_PERSONALITY, 2)] with disp := { run := some { recipe := 0, step := 0, ctx := udp, startAt := 0, stepAt := 0, active := true, toggleAt := some 5, next := some 1 } } }, by decide +kernel⟩,
    ⟨{ recipe := 0, step := 0, ctx := udp, startAt := 0, stepAt := 0, active := true, toggleAt := some 5, next := some 1 },
      1, { w stStandby [(F.SYS_MODE_PERSONALITY, 2)] with disp := { recipes := [(0, warm)], run := some { recipe := 0, step := 0, ctx := udp, startAt := 0, stepAt := 0, active := true, toggleAt := some 5, next := some 1 } } }, by decide +kernel⟩,
    ⟨{ recipe := 0, step := 0, ctx := udp, startAt := 0, stepAt := 0, active := true, toggleAt := some 5, next := some 1 },
      { w stStandby [(F.SYS_MODE_PERSONALITY, 2)] with disp := { run := some { recipe := 0, step := 0, ctx := udp, startAt := 0, stepAt := 0, active := true, toggleAt := some 5, next := some 1 } } }, by decide +kernel⟩⟩

/-! ## Ill-formed commands -/

/-- One entry of each kind with its lists filled, for a board. -/
def slot (k n : Nat) : BoardSlot := ⟨k, true, true, 0, List.replicate n 0⟩
def bypass (k n : Nat) : BypassReport := ⟨k, List.replicate n 0⟩
def found (words : Nat) : FoundBoard := ⟨1, 1, false, false, [], [], List.replicate words 0, true⟩
def back (k : Nat) : BackBoard := ⟨k, [], [], none⟩

/-- All of a list are refused, or all are let through. -/
def refused (l : List Instr) : Bool := l.all (fun i => !i.wf)
def passed (l : List Instr) : Bool := l.all (fun i => i.wf)

theorem test_wf_boards : refused [.boardMissing 0, .boardMissing 37, .boardMissingClear 37, .boardResponse 0 8 0 [],
    .boardCommandResend 37 8, .boardCommandFail 0 8, .ringRestore [back 0], .ringRestore [back 1, back 37],
    .remoteMirrorRefresh [(37, [])] [] [], .remoteMirrorRefresh [(1, List.replicate 14 0)] [] [],
    .remoteMirrorRefresh [] [(0, 1)] [], .remoteMirrorRefresh [] [] [(37, 1)], .openWirePeriodic 0, .openWireDone 37,
    .wireBreakRetest 37] = true := by decide +kernel

theorem test_wf_positions : refused [.noReadingLimit 576, .cellFaultClear 576, .softLimitSet 576 true,
    .softLimitClear 576 false, .restPoint 576, .virtualRest 576, .cellLimit 576 true] = true := by
  decide +kernel

theorem test_wf_frames : refused [.frameReceived [slot 0 16] false 0 [], .frameReceived [slot 1 15] false 0 [],
    .frameReceived [] false 0 [bypass 37 16], .frameReceived [] false 0 [bypass 1 17], .caravan1Scan [slot 37 16] 0 [] none,
    .caravan1Scan [] 0 [bypass 1 15] none, .controlTick 0 0 0 [0] 0 0, .dioCycle [] (List.replicate 8 0) 0 0,
    .dioCycle (List.replicate 16 0) [] 0 0, .thermalScan [] 0, .pt1000Sample [1, 2, 3]] = true := by decide +kernel

theorem test_wf_start_up : refused [.serviceReqRelease 750000000 ⟨true, 0⟩, .bootDone ⟨1, [true]⟩,
    .enumDone ⟨[found 12], [], []⟩, .enumDone ⟨List.replicate 37 (found 13), [], []⟩, .enumDone ⟨[], [0], []⟩,
    .enumDone ⟨[], [], [37]⟩, .plnActivationDone 0 ⟨[found 14], [], []⟩, .plnActivationDone 1 ⟨[], [], []⟩,
    .handoverDone 1] = true := by decide +kernel

theorem test_wf_pins : refused [.gateFault 6, .diStateChange 16, .doShort 8, .doThermal 8, .doExtDrive 8, .extClear 8] =
    true := by decide +kernel

theorem test_wf_lengths : refused [.regWrite udp 0 (List.replicate 256 0), .ping udp (List.replicate 1025 0),
    .setpoint udp (List.replicate 1025 0), .fwData udp 0 (List.replicate 1021 0), .recipeWrite udp 0 0 (List.replicate 47 0),
    .mboxWrite 0 (List.replicate 256 0) none, .winWriteBlock 0 (List.replicate 256 0) none,
    .twlTransferDone none (List.replicate 33 0)] = true := by decide +kernel

theorem test_wf_can : refused [.setpointCanFrame (List.replicate 9 0), .chillerReply (List.replicate 65 0),
    .rcpCanFrame false (List.replicate 12 0), .canFrameReceive .cana true 0 false true false false (List.replicate 13 0),
    .canFrameReceive .cana false 2048 false false false false [], .canFrameReceive .cana false 1 true true false false [],
    .canFrameReceive .cana false 1 false false true false []] = true := by decide +kernel

/-- The edges of the ranges pass. -/
theorem test_wf_edges : passed [.boardMissing 1, .boardMissing 36, .cellLimit 575 false, .frameReceived [slot 36 16] true 0
    [bypass 1 16], .serviceReqRelease 749999999 ⟨true, 0⟩, .enumDone ⟨List.replicate 36 (found 13), [1], [36]⟩, .gateFault 5,
    .canFrameReceive .canb true 2048 false true true false (List.replicate 64 0),
    .canFrameReceive .canb false 2047 true false false false (List.replicate 8 0),
    .recipeWrite udp 0 0 (List.replicate 48 0), .ringRestore [back 36]] = true := by decide +kernel

/-! ## Single steps

The results are the spec's worked examples and tables. -/

/-- The state after a command. -/
def after (i : Instr) (s : State) : State :=
  match exec i s with
  | .next t => t
  | _ => s

/-- The example under R76: the alias of WADI_LOSS is 0x0102231C, and a read clears that bit alone. -/
theorem test_bit_alias :
    ((after (.bitAliasRead .win 0x0102231C) ((w stStandby []).setWord 0x1118 0xFF)).word 0x1118).toNat = 0x7F := by
  decide +kernel

/-- The example after R96: groups 3 and 11 unmasked make INT_SUMMARY 0x0808. -/
theorem test_interrupt_summary :
    summary ((w stStandby [(F.INT_CAUSE_CAUSE 3, 0x80), (F.INT_CAUSE_CAUSE 11, 1), (F.INT_CAUSE_CAUSE 5, 0xFF)]).setWord 0x115C
      0 |>.setWord 0x111C 0) = 0x0808 := by decide +kernel

/-- The example under R506: a map of network time. -/
theorem test_network_time :
    networkNs (((((w stStandby []).set64 F.PTP_MAP_RBASE_LO_VALUE F.PTP_MAP_RBASE_HI_VALUE 1250000000000).set64
      F.PTP_MAP_NBASE_LO_VALUE F.PTP_MAP_NBASE_HI_VALUE 1767225637250000000)).set F.PTP_MAP_RATE_VALUE (2 ^ 32 - 1100))
      1250750000000 = 1767225640249999996 := by decide +kernel

/-- The known check values of the two CRCs: CRC-32C and the SMBus PEC of the nine digits. -/
theorem test_crc : crc32c [0x31, 0x32, 0x33, 0x34, 0x35, 0x36, 0x37, 0x38, 0x39] = 0xE3069283 := by decide +kernel

/-- R63: a request of ISOLATED from RUN carries out SEI. -/
theorem test_request_isolated : (after (.stateRequest udp 9 0) (w stRun [(konCmd 0, 1), (konHs 0, 1)])).st = stIsolated := by
  decide +kernel

/-- R55: the personality is written once, in COMMISSION. -/
theorem test_personality : (after (.setPersonality udp 2) (w stCommission [])).get F.SYS_MODE_PERSONALITY = 2 ∧
    (after (.setPersonality udp 2) (w stCommission [(F.SYS_MODE_PERSONALITY, 1)])).get F.SYS_MODE_PERSONALITY = 1 := by
  decide +kernel

/-- R478, R479: REG_READ takes a normal slot, STATE_REQUEST a reserved one once the 56 normal slots are taken. -/
theorem test_queue :
    (after (.rcpPacketReceive (.udp 1 2) .eth1 false false (Safety.request2 7 0x0100 0 (u32 0x40 ++ u16 1)))
      (w stStandby [])).get F.CMD_QUEUE_NORMAL_USED = 1 ∧
    (after (.rcpPacketReceive (.udp 1 2) .eth1 false false (Safety.request2 7 0x0010 0 (u8 2 ++ u32 0)))
      { w stStandby [] with cmd := { slots := List.replicate 56 ⟨udp, 0x0100, [], false, 0, false⟩ } }).get
        F.CMD_QUEUE_PRIO_USED = 1 := by decide +kernel

end Sys2Proof.Tests
end

section
/-!
SUPPORT. The state after a power-on reset (R56, R61): what its registers read.
-/

namespace Sys2Proof.Proofs

open Sys2Proof Sys2Proof.Machine

/-- The register file is empty at reset, so each word reads the word of its Reset columns (R11). -/
@[simp] theorem reset_word (a : Nat) : State.reset.word a = resetWord a := rfl

theorem resetWord_sysState : resetWord F.SYS_STATE_STATE.addr = 2 := by decide

theorem resetWord_sysResetCause : resetWord F.SYS_RESET_CAUSE_POR.addr = 1 := by decide

theorem reset_st : State.reset.st = stBoot := by
  simp only [State.st, State.get, reset_word, resetWord_sysState]
  decide

/-- Settles O5: the words are those of the Reset columns because the register file starts empty, and everything beside
the registers starts empty by its own default value. -/
theorem resetValues : Obligations.ResetValues := by
  unfold Obligations.ResetValues
  exact ⟨reset_word, reset_st, (reset_word _).trans resetWord_sysResetCause, rfl, rfl, rfl, rfl, rfl, rfl, rfl⟩

end Sys2Proof.Proofs
end

section
/-!
SUPPORT. Rows that share an envelope: every row of `rcpRow` runs `withCmd`, every row of `writeRow` runs `withWrite`; what
a request or a write that may not run leaves then follows from the envelope alone (R45, R474, R477, R554).
-/

namespace Sys2Proof.Proofs

open Sys2Proof Sys2Proof.Machine

/-- The effect of a row that is a request runs inside `withCmd`, whatever the row. -/
theorem exec_rcpRow {i : Instr} {c : Ctx} {op : Nat} (h : Safety.rcpRow i = some (c, op)) :
    ∃ f : State → State, ∀ s, exec i s = finish (withCmd c op f s) := by
  cases i <;> cases h <;> exact ⟨_, fun _ => rfl⟩

/-- The effect of a row that writes one register runs inside `withWrite`, whatever the row. -/
theorem exec_writeRow {i : Instr} {p : Path} {a : Nat} {v : Word} (h : Safety.writeRow i = some (p, a, v)) :
    ∃ f : State → State × WRes, ∀ s, exec i s = finish (withWrite p a v f s) := by
  cases i <;> cases h <;> exact ⟨_, fun _ => rfl⟩

/-- Settles O6: each row is `withCmd` around its own effect, and the three refusals of `withCmd` do not run the effect. -/
theorem refusedRequestOnlyReplies : Obligations.RefusedRequestOnlyReplies := by
  unfold Obligations.RefusedRequestOnlyReplies
  intro i c op s hrow
  obtain ⟨f, hexec⟩ := exec_rcpRow hrow
  rw [hexec s, finish_next]
  refine ⟨fun hclosed => ?_, fun hopen hsession => ?_, fun hopen hsession st pl hguard => ?_⟩
  · rw [withCmd_closed f hclosed]
  · rw [withCmd_session f hopen hsession, refuseSession]
  · rw [withCmd_refused f hopen hsession hguard]

/-- Settles O7: each row is `withWrite` around its own effect, which a refused write does not run. -/
theorem refusedWriteOnlyNotes : Obligations.RefusedWriteOnlyNotes := by
  unfold Obligations.RefusedWriteOnlyNotes
  intro i p a v s hrow hrefused
  obtain ⟨f, hexec⟩ := exec_writeRow hrow
  rw [hexec s, finish_next, withWrite_refused f hrefused]

end Sys2Proof.Proofs
end

section
/-!
SUPPORT. The instants of ticks (R32, R33): the next instant of a kind is the least multiple of its period that is neither
past nor used.
-/

namespace Sys2Proof.Proofs

open Sys2Proof Sys2Proof.Machine Sys2Proof.Laws

/-- The first multiple that is not past, as `nextTick` forms it: `k` periods reach `now` exactly from this number on. -/
theorem roundedUp_le_iff {period : Nat} (hp : 0 < period) (now k : Nat) :
    (now + period - 1) / period ≤ k ↔ now ≤ period * k := by
  rw [← Nat.ceilDiv_eq_add_pred_div]
  exact ceilDiv_le_iff_le_mul hp

/-- The number of periods at the next tick is at most `k` exactly when `k` periods are neither past nor used. -/
theorem exists_nextTick_eq_mul (last : Option Nat) {period : Nat} (hp : 0 < period) (now : Nat) :
    ∃ n, nextTick last period now = period * n ∧
      ∀ k, n ≤ k ↔ now ≤ period * k ∧ ∀ l ∈ last, l < period * k := by
  have up := roundedUp_le_iff hp now
  have past (l k : Nat) : l / period + 1 ≤ k ↔ l < period * k := by
    rw [Nat.succ_le_iff, Nat.div_lt_iff_lt_mul hp, Nat.mul_comm]
  cases last with
  | none => exact ⟨_, Nat.mul_comm _ _, fun k => by simpa using up k⟩
  | some l =>
    simp only [nextTick, Option.mem_some_iff, forall_eq']
    rw [Nat.mul_comm _ period]
    split
    case isTrue used =>
      refine ⟨_, Nat.mul_comm _ _, fun k => ?_⟩
      rw [past, iff_and_self]
      intro hk
      exact ((up _).1 le_rfl).trans (used.trans hk.le)
    case isFalse unused =>
      refine ⟨_, rfl, fun k => ?_⟩
      rw [up, iff_self_and]
      intro hk
      exact (Nat.lt_of_not_le unused).trans_le (Nat.mul_le_mul_left _ ((up k).2 hk))

/-- Settles O9: the next tick stands at the least number of periods that is neither past nor used. -/
theorem tickInstants : Obligations.TickInstants := by
  unfold Obligations.TickInstants
  intro last period now hp
  obtain ⟨n, ht, hleast⟩ := exists_nextTick_eq_mul last hp now
  obtain ⟨hnow, hlast⟩ := (hleast n).1 le_rfl
  simp only [ht]
  refine ⟨Nat.mul_mod_right _ _, hnow, hlast, fun u hmult hu hlu => ?_⟩
  obtain ⟨k, rfl⟩ := Nat.dvd_of_mod_eq_zero hmult
  exact Nat.mul_le_mul_left _ ((hleast k).2 ⟨hu, hlu⟩)

@[simp] theorem tick_time (s : State) (kind period : Nat) :
    (s.tick kind period).time = nextTick (s.sys.ticks.lookup kind) period s.time := rfl

@[simp] theorem tick_ticks (s : State) (kind period : Nat) :
    (s.tick kind period).sys.ticks = tabSet s.sys.ticks kind (s.tick kind period).time := rfl

/-- Settles O35: the tick's own instant is that of `TickInstants`; the tick table keeps the other kinds, and the second
tick in a row finds the first one used. -/
theorem aTickAdvancesTimeAlone : Obligations.ATickAdvancesTimeAlone := by
  unfold Obligations.ATickAdvancesTimeAlone
  intro s kind period hp
  obtain ⟨hmult, hnow, -, -⟩ := tickInstants (s.sys.ticks.lookup kind) period s.time hp
  have hself : (s.tick kind period).sys.ticks.lookup kind = some (s.tick kind period).time := by
    rw [tick_ticks, lookup_tabSet_self]
  refine ⟨hnow, hmult, hself, fun k hk => ?_, rfl, rfl, rfl, rfl, rfl, rfl, ?_⟩
  · rw [tick_ticks, lookup_tabSet_ne _ _ _ _ hk]
  · obtain ⟨-, -, hused, -⟩ :=
      tickInstants ((s.tick kind period).sys.ticks.lookup kind) period (s.tick kind period).time hp
    exact hused _ hself

end Sys2Proof.Proofs
end

section
/-!
SUPPORT. The commands of ticks, of the supervisor and of the clocks: under the conditions of a clause the meaning's own
tests are decided, and what remains is the work that the clause names.
-/

namespace Sys2Proof.Proofs

open Sys2Proof Sys2Proof.Machine

/-- No awake state is BOOT (R44). -/
theorem st_ne_boot_of_awake {s : State} (h : s.awake = true) : s.st ≠ stBoot := by
  intro hboot
  rw [State.awake, hboot] at h
  exact absurd h (by decide)

/-- Outside a hand-over, a lost supervisor of an awake state enters direct mode with its own cause (R24). -/
theorem supLost_no_handover {s : State} (cause : Nat) (ha : s.awake = true) (hd : s.direct = false)
    (hh : s.fwu.ho = none) : supLost cause s = enterDirect cause s := by
  simp [supLost, ha, hd, hh]

/-- A lost supervisor ends a hand-over that runs with result 7 and enters direct mode with cause 4 (R24, R600). -/
theorem supLost_handover {s : State} {h : Handover} (cause : Nat) (ha : s.awake = true) (hd : s.direct = false)
    (hh : s.fwu.ho = some h) : supLost cause s = enterDirect 4
      (({ s with fwu := { s.fwu with ho := none } }.set F.FWU_LAST_HO_RES 7).set F.FWU_STATUS_HO_STATE 0) := by
  simp [supLost, ha, hd, hh]

/-- After BOOT an exception is a loss of the supervisor (R24, R53). -/
theorem exec_supervisorException_awake {s : State} (b : BootPins) (ha : s.awake = true) :
    exec (.supervisorException b) s = .next (settle (supLost 3 s)) :=
  congrArg finish (if_neg (st_ne_boot_of_awake ha))

/-- A failing supervisor of BOOT fails the boot (R53). -/
theorem exec_supervisorException_boot {s : State} (b : BootPins) (hb : s.st = stBoot) (hr : s.sys.supRuns = true) :
    exec (.supervisorException b) s = .next (settle (bootFail (bootStep s) b s)) :=
  congrArg finish ((if_pos hb).trans (if_pos ⟨hb, hr⟩))

/-- A clock that returns while the interfaces are off changes the module's own note of the loss alone (R31). -/
theorem exec_clockRestore_unpowered {s : State} {i : Island}
    (hl : s.sys.clkLost &&& 2 ^ islandBit i = 2 ^ islandBit i) (hp : hostPowered s = false) :
    exec (.clockRestore i) s = .next (settle
      { s with sys := { s.sys with clkLost := s.sys.clkLost &&& (0xFFF ^^^ 2 ^ islandBit i) } }) :=
  congrArg finish ((if_pos hl).trans (if_neg (Bool.not_eq_true _ ▸ hp)))

/-- What an island does once its clock runs again (R31): the links of the Caravan ports, the heartbeats of SP and the
ZSL. -/
def islandBack (i : Island) (s : State) : State :=
  match i with
  | .cva => portLink 0 true s
  | .cvb => portLink 1 true s
  | .safe => { s with safe := { s.safe with spBeat := true } }
  | .logic => { s with safe := { s.safe with zslBeat := true } }
  | .ref | .core | .dsp | .ctl | .pwm | .eth | .time | .aon => s

/-- A clock that returns while the interfaces are powered runs again; the work of its island follows (R31). -/
theorem exec_clockRestore_powered {s : State} {i : Island}
    (hl : s.sys.clkLost &&& 2 ^ islandBit i = 2 ^ islandBit i) (hp : hostPowered s = true) :
    exec (.clockRestore i) s = .next (settle (islandBack i
      ({ s with sys := { s.sys with clkLost := s.sys.clkLost &&& (0xFFF ^^^ 2 ^ islandBit i) } }.set
        F.SYS_CLK_STATUS_RUNNING (s.get F.SYS_CLK_STATUS_RUNNING ||| 2 ^ islandBit i)))) := by
  cases i <;> exact congrArg finish ((if_pos hl).trans (if_pos hp))

/-- Settles O23: in each clause the conditions decide the tests of the meaning, and its reaction is left. -/
theorem supervisorAndClockCommandsComplete : Obligations.SupervisorAndClockCommandsComplete := by
  unfold Obligations.SupervisorAndClockCommandsComplete
  intro i b h s
  refine ⟨fun ha hd => ⟨fun hh => ?alone, fun hh => ?handover⟩, exec_supervisorException_boot b, fun hp => ?clock,
    fun hp hpow => ?wakeTimer, fun he => ?heartbeat, fun hl => ⟨exec_clockRestore_unpowered hl, fun hp => ?restore⟩⟩
  case alone =>
    rw [exec_supervisorException_awake b ha, supLost_no_handover 3 ha hd hh]
    exact ⟨congrArg finish (supLost_no_handover 2 ha hd hh), rfl⟩
  case handover =>
    rw [exec_supervisorException_awake b ha, supLost_handover 3 ha hd hh]
    exact ⟨congrArg finish (supLost_handover 2 ha hd hh), rfl⟩
  case clock => exact ⟨congrArg finish (if_pos hp), congrArg finish (if_pos hp)⟩
  case wakeTimer => exact congrArg finish ((if_neg (by rw [hp]; decide)).trans (if_pos ⟨rfl, hpow⟩))
  case heartbeat => exact ⟨congrArg finish (if_pos he), congrArg finish (if_pos he)⟩
  case restore =>
    rw [exec_clockRestore_powered hl hp]
    refine ⟨fun hother => ?_, ?_, ?_, ?_, ?_⟩
    · cases i
      case cva | cvb | safe | logic => simp at hother
      all_goals rfl
    all_goals
      rintro rfl
      rfl

/-- Settles O34: with the unit up, the tests of a tick's meaning are decided, and its work at the next instant is left. -/
theorem tickCommandsComplete : Obligations.TickCommandsComplete := by
  unfold Obligations.TickCommandsComplete
  intro iS vS vB iP iA g la ampl slots errors reps lastA pst die s
  refine ⟨fun he => ⟨?control, ?outer, ?pwm, ?protection, fun ha hs => ?thermal⟩,
    fun hr => ⟨fun h2 => ?frame, fun h1 => ?scan⟩, fun hl => ?estimation, fun hp => ?management⟩
  case control | outer | pwm | protection => exact congrArg finish (if_pos he)
  case thermal => exact congrArg finish (if_pos (by rw [ha, he, hs]; rfl))
  case frame => exact congrArg finish (if_pos (by rw [hr, h2]; rfl))
  case scan => exact congrArg finish (if_pos (by rw [hr, h1]; rfl))
  case estimation => exact congrArg finish (if_pos hl)
  case management => exact congrArg finish (if_pos hp)

end Sys2Proof.Proofs
end

section
/-!
SUPPORT. The register words that a change of state and the levels at the end of a command leave unchanged (R49, R306).
-/

namespace Sys2Proof.Proofs

open Sys2Proof Sys2Proof.Machine Sys2Proof.Laws

theorem SameOutside_mono {l m : List Nat} {s t : State} (h : SameOutside l s t) (hlm : l ⊆ m) : SameOutside m s t :=
  fun a ha => h a (fun hl => ha (hlm hl))

/-- States with the same register file have the same word everywhere. -/
theorem word_of_regs {s t : State} (h : t.regs = s.regs) (a : Nat) : t.word a = s.word a := by
  unfold State.word; rw [h]

/-! ## A change of state -/

theorem SameWords_replyForbids (c : Ctx) (op : Nat) (s : State) : SameWords s (replyForbids c op s) :=
  SameWords_respond _ _ _ _ _ _

/-- A pending close that is abandoned changes CTL_STATUS and what its replies change (R310). -/
theorem SameOutside_abandonClose (s : State) : SameOutside loopBlocks s (abandonClose s) := by
  unfold abandonClose
  split
  · refine SameOutside_trans ?_ (SameOutside_loop (SameWords_foldl _ _ (fun _ _ _ => SameWords_replyForbids _ _ _) _))
    exact SameOutside_trans (SameOutside_with_ctl _ (SameOutside_refl _ s)) (SameOutside_setB _ _ _ _ (by decide))
  · exact SameOutside_refl _ s

/-- The end of RUN stops the dispatch and what runs under it. -/
theorem SameWords_leaveRun (old : Nat) (s : State) :
    SameWords s (if old = stRun then dispatchOff (recipeEnd 5 (eisAbandon 0x5 s)) else s) := by
  split
  · exact SameWords_trans (SameWords_trans (SameWords_eisAbandon _ _) (SameWords_recipeEnd _ _)) (SameWords_dispatchOff _)
  · exact SameWords_refl s

/-- Beside the two state codes, a change of state changes words of the loop's blocks alone (R49). -/
theorem SameOutside_changeState {s : State} {new : Nat} (trigger detail : Nat) (o : Origin) (h : s.st ≠ new) :
    SameOutside loopBlocks ((s.set F.SYS_STATE_PREV_STATE s.st).set F.SYS_STATE_STATE new)
      (changeState new trigger detail o s) := by
  unfold changeState
  dsimp only
  rw [if_neg h]
  refine SameOutside_trans ?_ (SameOutside_loop (SameWords_leaveRun _ _))
  have sev : (if new = stSafeStop ∨ new = stIsolated then sevSafety else sevNotice) < 6 := by split <;> decide
  have noted (p : List Byte) (t : State) := SameOutside_loop (SameWords_causeRec C.STATE_CHANGE _ p t (by decide) sev)
  split
  · exact noted _ _
  · exact SameOutside_trans (noted _ _) (SameOutside_trans (SameOutside_abandonClose _) (SameOutside_loopOpen _ _))

/-- After a change of state the device is in the new state (R49). -/
theorem st_changeState {s : State} {new : Nat} (trigger detail : Nat) (o : Origin) (h : s.st ≠ new) (hn : new < 16) :
    (changeState new trigger detail o s).st = new := by
  unfold State.st
  rw [get_congr (SameOutside_changeState trigger detail o h _ (by decide)), get_set_same _ _ _ (by decide)]
  exact Nat.mod_eq_of_lt hn

/-- A change of state leaves every word outside the loop's blocks but SYS_STATE as it was. -/
theorem word_changeState {s : State} {new : Nat} (trigger detail : Nat) (o : Origin) (h : s.st ≠ new) {a : Nat}
    (ha : a / 0x1000 ∉ loopBlocks) (hs : a ≠ F.SYS_STATE_STATE.addr) :
    (changeState new trigger detail o s).word a = s.word a := by
  rw [SameOutside_changeState trigger detail o h a ha, word_set_other _ F.SYS_STATE_STATE _ _ hs,
    word_set_other _ F.SYS_STATE_PREV_STATE _ _ hs]

/-- The loop does not outlive RUN and SAFE_STOP (R306). -/
theorem closed_changeState {s : State} {new : Nat} (trigger detail : Nat) (o : Origin) (h : s.st ≠ new)
    (hr : new ≠ stRun) (hs : new ≠ stSafeStop) :
    (changeState new trigger detail o s).flag F.CTL_STATUS_CLOSED = false := by
  unfold changeState
  dsimp only
  rw [if_neg h, if_neg (not_or.2 ⟨hr, hs⟩)]
  rw [flag_congr (f := F.CTL_STATUS_CLOSED) (SameWords_leaveRun _ _ _ (by decide))]
  exact closed_loopOpen _ _

/-! ## The levels at the end of a command -/

/-- The words that hold derived levels and counts. -/
def levelWords : List Nat := [0x1000, 0x2000, 0x20050, 0x30080, 0x31004, 0x50000, 0x5000C, 0x52000]

section
variable {a : Nat} (ha : a ∉ levelWords)
include ha

theorem word_set_level (s : State) (f : Fld) (v : Nat) (hf : f.addr ∈ levelWords) : (s.set f v).word a = s.word a :=
  word_set_other _ _ _ _ (fun e => ha (e ▸ hf))

theorem word_setB_level (s : State) (f : Fld) (b : Bool) (hf : f.addr ∈ levelWords) : (s.setB f b).word a = s.word a :=
  word_set_level ha s f _ hf

theorem word_settleInt (s : State) : (settleInt s).word a = s.word a :=
  word_set_level ha s F.INT_SUMMARY_GROUP _ (by decide)

theorem word_settleCounts (s : State) : (settleCounts s).word a = s.word a := by
  unfold settleCounts
  simp (disch := decide) only [word_set_level ha]

end

/-- A low side that turns off changes KON_STATUS alone (R411). -/
theorem word_settleLow (c : Nat) (s : State) {a : Nat} (ha : a ≠ (konLs c).addr) :
    (settleLow c s).word a = s.word a := by
  unfold settleLow
  dsimp only
  split
  · rw [State.setB, word_set_other _ _ _ _ ha]
    split
    · exact word_of_regs (deEnergise_keeps c s).1 a
    · rfl
  · rfl

theorem loopOpen_of_open {s : State} (n : Nat) (h : s.flag F.CTL_STATUS_CLOSED = false) : loopOpen n s = s := by
  rw [loopOpen, if_neg (by rw [h]; decide)]

/-- With the loop open, the ZSL's and SP's outputs change words of levels alone. -/
theorem word_settleSafe_open {s : State} (h : s.flag F.CTL_STATUS_CLOSED = false) {a : Nat} (ha : a ∉ levelWords) :
    (settleSafe s).word a = s.word a := by
  have low (c : Nat) (s : State) {a : Nat} (ha : a ≠ 0x31004) : (settleLow c s).word a = s.word a :=
    word_settleLow c s ha
  have demand (i : Nat) (b : Bool) (s : State) {a : Nat} (ha : a ≠ 0x30080) :
      (s.setB (siDemandFld i) b).word a = s.word a := word_set_other _ _ _ _ ha
  have hlow : a ≠ 0x31004 := fun e => ha (e ▸ by decide)
  have hsafe : a ≠ 0x30080 := fun e => ha (e ▸ by decide)
  unfold settleSafe
  dsimp only
  rw [word_setB_level ha _ _ _ (by decide), word_setB_level ha _ _ _ (by decide), word_setB_level ha _ _ _ (by decide),
    word_setB_level ha _ _ _ (by decide), loopOpen_of_open, ite_self, low _ _ hlow, low _ _ hlow, low _ _ hlow,
    demand _ _ _ hsafe, demand _ _ _ hsafe]
  rw [← h]
  apply flag_congr
  rw [low _ _ (by decide), low _ _ (by decide), low _ _ (by decide), demand _ _ _ (by decide), demand _ _ _ (by decide)]

/-- With the loop open, the end of a command changes words of levels and counts alone. -/
theorem word_settle_open {s : State} (h : s.flag F.CTL_STATUS_CLOSED = false) {a : Nat} (ha : a ∉ levelWords) :
    (settle s).word a = s.word a := by
  rw [settle, word_settleInt ha, word_settleCounts ha, word_settleSafe_open h ha]

end Sys2Proof.Proofs
end

section
/-!
SUPPORT. BOOT_DONE step by step (R52): what each step leaves of the words that say where BOOT ends.
-/

namespace Sys2Proof.Proofs

open Sys2Proof Sys2Proof.Machine Sys2Proof.Laws

/-! ## The restored estimates and the auxiliary contacts -/

/-- The blocks that steps 6 and 8 of a start-up may change: EST and KON beside those of causes and records. -/
def prepBlocks : List Nat := 0x13 :: 0x31 :: auxBlocks

theorem SameOutside_prep {s t : State} (h : SameWords s t) : SameOutside prepBlocks s t :=
  SameOutside_mono h (by decide)

theorem SameWords_restoreSlot (unc : Bool) (x : PSlot) (mine : Nat → Bool) (s : State) :
    SameWords s (restoreSlot unc x mine s) := by
  have pos (dq : Rat) (secs : Nat) (t : State) (e : Nat × EstPos) : (restorePos dq unc secs t e).regs = t.regs := rfl
  exact SameWords_of_regs (foldl_keeps State.regs _ (pos _ _) _ _)

theorem SameOutside_slotStatus (s : State) : SameOutside prepBlocks s (slotStatus s) := by
  have valid : SameOutside prepBlocks s ((s.setB F.EST_STATUS_SLOT_A_VALID (slotValid' s s.est.slotA)).setB
      F.EST_STATUS_SLOT_B_VALID (slotValid' s s.est.slotB)) :=
    SameOutside_trans (SameOutside_setB _ _ _ _ (by decide)) (SameOutside_setB _ _ _ _ (by decide))
  unfold slotStatus
  dsimp only
  split
  · refine SameOutside_trans valid ?_
    exact SameOutside_trans (SameOutside_setB _ _ _ _ (by decide)) (SameOutside_set _ _ _ _ (by decide))
  · exact valid

theorem SameOutside_estStatus (s : State) : SameOutside prepBlocks s (estStatus s) :=
  SameOutside_trans (SameOutside_trans (SameOutside_setB _ _ _ _ (by decide)) (SameOutside_setB _ _ _ _ (by decide)))
    (SameOutside_setB _ _ _ _ (by decide))

/-- Restoring the learned values changes EST_STATUS, EST_SLOT_SEQ and its cause and record (R246). -/
theorem SameOutside_estRestore (unc : Bool) (s : State) : SameOutside prepBlocks s (estRestore unc s) := by
  have status (t : State) : SameOutside prepBlocks t (slotStatus (estStatus t)) :=
    SameOutside_trans (SameOutside_estStatus t) (SameOutside_slotStatus _)
  unfold estRestore
  dsimp only
  generalize hu : slotStatus (estStatus _) = u
  have start : SameOutside prepBlocks s u := by rw [← hu]; exact status _
  refine SameOutside_trans start (SameOutside_prep ?_)
  split
  next x _ =>
    refine SameWords_trans (SameWords_restoreSlot unc x (fun _ => true) u) ?_
    split
    · exact SameWords_refl _
    · split
      · exact SameWords_causeRec _ _ _ _ (by decide) (by decide)
      · exact SameWords_raise _ _ (by decide)
  next =>
    split
    · exact SameWords_causeRec _ _ _ _ (by decide) (by decide)
    · exact SameWords_addRec _ _ _ _ _ (by decide)

theorem SameOutside_restoreDue (s : State) : SameOutside prepBlocks s (restoreDue s) := by
  unfold restoreDue
  split
  · exact SameOutside_trans (SameOutside_prep (SameWords_of_regs rfl)) (SameOutside_estRestore _ _)
  · exact SameOutside_refl _ s

/-- A bit of KON_STATUS. -/
theorem SameOutside_setB_kon (c k : Nat) (b : Bool) (s : State) : SameOutside prepBlocks s (s.setB (kon c k) b) :=
  SameOutside_setB _ _ _ _ (show 0x31004 / 0x1000 ∈ prepBlocks by decide)

theorem SameOutside_weldSet (c : Nat) (s : State) : SameOutside prepBlocks s (weldSet c s) :=
  SameOutside_trans (SameOutside_setB_kon c 4 true s)
    (SameOutside_prep (SameWords_causeRec _ _ _ _ (by decide) (by decide)))

/-- An auxiliary contact shows in KON_STATUS; a suspected weld adds its cause and record (R409, R416). -/
theorem SameOutside_auxCheck (c : Nat) (closed : Bool) (s : State) : SameOutside prepBlocks s (auxCheck c closed s) := by
  unfold auxCheck
  dsimp only
  split
  · exact SameOutside_trans (SameOutside_setB_kon c 3 _ s) (SameOutside_weldSet c _)
  · exact SameOutside_setB_kon c 3 _ s

/-- Steps 6 and 8: the learned values are restored, and the auxiliary contacts are read. -/
def bootChecks (r : BootResult) (s : State) : State :=
  [0, 1, 2].foldl (fun s c => auxCheck c (getAt r.auxClosed c false) s)
    (restoreDue (s.at (s.sys.bootZero + r.milliseconds * ms)))

theorem SameOutside_bootChecks (r : BootResult) (s : State) : SameOutside prepBlocks s (bootChecks r s) := by
  have due : SameOutside prepBlocks s (restoreDue (s.at (s.sys.bootZero + r.milliseconds * ms))) :=
    SameOutside_restoreDue (s.at _)
  exact SameOutside_trans due (SameOutside_foldl _ _ _ (fun t c _ => SameOutside_auxCheck c _ t) _)

/-! ## Step 9 -/

/-- SYS_MODE and SYS_BOOT at step 9: direct mode is left, the failures are 0, the boot time stands there (R28, R62). -/
def bootShown (s : State) : State :=
  let t := (s.setB F.SYS_MODE_DIRECT false).set F.SYS_BOOT_FAIL_COUNT 0
  t.set F.SYS_BOOT_BOOT_TIME (min 0xFFFF ((t.time - t.sys.bootZero) / ms))

/-- Is an isolation latch set on either side (R50)? -/
def anyLatch (s : State) : Bool := s.flag F.SAFE_STATUS_SP_LATCH || s.flag F.SAFE_STATUS_ZSL_LATCH

/-- The latches on both sides, and the demand of an OASIS wake reported (R50, R131). -/
def bootLatched (s : State) : State := reportOasis (if anyLatch s then setLatches s else s)

/-- The state in which BOOT ends (R46, R52). -/
def bootTarget (iso : Bool) (s : State) : Nat :=
  if iso then stIsolated else if s.get F.SYS_MODE_PERSONALITY = 0 then stCommission else stStandby

/-- The end of step 9: BOOT_DONE, the bank that runs, and what starts with the new state. -/
def bootClosed (new : Nat) (s : State) : State :=
  let s := raise C.BOOT_DONE s
  let confirm := if s.flag F.FWU_STATUS_UNCONFIRMED ∧ s.fwu.confirmAt = none then some (s.time + 600 * sec)
    else s.fwu.confirmAt
  let s := s.set F.SYS_BOOT_BANK (s.get F.FWU_BANKS_ACT_SUP)
  { s with
    dio := { s.dio with warm := false }
    fwu := { s.fwu with confirmAt := confirm }
    est := { s.est with commCheck := s.est.commCheck || new == stCommission }
    sys := { s.sys with lastAdmit := s.time } }

/-- BOOT_DONE is these steps in a row, with one change of state among them. -/
theorem bootDone_eq (r : BootResult) (s : State) :
    let q := bootShown (bootChecks r s)
    let new := bootTarget (anyLatch q) (bootLatched q)
    bootDone r s = bootClosed new (changeState new 0x08 0 inside (bootLatched q)) := rfl

theorem bootTarget_cases (iso : Bool) (s : State) :
    bootTarget iso s = stIsolated ∨ bootTarget iso s = stCommission ∨ bootTarget iso s = stStandby := by
  unfold bootTarget
  split
  · exact .inl rfl
  · split
    · exact .inr (.inl rfl)
    · exact .inr (.inr rfl)

/-- The state in which BOOT ends is none of those that the loop may outlive, nor BOOT itself. -/
theorem bootTarget_ne (iso : Bool) (s : State) : stBoot ≠ bootTarget iso s ∧ bootTarget iso s ≠ stRun ∧
    bootTarget iso s ≠ stSafeStop ∧ bootTarget iso s < 16 := by
  obtain h | h | h := bootTarget_cases iso s <;> rw [h] <;> decide

theorem SameOutside_reportOasis (s : State) : SameOutside (0x30 :: auxBlocks) s (reportOasis s) := by
  have wide {s t : State} (h : SameWords s t) : SameOutside (0x30 :: auxBlocks) s t := SameOutside_mono h (by decide)
  unfold reportOasis
  split
  · refine SameOutside_trans (wide (SameWords_of_regs rfl)) ?_
    unfold demandReport seiReport
    refine SameOutside_trans (SameOutside_trans ?_ (SameOutside_set _ _ F.SAFE_SEI_CNT_VALUE _ (by decide)))
      (wide (SameWords_causeRec _ _ _ _ (by decide) (by decide)))
    split
    · exact wide (SameWords_causeRec _ _ _ _ (by decide) (by decide))
    · exact SameOutside_refl _ _
  · exact SameOutside_refl _ s

/-- A field outside SAFE reads the same once the latches are read, ISO_LATCH excepted. -/
theorem get_bootLatched (s : State) (f : Fld) (hf : f.addr / 0x1000 ∉ 0x30 :: auxBlocks)
    (hl : apart F.SYS_STATE_ISO_LATCH f = true) : (bootLatched s).get f = s.get f := by
  have hsafe : f.addr ≠ 0x30080 := fun e => hf (by rw [e]; decide)
  unfold bootLatched
  rw [get_congr (SameOutside_reportOasis _ _ hf)]
  split
  · unfold setLatches
    rw [State.setB, get_set_apart _ _ _ _ hl]
    exact get_congr ((word_set_other _ _ _ _ hsafe).trans (word_set_other _ _ _ _ hsafe))
  · rfl

/-- A cause that is raised stands latched (R90). -/
theorem bitOf_raise (c : Cause) (s : State) (hb : c.b < 8) :
    bitOf ((raise c s).word (F.INT_CAUSE_CAUSE c.g).addr) c.b = true := by
  have hword : (raise c s).word (F.INT_CAUSE_CAUSE c.g).addr = withField (s.word (F.INT_CAUSE_CAUSE c.g).addr) 0 8
      (s.get (F.INT_CAUSE_CAUSE c.g) ||| 2 ^ c.b) := (word_setWord s _ _ _).trans (if_pos rfl)
  rw [hword, bitOf, getLsbD_withField _ _ _ _ _ (by omega), if_pos (by omega), Nat.sub_zero, Nat.testBit_or,
    Nat.testBit_two_pow_self, Bool.or_true]

theorem regs_bootClosed (new : Nat) (s : State) : (bootClosed new s).regs =
    ((raise C.BOOT_DONE s).set F.SYS_BOOT_BANK ((raise C.BOOT_DONE s).get F.FWU_BANKS_ACT_SUP)).regs := rfl

/-- What step 9 writes after the change of state: BANK, and the latch of BOOT_DONE. -/
theorem get_bootClosed (new : Nat) (s : State) {f : Fld} (hb : apart F.SYS_BOOT_BANK f = true)
    (hf : f.addr / 0x1000 ∉ auxBlocks) : (bootClosed new s).get f = s.get f := by
  have hset : (bootClosed new s).get f =
      ((raise C.BOOT_DONE s).set F.SYS_BOOT_BANK ((raise C.BOOT_DONE s).get F.FWU_BANKS_ACT_SUP)).get f := by
    rw [State.get, word_of_regs (regs_bootClosed new s)]
    rfl
  rw [hset, get_set_apart _ _ _ _ hb]
  exact get_congr (SameWords_raise _ s (by decide) _ hf)

theorem bitOf_bootClosed (new : Nat) (s : State) :
    bitOf ((bootClosed new s).word (F.INT_CAUSE_CAUSE C.BOOT_DONE.g).addr) C.BOOT_DONE.b = true := by
  rw [word_of_regs (regs_bootClosed new s), word_set_other _ _ _ _ (by decide)]
  exact bitOf_raise C.BOOT_DONE s (by decide)

theorem closed_bootClosed {s : State} (new : Nat) (h : s.flag F.CTL_STATUS_CLOSED = false) :
    (bootClosed new s).flag F.CTL_STATUS_CLOSED = false := by
  rw [State.flag, get_bootClosed new s (by decide) (by decide)]
  exact h

/-- No word of SYS holds a level. -/
theorem not_mem_levelWords_of_sys {a : Nat} (h : a / 0x1000 = 0) : a ∉ levelWords := by
  intro hm
  simp only [levelWords, List.mem_cons, List.not_mem_nil, or_false] at hm
  omega

/-- Once BOOT has ended with the loop open, the fields of SYS beside BANK stand as the change of state left them. -/
theorem get_settle_bootClosed {s : State} (new : Nat) (h : s.flag F.CTL_STATUS_CLOSED = false) {f : Fld}
    (hf : f.addr / 0x1000 = 0) (hb : apart F.SYS_BOOT_BANK f = true) :
    (settle (bootClosed new s)).get f = s.get f := by
  rw [get_congr (word_settle_open (closed_bootClosed new h) (not_mem_levelWords_of_sys hf)),
    get_bootClosed new s hb (by rw [hf]; decide)]

/-- A field of SYS_STATE or SAFE_STATUS, or PERSONALITY, reads at step 9 as it did when BOOT_DONE came. -/
theorem get_bootShown_bootChecks (r : BootResult) (s : State) {f : Fld} (hf : f.addr / 0x1000 ∉ prepBlocks)
    (hd : apart F.SYS_MODE_DIRECT f = true) (hc : apart F.SYS_BOOT_FAIL_COUNT f = true)
    (ht : apart F.SYS_BOOT_BOOT_TIME f = true) : (bootShown (bootChecks r s)).get f = s.get f := by
  unfold bootShown
  dsimp only
  rw [get_set_apart _ _ _ _ ht, get_set_apart _ _ _ _ hc, State.setB, get_set_apart _ _ _ _ hd]
  exact get_congr (SameOutside_bootChecks r s _ hf)

theorem anyLatch_bootShown_bootChecks (r : BootResult) (s : State) :
    anyLatch (bootShown (bootChecks r s)) = anyLatch s := by
  unfold anyLatch State.flag
  rw [get_bootShown_bootChecks r s (by decide) (by decide) (by decide) (by decide),
    get_bootShown_bootChecks r s (by decide) (by decide) (by decide) (by decide)]

theorem direct_bootShown (s : State) : (bootShown s).direct = false := by
  unfold bootShown State.direct
  dsimp only
  rw [flag_set_apart _ _ _ _ (by decide), flag_set_apart _ _ _ _ (by decide)]
  exact flag_setB_same _ _ _ (by decide) (by decide)

theorem failCount_bootShown (s : State) : (bootShown s).get F.SYS_BOOT_FAIL_COUNT = 0 := by
  unfold bootShown
  dsimp only
  rw [get_set_apart _ _ _ _ (by decide)]
  exact get_set_same _ _ _ (by decide)

/-- Whatever precedes the change of state that ends BOOT: its target stands afterwards, and SYS_MODE and the boot failures
stand as they did, for the loop is open and nothing opens at the end of the command. -/
theorem end_of_boot {s : State} {new : Nat} (hst : s.st = stBoot)
    (hnew : stBoot ≠ new ∧ new ≠ stRun ∧ new ≠ stSafeStop ∧ new < 16) :
    let t := settle (bootClosed new (changeState new 0x08 0 inside s))
    t.st = new ∧ t.direct = s.direct ∧ t.get F.SYS_BOOT_FAIL_COUNT = s.get F.SYS_BOOT_FAIL_COUNT ∧
      bitOf (t.word (F.INT_CAUSE_CAUSE C.BOOT_DONE.g).addr) C.BOOT_DONE.b = true := by
  obtain ⟨hboot, hrun, hstop, hlt⟩ := hnew
  have hne : s.st ≠ new := hst ▸ hboot
  have hopen := closed_changeState 0x08 0 inside hne hrun hstop
  have kept {f : Fld} (hf : f.addr / 0x1000 = 0) (hs : f.addr ≠ F.SYS_STATE_STATE.addr)
      (hb : apart F.SYS_BOOT_BANK f = true) :
      (settle (bootClosed new (changeState new 0x08 0 inside s))).get f = s.get f := by
    rw [get_settle_bootClosed new hopen hf hb,
      get_congr (word_changeState 0x08 0 inside hne (by rw [hf]; decide) hs)]
  refine ⟨?_, ?_, kept (by decide) (by decide) (by decide), ?_⟩
  · exact (get_settle_bootClosed new hopen (by decide) (by decide)).trans (st_changeState 0x08 0 inside hne hlt)
  · rw [State.direct, State.flag, kept (by decide) (by decide) (by decide)]
    rfl
  · rw [word_settle_open (closed_bootClosed new hopen) (by decide)]
    exact bitOf_bootClosed new _

/-- Settles O20: the steps before the change of state keep the latches, the personality and the state, and leave direct
mode; what follows is `end_of_boot` for the target of these latches and this personality. -/
theorem bootEndsInItsState : Obligations.BootEndsInItsState := by
  unfold Obligations.BootEndsInItsState
  intro r s hst hsup hbusy hgen
  refine ⟨settle (bootDone r s), congrArg finish (if_pos (by simp [hst, hsup, hbusy, hgen])), ?_⟩
  rw [bootDone_eq, anyLatch_bootShown_bootChecks]
  have checked {f : Fld} := @get_bootShown_bootChecks r s f
  generalize hq : bootShown (bootChecks r s) = q at checked ⊢
  have latched {f : Fld} := @get_bootLatched q f
  have hboot : (bootLatched q).st = stBoot :=
    (latched (by decide) (by decide)).trans ((checked (by decide) (by decide) (by decide) (by decide)).trans hst)
  have hpers : (bootLatched q).get F.SYS_MODE_PERSONALITY = s.get F.SYS_MODE_PERSONALITY :=
    (latched (by decide) (by decide)).trans (checked (by decide) (by decide) (by decide) (by decide))
  have hdirect : (bootLatched q).direct = false := by
    rw [State.direct, State.flag, latched (by decide) (by decide), ← hq]
    exact direct_bootShown _
  have hfail : (bootLatched q).get F.SYS_BOOT_FAIL_COUNT = 0 :=
    (latched (by decide) (by decide)).trans (hq ▸ failCount_bootShown _)
  obtain ⟨htarget, hmode, hcount, hcause⟩ := end_of_boot hboot (bootTarget_ne (anyLatch s) (bootLatched q))
  refine ⟨hmode.trans hdirect, hcount.trans hfail, ?_, fun hlatch => ?_, fun hsp hzsl _ _ => ?_, hcause⟩
  · rw [htarget]
    exact bootTarget_cases _ _
  · have hiso : anyLatch s = true := Bool.or_eq_true_iff.2 hlatch
    rw [htarget, bootTarget, if_pos hiso]
  · have hiso : anyLatch s = false := Bool.or_eq_false_iff.2 ⟨hsp, hzsl⟩
    rw [htarget, bootTarget, hiso, hpers, if_neg Bool.false_ne_true]

end Sys2Proof.Proofs
end

section
/-!
SUPPORT. The restart after isolation (R46, R418): what its evaluation clears, and that the end of a command leaves alone
what its levels are computed from.
-/

namespace Sys2Proof.Proofs

open Sys2Proof Sys2Proof.Machine Sys2Proof.Laws

/-! ## The levels at the end of a command -/

theorem same_set (s : State) (f : Fld) (v : Nat) (h : inputs.all (fun g => apart f g) = true)
    (ha : F.SAFE_CFG_SI0_MODE.addr ≠ f.addr) : Same s (s.set f v) :=
  ⟨fun g hg => get_set_apart _ _ _ _ (List.all_eq_true.1 h g hg), rfl, rfl, word_set_other _ _ _ _ ha⟩

theorem same_settleSafe (s : State) : Same s (settleSafe s) := by
  unfold settleSafe
  dsimp only
  generalize hlow : settleLow 2 (settleLow 1 (settleLow 0 _)) = low
  have demands (a b : Bool) : Same s ((s.setB (siDemandFld 0) a).setB (siDemandFld 1) b) :=
    (same_setB s _ a (by decide) (by decide)).trans (same_setB _ _ b (by decide) (by decide))
  have lows : Same s low := by
    rw [← hlow]
    exact (((demands _ _).trans (same_settleLow 0 (by decide) _)).trans (same_settleLow 1 (by decide) _)).trans
      (same_settleLow 2 (by decide) _)
  have loop : Same s (if pwmRequest low && matrixClear low then low else loopOpen 0x01 low) := by
    split
    · exact lows
    · exact lows.trans (same_loopOpen _ _)
  refine Same.trans ?_ (same_setB _ _ _ (by decide) (by decide))
  refine Same.trans ?_ (same_setB _ _ _ (by decide) (by decide))
  refine Same.trans ?_ (same_setB _ _ _ (by decide) (by decide))
  exact loop.trans (same_setB _ _ _ (by decide) (by decide))

theorem same_settleCounts (s : State) : Same s (settleCounts s) := by
  unfold settleCounts
  dsimp only
  refine Same.trans ?_ (same_set _ _ _ (by decide) (by decide))
  refine Same.trans ?_ (same_set _ _ _ (by decide) (by decide))
  refine Same.trans ?_ (same_set _ _ _ (by decide) (by decide))
  refine Same.trans ?_ (same_set _ _ _ (by decide) (by decide))
  refine Same.trans ?_ (same_set _ _ _ (by decide) (by decide))
  exact Same.trans (same_set _ _ _ (by decide) (by decide)) (same_set _ _ _ (by decide) (by decide))

theorem same_settleInt (s : State) : Same s (settleInt s) :=
  same_set s F.INT_SUMMARY_GROUP (summary s) (by decide) (by decide)

/-- The end of a command leaves what its levels are computed from as it was (R394, R396, R411). -/
theorem same_settle (s : State) : Same s (settle s) :=
  ((same_settleSafe s).trans (same_settleCounts _)).trans (same_settleInt _)

theorem st_settle (s : State) : (settle s).st = s.st := (same_settle s).1 F.SYS_STATE_STATE (by decide)

theorem latched_settle (s : State) : latched (settle s) = latched s := by
  simp (disch := decide) only [latched, (same_settle s).flag]

/-! ## The restart after isolation -/

/-- Step 3 of R418: every latch of the isolation is cleared. -/
def clearLatches (s : State) : State :=
  let s := ((s.setB F.SAFE_STATUS_SP_LATCH false).setB F.SAFE_STATUS_ZSL_LATCH false).setB F.SYS_STATE_ISO_LATCH false
  (s.setB F.SAFE_STATUS_AUX_OC_LATCH false).setB F.CVL_WADI_LOST_LATCH false

/-- The state that leaves ISOLATED: the latches cleared and the restart recorded. -/
def isoCleared (o : Origin) (s : State) : State :=
  let s := clearLatches { s with safe := { s.safe with rearm := none } }
  addRec sevSafety 0x0B 0x0012 (u8 (s.get F.SAFE_STATUS_LAST_CAUSE) ++ originBytes o) s

theorem isoEvaluate_clear (o : Origin) {s : State} (hst : s.st = stIsolated) (hc : causesClear s = true) :
    isoEvaluate o none s = changeState stStandby (if o.transport = 6 then 0x03 else 0x02) 0 o (isoCleared o s) :=
  if_pos ⟨hst, hc⟩

theorem isoEvaluate_held (o : Origin) {s : State} (hc : causesClear s = false) :
    isoEvaluate o none s = { s with safe := { s.safe with rearm := none } } :=
  if_neg (fun h => Bool.false_ne_true (hc.symm.trans h.2))

theorem get_isoCleared (o : Origin) (s : State) {f : Fld} (hf : f.addr / 0x1000 ∉ auxBlocks) :
    (isoCleared o s).get f = (clearLatches s).get f :=
  get_congr ((SameWords_addRec _ _ _ _ _ (by decide) _ hf).trans rfl)

theorem st_isoCleared (o : Origin) (s : State) : (isoCleared o s).st = s.st := by
  unfold State.st
  rw [get_isoCleared o s (by decide), clearLatches]
  simp (disch := decide) only [State.setB, get_set_apart]

theorem flags_clearLatches (s : State) :
    (clearLatches s).flag F.SAFE_STATUS_SP_LATCH = false ∧ (clearLatches s).flag F.SAFE_STATUS_ZSL_LATCH = false ∧
      (clearLatches s).flag F.SAFE_STATUS_AUX_OC_LATCH = false := by
  unfold clearLatches
  simp (disch := decide) only [flag_setB_same, flag_setB_apart, and_self]

/-- After the restart the device is in STANDBY with every latch clear (R418). -/
theorem restart_clears (trigger : Nat) (o : Origin) {s : State} (hst : s.st = stIsolated) :
    let t := settle (changeState stStandby trigger 0 o (isoCleared o s))
    t.st = stStandby ∧ t.flag F.SAFE_STATUS_SP_LATCH = false ∧ t.flag F.SAFE_STATUS_ZSL_LATCH = false ∧
      t.flag F.SAFE_STATUS_AUX_OC_LATCH = false := by
  have hne : (isoCleared o s).st ≠ stStandby := by
    rw [st_isoCleared, hst]
    decide
  have kept {f : Fld} (hin : f ∈ inputs) (hf : f.addr = 0x30080) :
      (settle (changeState stStandby trigger 0 o (isoCleared o s))).flag f = (clearLatches s).flag f := by
    have hword := word_changeState trigger 0 o hne (a := f.addr) (by rw [hf]; decide) (by rw [hf]; decide)
    rw [(same_settle _).flag f hin, flag_congr hword, State.flag, get_isoCleared o s (by rw [hf]; decide)]
    rfl
  obtain ⟨hsp, hzsl, haux⟩ := flags_clearLatches s
  refine ⟨?_, (kept (by decide) rfl).trans hsp, (kept (by decide) rfl).trans hzsl, (kept (by decide) rfl).trans haux⟩
  rw [st_settle]
  exact st_changeState trigger 0 o hne (by decide)

theorem isoReset_tone (o : Origin) (c : Option Ctx) {s : State} (h : s.flag F.CVL_WADI_TONE = true) :
    isoReset o c s = isoEvaluate o c (boardCast 0x07 [] s) := if_pos h

theorem isoReset_dark (o : Origin) (c : Option Ctx) {s : State} (h : s.flag F.CVL_WADI_TONE = false) :
    isoReset o c s = { boardCast 0x07 [] s with
      safe := { s.safe with rearm := some (s.time + 20 * ms, o, c) } } := by
  have dark : ¬ (boardCast 0x07 [] s).flag F.CVL_WADI_TONE = true := fun h' => Bool.false_ne_true (h.symm.trans h')
  exact if_neg dark

theorem exec_rstLocalPulse_isolated {s : State} (h : s.st = stIsolated) :
    exec .rstLocalPulse s = .next (settle (isoReset ⟨0, 6⟩ none s)) := congrArg finish (if_pos h)

/-- Settles O51: with the tone the restart evaluates at once, and `restart_clears` or nothing follows; without it the
restart waits, and every latch stays. -/
theorem isolationEndsOnlyWithCausesClear : Obligations.IsolationEndsOnlyWithCausesClear := by
  unfold Obligations.IsolationEndsOnlyWithCausesClear
  intro s hst hlatched
  have hcast : (boardCast 0x07 [] s).st = stIsolated := hst
  have hcauses : causesClear (boardCast 0x07 [] s) = causesClear s := rfl
  refine ⟨_, exec_rstLocalPulse_isolated hst, fun htone hclear => ?leaves, fun hstay => ?stays⟩
  case leaves =>
    rw [isoReset_tone _ _ htone, isoEvaluate_clear _ hcast (hcauses.trans hclear)]
    exact restart_clears _ _ hcast
  case stays =>
    rw [st_settle, latched_settle]
    by_cases htone : s.flag F.CVL_WADI_TONE = true
    · obtain hdark | hheld := hstay
      · exact absurd (hdark.symm.trans htone) Bool.false_ne_true
      · rw [isoReset_tone _ _ htone, isoEvaluate_held _ (hcauses.trans hheld)]
        exact ⟨hst, hlatched⟩
    · rw [isoReset_dark _ _ (Bool.not_eq_true _ ▸ htone)]
      exact ⟨hst, hlatched⟩

end Sys2Proof.Proofs
end

section
/-!
SUPPORT. Wakes, the wait for SERVICE_REQ and a failing boot (R46, R51, R53, R54): what each row does under its own
conditions.
-/

namespace Sys2Proof.Proofs

open Sys2Proof Sys2Proof.Machine

/-- A failing supervisor of BOOT fails the boot at the step it stands at (R53). -/
theorem bootLost_running (b : BootPins) {s : State} (hb : s.st = stBoot) (hr : s.sys.supRuns = true) :
    bootLost b s = bootFail (bootStep s) b s := if_pos ⟨hb, hr⟩

/-- Without step 9 the boot of a powered module fails 5 s after its zero instant (R53, R54). -/
theorem exec_bootTimeout_running (b : BootPins) {s : State} (hb : s.st = stBoot) (hr : s.sys.supRuns = true)
    (hp : s.sys.powered = true) : exec (.bootTimeout b) s = .next (settle (bootFail (bootStep s) b
      (s.at (s.sys.bootZero + s.sys.bootWait + 5 * sec)))) := by
  have late : exec (.bootTimeout b) s = finish (bootLost b (s.at (s.sys.bootZero + s.sys.bootWait + 5 * sec))) :=
    (congrArg finish (if_pos hp)).trans (congrArg (fun x => finish (bootLost b x)) (if_pos hb))
  exact late.trans (congrArg finish (bootLost_running b hb hr))

/-- What the wakes share: a powered module in SHIP or OASIS (R46). -/
theorem asleep_powered {s : State} (hp : s.sys.powered = true) (hst : s.st = stShip ∨ s.st = stOasis) :
    (s.sys.powered && (s.st == stShip || s.st == stOasis)) = true := by
  simpa [hp] using hst

/-- The timer started at the entry wakes a sleeping module while the AON clock runs (R46, R51). -/
theorem exec_wakeTimerExpiry_started (b : BootPins) {s : State} {t : Nat} (hw : s.sys.wakeAt = some t)
    (hst : s.st = stShip ∨ s.st = stOasis) (hc : s.sys.clkLost / 2048 % 2 = 0) :
    exec (.wakeTimerExpiry b) s = .next (settle (wake b 3 (s.at t))) := by
  change execWakeTimerExpiry b s = _
  rw [execWakeTimerExpiry, hw]
  exact congrArg finish (if_pos ⟨hst, hc⟩)

/-- The wait for SERVICE_REQ that runs its 3 s ends in RECOVERY (R54, R604). -/
theorem exec_serviceReqRecovery_waiting {s : State} {t : Nat} (hw : s.sys.svcWait = some t) :
    exec .serviceReqRecovery s = .next (settle (enterRecovery 1 (s.at (t + 3 * sec)))) := by
  change execServiceReqRecovery s = _
  rw [execServiceReqRecovery, hw]
  rfl

/-- A release before the 3 s goes on at step 3 (R54). -/
theorem exec_serviceReqRelease_waiting (b : BootPins) {s : State} {t w : Nat} (hw : s.sys.svcWait = some t)
    (h : w < 3 * sec) :
    exec (.serviceReqRelease w b) s = .next (settle (romStart 4 false (badBanks b.bad
      { s.at (t + w) with sys := { s.sys with svcWait := none, bootWait := s.sys.bootWait + w } }))) := by
  change execServiceReqRelease w b s = _
  rw [execServiceReqRelease, hw]
  exact congrArg finish (if_pos h)

/-- Settles O19: each row's tests are decided by the clause's conditions, and its work is left. -/
theorem wakeAndStartUpCommandsComplete : Obligations.WakeAndStartUpCommandsComplete := by
  unfold Obligations.WakeAndStartUpCommandsComplete
  intro b r t w s
  refine ⟨fun hp hst => ⟨?service, fun he => ?contact, fun hw hc => exec_wakeTimerExpiry_started b hw hst hc⟩,
    fun hw => ⟨exec_serviceReqRecovery_waiting hw, exec_serviceReqRelease_waiting b hw⟩,
    fun hb hr => ⟨fun hbusy hgen => ?done, congrArg finish (bootLost_running b hb hr),
      exec_bootTimeout_running b hb hr⟩⟩
  case service => exact congrArg finish (if_pos (asleep_powered hp hst))
  case contact => exact congrArg finish (if_pos (by rw [asleep_powered hp hst, he]; rfl))
  case done => exact congrArg finish (if_pos (by simp [hb, hr, hbusy, hgen]))

end Sys2Proof.Proofs
end

section
/-!
SUPPORT. Admitted requests end in what their effect makes of the admission; the re-initialise opcodes (R65), and the
ways out of ISOLATED and of a stop (R48, R417, R418).
-/

namespace Sys2Proof.Proofs

open Sys2Proof Sys2Proof.Machine

/-- An admitted request ends in the state that its effect makes of the admission. -/
theorem finish_withCmd_admitted {c : Ctx} {op : Nat} {f : State → State} {s t : State} (h : Safety.Admitted c op s)
    (hf : f (noteAdmit s) = t) : finish (withCmd c op f s) = .next (settle t) := by
  rw [withCmd_admitted f h, hf, finish_next]

/-- A REINIT_ETH port is 1 or 2 (R65). -/
theorem doReinitEth_of_port {n : BitVec 8} (h : n = 1 ∨ n = 2) (c : Ctx) (s : State) :
    doReinitEth c n.toNat s = reinit c 0x0C05 (ethReinit (n.toNat - 1)) s := by
  obtain rfl | rfl := h <;> rfl

theorem doReinitEth_other {n : BitVec 8} (h1 : n ≠ 1) (h2 : n ≠ 2) (c : Ctx) (s : State) :
    doReinitEth c n.toNat s = replyRange c 0x0C05 0 s := by
  have hn1 : n.toNat ≠ 1 := fun e => h1 (BitVec.eq_of_toNat_eq e)
  have hn2 : n.toNat ≠ 2 := fun e => h2 (BitVec.eq_of_toNat_eq e)
  exact if_pos (by omega)

/-- Settles O22: an admitted request runs its effect, whose tests the clause's conditions decide. -/
theorem reinitialiseCommandsComplete : Obligations.ReinitialiseCommandsComplete := by
  unfold Obligations.ReinitialiseCommandsComplete
  intro c n free s
  refine ⟨fun h => ⟨fun hclosed hhold hscan hbusy => ?start, fun hheld => ?held, fun hclosed hhold hwait => ?wait⟩,
    fun h => finish_withCmd_admitted h rfl, fun h => finish_withCmd_admitted h rfl,
    fun h => finish_withCmd_admitted h rfl,
    fun h => ⟨fun hport => finish_withCmd_admitted h (doReinitEth_of_port hport c _),
      fun h1 h2 => finish_withCmd_admitted h (doReinitEth_other h1 h2 c _)⟩,
    fun h => finish_withCmd_admitted h rfl, fun h => finish_withCmd_admitted h rfl,
    fun h => ⟨fun hlane => finish_withCmd_admitted h (if_neg (Nat.not_lt.2 hlane)),
      fun hlane => finish_withCmd_admitted h (if_pos hlane)⟩⟩
  all_goals
    refine finish_withCmd_admitted h ?_
    unfold doReinitCvl
    simp only [noteAdmit_anyClosed, noteAdmit_flag, noteAdmit_keepAlive]
  case start => simp [hclosed, hhold, hscan, hbusy]
  case held => simp [hheld]
  case wait => simp [hclosed, hhold, hwait]

/-- Settles O26: the rows' own tests are decided by the clause's conditions. -/
theorem isolationResetAndStopComplete : Obligations.IsolationResetAndStopComplete := by
  unfold Obligations.IsolationResetAndStopComplete
  intro c t x s
  refine ⟨fun h => finish_withCmd_admitted h rfl, exec_rstLocalPulse_isolated,
    fun hp => congrArg finish (if_pos hp), fun hstop hdeadline hst => ?_⟩
  change finish (stopTimeout s) = _
  simp only [stopTimeout, hstop, hdeadline, hst, if_true, finish_next]

end Sys2Proof.Proofs
end

section
/-!
SUPPORT. State requests (R46 to R48, R51, R58, R63): one lemma per branch of the effect, and the resets, commissioning
commands and timeouts beside them (R55, R57, R59).
-/

namespace Sys2Proof.Proofs

open Sys2Proof Sys2Proof.Machine Sys2Proof.Laws

/-! ## The branches of a state request (R46 to R48, R63) -/

theorem doStateRequest_unknown (c : Ctx) {code arg : Nat} (a : State) (h : 10 < code) :
    doStateRequest c code arg a = replyRange c 0x0010 0 a := if_pos h

theorem doStateRequest_argument (c : Ctx) {code arg : Nat} (a : State) (h : code ≤ 10) (ha : 86400 < arg) :
    doStateRequest c code arg a = replyRange c 0x0010 1 a := (if_neg (Nat.not_lt.2 h)).trans (if_pos ha)

section
variable (c : Ctx) {code arg : Nat} (a : State) (hc : code ≤ 10) (ha : arg ≤ 86400)
include hc ha

theorem doStateRequest_standby (hs : code = stStandby) : doStateRequest c code arg a = requestStandby c a := by
  rw [doStateRequest, if_neg (Nat.not_lt.2 hc), if_neg (Nat.not_lt.2 ha)]
  by_cases hstays : code = stStandby ∧ (a.st = stStandby ∨ a.sys.stop.isSome)
  · exact if_pos hstays
  · have hother : ¬ (code = a.st ∨ (code = stSafeStop ∧ a.st = stIsolated)) := by
      rintro (hst | ⟨hstop, -⟩)
      · exact hstays ⟨hs, .inl (hst.symm.trans hs)⟩
      · exact absurd (hs.symm.trans hstop) (by decide)
    rw [if_neg hstays, if_neg hother, if_pos (.inl hs), if_pos hs]

theorem doStateRequest_present (hs : code ≠ stStandby) (h : code = a.st ∨ (code = stSafeStop ∧ a.st = stIsolated)) :
    doStateRequest c code arg a = reqOk c a := by
  rw [doStateRequest, if_neg (Nat.not_lt.2 hc), if_neg (Nat.not_lt.2 ha), if_neg (fun k => hs k.1), if_pos h]

theorem doStateRequest_safe (hs : code = stSafeStop ∨ code = stIsolated)
    (h : ¬ (code = a.st ∨ (code = stSafeStop ∧ a.st = stIsolated))) :
    doStateRequest c code arg a = requestSafe c code a := by
  have hne : code ≠ stStandby := by rintro rfl; revert hs; decide
  rw [doStateRequest, if_neg (Nat.not_lt.2 hc), if_neg (Nat.not_lt.2 ha), if_neg (fun k => hne k.1), if_neg h,
    if_pos (.inr hs), if_neg hne]

end

/-- A request for a state that no demand makes, neither STANDBY nor the present one: the rest of `doStateRequest`. -/
def requestMove (c : Ctx) (code arg : Nat) (s : State) : State :=
  if s.direct then reqForbids c s
  else if s.flag F.SYS_STATE_TRANSITION then replyBusy c 0x0010 100 s
  else if s.st ≠ stStandby then reqForbids c s
  else if code = stRun then requestRun c s
  else if s.flag F.SYS_STATE_HOLD then reqForbids c s
  else if code = stOasis ∨ code = stShip then sleepStart c code arg s
  else if code = stTest ∨ code = stCommission then
    reqOk c (changeState code 0x01 code (Ctx.origin c)
      { s with est := { s.est with commCheck := s.est.commCheck || code == stCommission } })
  else reqForbids c s

theorem doStateRequest_move (c : Ctx) {code arg : Nat} (a : State) (hc : code ≤ 10) (ha : arg ≤ 86400)
    (h : code ∉ [stStandby, stSafeStop, stIsolated, a.st]) :
    doStateRequest c code arg a = requestMove c code arg a := by
  simp only [List.mem_cons, List.not_mem_nil, or_false, not_or] at h
  obtain ⟨hstandby, hstop, hiso, hst⟩ := h
  rw [doStateRequest, if_neg (Nat.not_lt.2 hc), if_neg (Nat.not_lt.2 ha), if_neg (fun k => hstandby k.1),
    if_neg (not_or.2 ⟨hst, fun k => hstop k.1⟩), if_neg (by simp only [hstandby, hstop, hiso, or_self, not_false_iff])]
  rfl

section
variable (c : Ctx) (code arg : Nat) {s : State} (hd : s.direct = false) (ht : s.flag F.SYS_STATE_TRANSITION = false)

theorem requestMove_direct (h : s.direct = true) : requestMove c code arg s = reqForbids c s := if_pos h

include hd

theorem requestMove_transition (h : s.flag F.SYS_STATE_TRANSITION = true) :
    requestMove c code arg s = replyBusy c 0x0010 100 s := by
  rw [requestMove, hd, if_neg Bool.false_ne_true, if_pos h]

include ht

theorem requestMove_away (h : s.st ≠ stStandby) : requestMove c code arg s = reqForbids c s := by
  rw [requestMove, hd, ht, if_neg Bool.false_ne_true, if_neg Bool.false_ne_true, if_pos h]

/-- In STANDBY the target decides. -/
theorem requestMove_standby (hst : s.st = stStandby) : requestMove c code arg s =
    if code = stRun then requestRun c s
    else if s.flag F.SYS_STATE_HOLD then reqForbids c s
    else if code = stOasis ∨ code = stShip then sleepStart c code arg s
    else if code = stTest ∨ code = stCommission then
      reqOk c (changeState code 0x01 code (Ctx.origin c)
        { s with est := { s.est with commCheck := s.est.commCheck || code == stCommission } })
    else reqForbids c s := by
  rw [requestMove, hd, ht, if_neg Bool.false_ne_true, if_neg Bool.false_ne_true, if_neg (not_not.2 hst)]

end

/-! ## The targets from STANDBY -/

section
variable (c : Ctx) (code arg : Nat) {s : State} (hd : s.direct = false) (ht : s.flag F.SYS_STATE_TRANSITION = false)
  (hst : s.st = stStandby)
include hd ht hst

theorem requestMove_run (h : code = stRun) : requestMove c code arg s = requestRun c s :=
  (requestMove_standby c code arg hd ht hst).trans (if_pos h)

theorem requestMove_hold (h : code ≠ stRun) (hh : s.flag F.SYS_STATE_HOLD = true) :
    requestMove c code arg s = reqForbids c s := by
  rw [requestMove_standby c code arg hd ht hst, if_neg h, if_pos hh]

variable (hh : s.flag F.SYS_STATE_HOLD = false)
include hh

theorem requestMove_sleep (h : code = stOasis ∨ code = stShip) :
    requestMove c code arg s = sleepStart c code arg s := by
  have hrun : code ≠ stRun := by rintro rfl; revert h; decide
  rw [requestMove_standby c code arg hd ht hst, if_neg hrun, hh, if_neg Bool.false_ne_true, if_pos h]

theorem requestMove_test : requestMove c stTest arg s =
    reqOk c (changeState stTest 0x01 stTest (Ctx.origin c) s) := by
  rw [requestMove_standby c stTest arg hd ht hst, if_neg (by decide), hh, if_neg Bool.false_ne_true, if_neg (by decide),
    if_pos (by decide), show (stTest == stCommission) = false from rfl, Bool.or_false]

theorem requestMove_commission : requestMove c stCommission arg s =
    reqOk c (changeState stCommission 0x01 stCommission (Ctx.origin c)
      { s with est := { s.est with commCheck := true } }) := by
  rw [requestMove_standby c stCommission arg hd ht hst, if_neg (by decide), hh, if_neg Bool.false_ne_true,
    if_neg (by decide), if_pos (by decide), show (stCommission == stCommission) = true from rfl, Bool.or_true]

theorem requestMove_other (h : code ∉ [stRun, stOasis, stShip, stTest, stCommission]) :
    requestMove c code arg s = reqForbids c s := by
  simp only [List.mem_cons, List.not_mem_nil, or_false, not_or] at h
  obtain ⟨hrun, hoasis, hship, htest, hcomm⟩ := h
  rw [requestMove_standby c code arg hd ht hst, if_neg hrun, hh, if_neg Bool.false_ne_true,
    if_neg (not_or.2 ⟨hoasis, hship⟩), if_neg (not_or.2 ⟨htest, hcomm⟩)]

end

/-! ## STANDBY and the demands (R46 to R48, R387, R390) -/

section
variable (c : Ctx) {s : State} (hstop : s.sys.stop = none)

theorem requestStandby_stopping (h : s.sys.stop ≠ none) : requestStandby c s = reqOk c s :=
  if_pos (Option.isSome_iff_ne_none.2 h)

include hstop

theorem requestStandby_in_standby (h : s.st = stStandby) :
    requestStandby c s = reqOk c (if s.flag F.SYS_STATE_HOLD then endHold s else s) := by
  rw [apply_ite (reqOk c), requestStandby, hstop, if_pos h]
  rfl

theorem requestStandby_in_precharge (h : s.st = stPrecharge) : requestStandby c s =
    reqOk c (runDone stForbids (changeState stStandby 0x01 stStandby (Ctx.origin c)
      (openAll { s with ctl := { s.ctl with pre := none } }))) := by
  rw [requestStandby, hstop, h]
  rfl

theorem requestStandby_in_run (h : s.st = stRun) : requestStandby c s =
    controlledStop (some c) (respond c false 0x0010 stAccepted (u8 s.st) s) := by
  rw [requestStandby, hstop, h]
  rfl

theorem requestStandby_in_test (h : s.st = stTest) : requestStandby c s =
    reqOk c (changeState stStandby 0x01 stStandby (Ctx.origin c) s) := by
  rw [requestStandby, hstop, h]
  rfl

theorem requestStandby_elsewhere (h : s.st ∉ [stStandby, stPrecharge, stRun, stTest]) :
    requestStandby c s = reqForbids c s := by
  simp only [List.mem_cons, List.not_mem_nil, or_false, not_or] at h
  obtain ⟨hstandby, hpre, hrun, htest⟩ := h
  rw [requestStandby, hstop, if_neg hstandby, if_neg hpre, if_neg hrun, if_neg htest]
  rfl

end

theorem requestSafe_isolated (c : Ctx) (s : State) : requestSafe c stIsolated s =
    reqOk c (seiBy 0x01 stIsolated (Ctx.origin c) 0x12 (abandonClose s)) := if_pos rfl

theorem requestSafe_stop_in_run (c : Ctx) {s : State} (h : s.st = stRun) : requestSafe c stSafeStop s =
    demandScs 0x11 (abandonClose { s with safe := { s.safe with scsCtx := s.safe.scsCtx ++ [c] } }) :=
  (if_neg (by decide)).trans (if_pos h)

theorem requestSafe_stop_elsewhere (c : Ctx) {s : State} (h : s.st ≠ stRun) : requestSafe c stSafeStop s =
    reqOk c (seiBy 0x01 stSafeStop (Ctx.origin c) 0x11 (abandonClose s)) :=
  (if_neg (by decide)).trans (if_neg h)

/-! ## RUN and the sleeping states (R46, R51, R58) -/

theorem requestRun_refused (c : Ctx) {s : State} (h : runConditions s = false) : requestRun c s = reqForbids c s :=
  if_neg (by rw [h]; decide)

theorem requestRun_from_hold (c : Ctx) {s : State} (h : runConditions s = true)
    (hh : s.flag F.SYS_STATE_HOLD = true) : requestRun c s = reqOk c (changeState stRun 0x01 stRun (Ctx.origin c)
      ({ s with sys := { s.sys with holdEnd := none } }.setB F.SYS_STATE_HOLD false)) :=
  (if_pos h).trans (if_pos hh)

theorem requestRun_precharges (c : Ctx) {s : State} (h : runConditions s = true)
    (hh : s.flag F.SYS_STATE_HOLD = false) :
    let s1 := changeState stPrecharge 0x01 stRun (Ctx.origin c) s
    let s2 := { s1 with sys := { s1.sys with runCtx := some c } }.setB F.SYS_STATE_TRANSITION true
    requestRun c s = closeContactor 1 (respond c false 0x0010 stAccepted (u8 s2.st) s2) :=
  (if_pos h).trans (if_neg (by rw [hh]; decide))

theorem sleepStart_busy (c : Ctx) (code arg : Nat) {s : State}
    (h : s.flag F.FEED_STATUS_CHG_BUSY = true ∨ s.flag F.FEED_STATUS_SWAP_BUSY = true) :
    sleepStart c code arg s = replyBusy c 0x0010 1000 s := if_pos (Bool.or_eq_true_iff.2 h)

/-- The AON write of an entry to OASIS or SHIP (R51, R82). -/
def sleepPost (c : Ctx) (arg : Word) (s : State) : Post := ⟨.aon, 0x60, 0x1FFFF, arg, Ctx.origin c, false, s.time⟩

section
variable (c : Ctx) (code : Nat) (arg : Word) {s : State} (hchg : s.flag F.FEED_STATUS_CHG_BUSY = false)
  (hswap : s.flag F.FEED_STATUS_SWAP_BUSY = false)
include hchg hswap

theorem sleepStart_collides (h : s.flag (postBusy .aon) = true) :
    sleepStart c code arg.toNat s = replyBusy c 0x0010 1 (raise C.POST_COLLIDE s) := by
  simp only [sleepStart, postWrite, hchg, hswap, h, Bool.or_self, Bool.false_eq_true, if_false, if_true]
  rfl

theorem sleepStart_posts (h : s.flag (postBusy .aon) = false) :
    let s1 := { s with sys := { s.sys with posts := s.sys.posts ++ [sleepPost c arg s] } }.setB (postBusy .aon) true
    let s2 := { s1 with sys := { s1.sys with sleep := some (code, c) } }.setB F.SYS_STATE_TRANSITION true
    sleepStart c code arg.toNat s = if code = stOasis then handoffStart s2 else s2 := by
  simp only [sleepStart, postWrite, hchg, hswap, h, Bool.or_self, Bool.false_eq_true, if_false, BitVec.ofNat_toNat,
    BitVec.setWidth_eq]
  rfl

end

/-! ## Resets and timeouts -/

theorem st_replyAccepted (c : Ctx) (op : Nat) (s : State) : (replyAccepted c op s).st = s.st :=
  get_congr (SameWords_respond c false op stAccepted [] s _ (by decide))

theorem exec_testTimeout_test {s : State} (h : s.st = stTest) : exec .testTimeout s =
    .next (settle (changeState stStandby 0x10 0 inside (s.at (s.sys.lastAdmit + 600 * sec)))) := by
  have idle : testIdle (s.at (s.sys.lastAdmit + 600 * sec)) =
      changeState stStandby 0x10 0 inside (s.at (s.sys.lastAdmit + 600 * sec)) := if_pos ⟨h, le_max_right _ _⟩
  exact congrArg finish ((if_pos h).trans idle)

theorem exec_holdTimeout_held {s : State} {t : Nat} (ht : s.sys.holdEnd = some t)
    (hh : s.flag F.SYS_STATE_HOLD = true) : exec .holdTimeout s = .next (settle (endHold (s.at t))) := by
  change execHoldTimeout s = _
  rw [execHoldTimeout, ht]
  exact congrArg finish (if_pos hh)

/-! ## Recovery and the personality (R55, R57) -/

section
variable (c : Ctx) (b : BootPins) {s : State} (hh : s.flag F.SYS_STATE_HOLD = false)
include hh

theorem doEnterRecovery_activation (h : s.fwu.pln ≠ none) : doEnterRecovery c b s = replyBusy c 0x0012 100 s := by
  rw [doEnterRecovery, hh, if_neg Bool.false_ne_true, if_pos (Option.isSome_iff_ne_none.2 h)]

theorem doEnterRecovery_restarts (h : s.fwu.pln = none) :
    let s1 := replyAccepted c 0x0012 s
    doEnterRecovery c b s = bootFrom b (changeState stBoot 0x05 0 (Ctx.origin c)
      (warmRestart false { s1 with sys := { s1.sys with recoveryReq := true } })) := by
  rw [doEnterRecovery, hh, h, if_neg Bool.false_ne_true]
  rfl

end

section
variable (c : Ctx) {p : BitVec 8} {s : State} (hp : s.get F.SYS_MODE_PERSONALITY = 0)
include hp

theorem doSetPersonality_first (h : p = 1 ∨ p = 2) :
    let s1 := s.set F.SYS_MODE_PERSONALITY p.toNat
    doSetPersonality c p.toNat s =
      replyOk c 0x0014 [] (configRec (Ctx.origin c) 0x20 (s1.word 0x20) (s.word 0x20) s1) := by
  have known : p.toNat = 1 ∨ p.toNat = 2 := by obtain rfl | rfl := h <;> decide
  exact (if_neg (not_not.2 hp)).trans (if_pos known)

theorem doSetPersonality_unknown (h1 : p ≠ 1) (h2 : p ≠ 2) :
    doSetPersonality c p.toNat s = replyRange c 0x0014 0 s := by
  have unknown : ¬ (p.toNat = 1 ∨ p.toNat = 2) :=
    not_or.2 ⟨fun e => h1 (BitVec.eq_of_toNat_eq e), fun e => h2 (BitVec.eq_of_toNat_eq e)⟩
  exact (if_neg (not_not.2 hp)).trans (if_neg unknown)

end

/-! ## The rows -/

section
variable {c : Ctx} {code : BitVec 8} {arg : Word} {s u : State} (h : Safety.Admitted c 0x0010 s)
  (ha : arg.toNat ≤ 86400)
include h ha

theorem exec_stateRequest_standby (hs : code.toNat = stStandby) (hu : requestStandby c (noteAdmit s) = u) :
    exec (.stateRequest c code arg) s = .next (settle u) := by
  have hc : code.toNat ≤ 10 := by rw [hs]; decide
  exact finish_withCmd_admitted h ((doStateRequest_standby c (noteAdmit s) hc ha hs).trans hu)

variable {target : Nat} (hcode : code.toNat = target)
include hcode

theorem exec_stateRequest_demand (hd : target = stSafeStop ∨ target = stIsolated)
    (hst : ¬ (target = s.st ∨ (target = stSafeStop ∧ s.st = stIsolated)))
    (hu : requestSafe c target (noteAdmit s) = u) : exec (.stateRequest c code arg) s = .next (settle u) := by
  subst hcode
  have hc : code.toNat ≤ 10 := by obtain e | e := hd <;> rw [e] <;> decide
  exact finish_withCmd_admitted h ((doStateRequest_safe c (noteAdmit s) hc ha hd hst).trans hu)

theorem exec_stateRequest_move (hc : code.toNat ≤ 10) (hs : code.toNat ∉ [stStandby, stSafeStop, stIsolated, s.st])
    (hu : requestMove c target arg.toNat (noteAdmit s) = u) :
    exec (.stateRequest c code arg) s = .next (settle u) := by
  subst hcode
  exact finish_withCmd_admitted h ((doStateRequest_move c (noteAdmit s) hc ha hs).trans hu)

end

/-- Settles O21: an admitted request runs its effect; the lemmas above say which branch a clause's conditions leave. -/
theorem stateCommandsComplete : Obligations.StateCommandsComplete := by
  unfold Obligations.StateCommandsComplete
  intro c code arg b s t a o
  refine ⟨fun h => ⟨fun hc => finish_withCmd_admitted h (doStateRequest_unknown c a hc),
      fun hc ha => finish_withCmd_admitted h (doStateRequest_argument c a hc ha)⟩,
    fun h ha hs => ?standby, fun h ha hc hs => ?demand, fun h ha hc hs => ?move, fun h => ?reset, fun h => ?recovery,
    fun h => ?personality, fun h => ?commission, exec_holdTimeout_held, exec_testTimeout_test,
    fun hh hr => congrArg finish (if_pos ⟨hh, hr⟩)⟩
  case standby =>
    have run {u : State} := exec_stateRequest_standby (u := u) h ha hs
    exact ⟨fun hstop => run (requestStandby_stopping c hstop), fun hstop =>
      ⟨fun hst => run (requestStandby_in_standby c hstop hst), fun hst => run (requestStandby_in_precharge c hstop hst),
        fun hst => run (requestStandby_in_run c hstop hst), fun hst => run (requestStandby_in_test c hstop hst),
        fun hst => run (requestStandby_elsewhere c hstop hst)⟩⟩
  case demand =>
    have run {target : Nat} {u : State} (hcode : code.toNat = target) := exec_stateRequest_demand (u := u) h ha hcode
    refine ⟨fun hst => finish_withCmd_admitted h (doStateRequest_present c a hc ha hs hst),
      fun hcode hst => run hcode (.inr rfl) ?_ (requestSafe_isolated c a),
      fun hcode hst => run hcode (.inl rfl) (by rw [hst]; decide) (requestSafe_stop_in_run c hst), fun hcode hst => ?_⟩
    · exact not_or.2 ⟨fun hsame => hst hsame.symm, fun hstop => absurd hstop.1 (by decide)⟩
    · simp only [List.mem_cons, List.not_mem_nil, or_false, not_or] at hst
      obtain ⟨hrun, hstop, hiso⟩ := hst
      exact run hcode (.inl rfl) (not_or.2 ⟨fun e => hstop e.symm, fun e => hiso e.2⟩)
        (requestSafe_stop_elsewhere c hrun)
  case move =>
    have run {target : Nat} {u : State} (hcode : code.toNat = target) :=
      exec_stateRequest_move (u := u) h ha hcode hc hs
    refine ⟨fun hd => run rfl (requestMove_direct c _ _ hd), fun hd ht => run rfl (requestMove_transition c _ _ hd ht),
      fun hd ht hst => run rfl (requestMove_away c _ _ hd ht hst), fun hd ht hst => ?_⟩
    have toRun {u : State} (hcode : code.toNat = stRun) (hu : requestRun c a = u) :=
      run rfl ((requestMove_run c _ _ (s := a) hd ht hst hcode).trans hu)
    have toSleep {u : State} (hcode : code.toNat = stOasis ∨ code.toNat = stShip)
        (hh : s.flag F.SYS_STATE_HOLD = false) (hu : sleepStart c code.toNat arg.toNat a = u) :=
      run rfl ((requestMove_sleep c _ _ (s := a) hd ht hst hh hcode).trans hu)
    exact ⟨fun hcode hr => toRun hcode (requestRun_refused c hr),
      fun hcode hr hh => toRun hcode (requestRun_from_hold c hr hh),
      fun hcode hr hh => toRun hcode (requestRun_precharges c hr hh),
      fun hcode hh => run rfl (requestMove_hold c _ _ hd ht hst hcode hh),
      fun hcode hh => ⟨fun hbusy => toSleep hcode hh (sleepStart_busy c _ _ hbusy), fun hchg hswap =>
        ⟨fun hpost => toSleep hcode hh (sleepStart_collides c _ arg hchg hswap hpost),
          fun hpost => toSleep hcode hh (sleepStart_posts c _ arg hchg hswap hpost)⟩⟩,
      fun hcode hh => run hcode (requestMove_test c _ hd ht hst hh),
      fun hcode hh => run hcode (requestMove_commission c _ hd ht hst hh),
      fun hcode hh => run rfl (requestMove_other c _ _ hd ht hst hh hcode)⟩
  case reset =>
    have hst := st_replyAccepted c 0x0011 a
    exact ⟨fun h' => finish_withCmd_admitted h (if_neg (hst ▸ h')),
      fun h' => finish_withCmd_admitted h (if_pos (hst.trans h'))⟩
  case recovery =>
    exact ⟨fun hh => finish_withCmd_admitted h (if_pos hh),
      fun hh hp => finish_withCmd_admitted h (doEnterRecovery_activation c b hh hp),
      fun hh hp => finish_withCmd_admitted h (doEnterRecovery_restarts c b hh hp)⟩
  case personality =>
    exact ⟨fun hp => finish_withCmd_admitted h (if_pos hp),
      fun hp hcode => finish_withCmd_admitted h (doSetPersonality_first c hp hcode),
      fun hp h1 h2 => finish_withCmd_admitted h (doSetPersonality_unknown c hp h1 h2)⟩
  case commission =>
    exact ⟨fun hk => finish_withCmd_admitted h (if_neg (not_not.2 hk)),
      fun hk => finish_withCmd_admitted h (if_pos hk)⟩

end Sys2Proof.Proofs
end

section
/-!
SUPPORT. The supply feeds (R620 to R629): what records and a feed's own notes leave of the changeover and the swap test
under way, and what each row does under its own conditions.
-/

namespace Sys2Proof.Proofs

open Sys2Proof Sys2Proof.Machine Sys2Proof.Laws

/-! ## What a record and a feed's own notes leave of the sequencer -/

theorem pwr_of_outer {s t : State} (h : outer t = outer s) : t.pwr = s.pwr := by
  simp only [outer, Prod.mk.injEq] at h
  obtain ⟨-, -, -, -, -, -, -, -, -, -, -, -, -, -, -, hpwr⟩ := h
  exact hpwr

theorem pwr_causeRec (c : Cause) (n : Nat) (p : List Byte) (s : State) : (causeRec c n p s).pwr = s.pwr :=
  pwr_of_outer (outer_causeRec c n p s)

theorem pwr_addRec (a b c : Nat) (p : List Byte) (s : State) : (addRec a b c p s).pwr = s.pwr :=
  pwr_of_outer (outer_addRec a b c p s)

@[simp] theorem chg_markAbsent (f : Feed) (mv : Nat) (s : State) : (markAbsent f mv s).pwr.chg = s.pwr.chg := by
  cases f <;> rfl

@[simp] theorem swap_markAbsent (f : Feed) (mv : Nat) (s : State) : (markAbsent f mv s).pwr.swap = s.pwr.swap := by
  cases f <;> rfl

@[simp] theorem swap_closeFeed (f : Feed) (s : State) : (closeFeed f s).pwr.swap = s.pwr.swap := rfl

@[simp] theorem swap_endChg (s : State) : (endChg s).pwr.swap = s.pwr.swap := rfl

theorem zslOn_powered {s : State} (hp : s.sys.powered = true) (hst : s.st ≠ stShip) : zslOn s = true := by
  simp [zslOn, hp, hst]

/-! ## Rows whose tests take more than one step -/

/-- STANDBY_ABSENT of the feed beside the active one (R627). -/
theorem exec_standbyAbsent_armed {f : Feed} {s : State} (hon : zslOn s = true) (ha : activeFeed s = some f)
    (hdual : feedCfg s F.FEED_CFG_DUAL = 1) (hf : s.flag (feedPresent (otherFeed f)) = false)
    (harmed : s.pwr.standbyArmed = true) :
    let s1 := s.at (feedGone s (otherFeed f) + 100 * ms)
    exec .standbyAbsent s = .next (settle (causeRec C.STANDBY_ABSENT sevWarning []
      { s1 with pwr := { s1.pwr with standbyArmed := false } })) := by
  change execStandbyAbsent s = _
  rw [execStandbyAbsent, ha]
  exact congrArg finish (if_pos (by rw [hon, hdual, hf, harmed]; rfl))

/-- AUTO_RETURN to a PREF feed that stands (R626). -/
theorem exec_autoReturn_due {il : Bool} {t : Nat} {s : State} (hon : zslOn s = true)
    (ht : feedSince s (prefFeed s) = some t) (hr : feedCfg s F.FEED_CFG_AUTO_RET = 1)
    (ha : activeFeed s = some (otherFeed (prefFeed s))) (hi : feedIdle s = true) :
    let s1 := checkIl il (s.at (t + 60 * sec))
    exec (.autoReturn il) s = .next (settle (if il then startChg (prefFeed s) false 0 s1 else s1)) := by
  change execAutoReturn il s = _
  rw [execAutoReturn, ht]
  exact congrArg finish (if_pos (by rw [hon, hr, ha, hi]; simp))

/-- A low store reports once its 5 s have run (R622). -/
theorem exec_railFault_store {t : Nat} {s : State} (hon : zslOn s = true) (ht : s.pwr.storeLow = some t) :
    exec (.railFault false) s = .next (settle (causeRec C.RAIL_FAULT sevFault []
      { s.at (t + 5 * sec) with pwr := { s.pwr with storeLow := none } })) := by
  change execRailFault false s = _
  rw [execRailFault, if_pos hon, ht]
  rfl

/-- The periodic swap test that is due (R629). -/
theorem exec_swapTestPeriodic_due {il : Bool} {s : State} (hs : supActs s = true)
    (hn : s.get F.FEED_SWAP_CFG_PERIOD ≠ 0)
    (hd : s.pwr.swapAt + s.get F.FEED_SWAP_CFG_PERIOD * 86400 ≤ s.sys.opSec)
    (hr : ∀ r ∈ s.pwr.retryAt, r ≤ s.sys.opSec) :
    let s1 := swapStart (noteIl il s)
    exec (.swapTestPeriodic il) s = .next (settle (if s1.pwr.swap.isSome then s1
      else { s1 with pwr := { s1.pwr with retryAt := some (s1.sys.opSec + 3600) } })) := by
  have retry : s.pwr.retryAt.all (fun t => decide (t ≤ s.sys.opSec)) = true := by
    simpa [Option.all_eq_true] using hr
  exact congrArg finish (if_pos (by simp [hs, hn, hd, retry]))

/-- Settles O50: each row's tests are decided by the clause's conditions, since a record and a feed's own notes leave
the changeover and the swap test under way as they were. -/
theorem feedCommandsComplete : Obligations.FeedCommandsComplete := by
  unfold Obligations.FeedCommandsComplete
  intro f p both il mv vmin iin b x y t s
  refine ⟨fun hp => congrArg finish (if_pos (by rw [hp]; rfl)), fun hp hst => ?powered, fun hx => ?timeout,
    fun h => congrArg finish (withWrite_admitted _ h), fun h => congrArg finish (withWrite_admitted _ h),
    fun h => congrArg finish (withWrite_admitted _ h), exec_swapTestPeriodic_due, fun hy hx ht => ?dwell⟩
  case powered =>
    have hon := zslOn_powered hp hst
    have hpow : ¬ (!s.sys.powered) = true := by rw [hp]; decide
    refine ⟨congrArg finish ((if_neg hpow).trans (if_neg hst)), fun hf => ?absent,
      fun hw => congrArg finish (if_pos (by rw [hon, hw]; rfl)), fun hx hf => ?confirm, congrArg finish (if_pos hon),
      congrArg finish (if_pos hon), exec_railFault_store hon, congrArg finish (if_pos hon),
      fun hd => congrArg finish ((if_pos hon).trans (if_pos hd)), exec_standbyAbsent_armed hon, exec_autoReturn_due hon⟩
    case absent =>
      refine ⟨fun hx hy => ?_, fun hx hy => ?_, fun hx hy => ?_, fun hx hy => ?_⟩
      all_goals
        change execFeedAbsent f il mv s = _
        simp only [execFeedAbsent, hon, hf, Bool.and_self, if_true, pwr_causeRec, chg_markAbsent, swap_markAbsent,
          hx, hy]
        rfl
    case confirm =>
      refine ⟨fun hy => ?_, fun hy hu => ?_, fun hy hu => ?_⟩
      all_goals
        change execChangeoverConfirm s = _
        simp only [execChangeoverConfirm, hx, hon, hf, Bool.and_self, if_true, pwr_causeRec, bump_pwr, swap_closeFeed,
          swap_endChg, hy]
      · rfl
      · exact congrArg finish (if_neg hu)
      · exact congrArg finish (if_pos hu)
  case timeout =>
    refine ⟨fun hfail => ?_, fun hplanned hf => ⟨fun hy => ?_, fun hy => ?_⟩⟩
    all_goals
      change execChangeoverTimeout s = _
      rw [execChangeoverTimeout, hx]
      dsimp only
    · refine congrArg finish (if_neg ?_)
      rw [Bool.and_eq_true, Bool.not_eq_true']
      rintro ⟨hplanned, hf⟩
      obtain hforced | hgone := hfail
      · exact Bool.false_ne_true (hplanned.symm.trans hforced)
      · exact Bool.false_ne_true (hgone.symm.trans hf)
    all_goals
      rw [if_pos (by rw [hplanned, hf]; rfl)]
      simp only [pwr_addRec, swap_closeFeed, setB_pwr, swap_endChg, at_pwr, hy]
      rfl
  case dwell =>
    change execSwapDwellEnd vmin iin il s = _
    simp only [execSwapDwellEnd, hy, hx, ht]
    rfl

end Sys2Proof.Proofs
end

section
/-!
SUPPORT. The end of every command is a safe state (R90, R306, R394, R396, R411, R485, R582): no write of `settle` that
follows a level reaches the level or what it is derived from.
-/

namespace Sys2Proof.Proofs

open Sys2Proof Sys2Proof.Machine Sys2Proof.Laws Sys2Proof.Safety

theorem same_refl (s : State) : Same s s := ⟨fun _ _ => rfl, rfl, rfl, rfl⟩

/-! ## Safe conditions that a change of other words keeps -/

section
variable {s t : State} (h : Same s t)
include h

theorem pwmSafe_of_same (hctl : t.word 0x20050 = s.word 0x20050) (hsafe : t.word 0x30080 = s.word 0x30080)
    (hs : PwmSafe s) : PwmSafe t := by
  unfold PwmSafe State.st
  rw [h.pwmRequest, h.matrixClear, h.1 F.SYS_STATE_STATE (by decide), flag_congr (f := F.CTL_STATUS_PWM_EN) hctl,
    flag_congr (f := F.CTL_STATUS_CLOSED) hctl, flag_congr (f := F.SAFE_STATUS_PWM_EN_REQ) hsafe]
  exact hs

theorem lowSidesSafe_of_same (hkon : t.word 0x31004 = s.word 0x31004) (hs : LowSidesSafe s) : LowSidesSafe t := by
  intro c hc hon
  rw [h.lowSideOk]
  exact hs c hc ((flag_congr (f := konLs c) hkon).symm.trans hon)

theorem safeOkTrue_of_same (hsafe : t.word 0x30080 = s.word 0x30080) (hs : SafeOkTrue s) : SafeOkTrue t := by
  unfold SafeOkTrue
  rw [h.safeOk, flag_congr (f := F.SAFE_STATUS_SAFE_OK) hsafe]
  exact hs

end

/-! ## The outputs of the ZSL and of SP -/

/-- The low sides are settled one after another; settling one keeps the others and the condition of all (R411). -/
theorem lowSidesSafe_settleLows (s : State) : LowSidesSafe (settleLow 2 (settleLow 1 (settleLow 0 s))) := by
  have h0 : Same s (settleLow 0 s) := same_settleLow 0 (by decide) s
  have h1 := h0.trans (same_settleLow 1 (by decide) (settleLow 0 s))
  have h2 := h1.trans (same_settleLow 2 (by decide) (settleLow 1 (settleLow 0 s)))
  intro c hc hon
  rw [h2.lowSideOk]
  obtain rfl | rfl | rfl : c = 0 ∨ c = 1 ∨ c = 2 := by omega
  · rw [settleLow_other 2 0 (by decide) (by decide) (by decide),
      settleLow_other 1 0 (by decide) (by decide) (by decide)] at hon
    exact settleLow_own 0 (by decide) s hon
  · rw [settleLow_other 2 1 (by decide) (by decide) (by decide)] at hon
    rw [← h0.lowSideOk]
    exact settleLow_own 1 (by decide) _ hon
  · rw [← h1.lowSideOk]
    exact settleLow_own 2 (by decide) _ hon

/-- The loop opens where PWM_EN may not be high (R306). -/
def loopSettled (s : State) : State := if pwmRequest s && matrixClear s then s else loopOpen 0x01 s

theorem same_loopSettled (s : State) : Same s (loopSettled s) := by
  unfold loopSettled
  split
  · exact same_refl s
  · exact same_loopOpen _ s

theorem word_loopSettled (s : State) {a : Nat} (ha : a / 0x1000 ∉ loopBlocks) : (loopSettled s).word a = s.word a := by
  unfold loopSettled
  split
  · rfl
  · exact SameOutside_loopOpen _ s a ha

/-- A loop that is closed then may be closed. -/
theorem closed_loopSettled {s : State} (h : (loopSettled s).flag F.CTL_STATUS_CLOSED = true) :
    (pwmRequest (loopSettled s) && matrixClear (loopSettled s)) = true := by
  unfold loopSettled at h ⊢
  split at h
  case isTrue hmay => rw [if_pos hmay, hmay]
  case isFalse => exact absurd ((closed_loopOpen 0x01 s).symm.trans h) (by decide)

/-- SP's request and both heartbeats (R39, R394). -/
def requestShown (s : State) : State :=
  (s.setB F.SAFE_STATUS_PWM_EN_REQ (pwmRequest s)).setB F.SAFE_STATUS_HB_OK (s.safe.spBeat && s.safe.zslBeat)

/-- PWM_EN as the ZSL drives it (R394). -/
def pwmShown (s : State) : State := s.setB F.CTL_STATUS_PWM_EN (pwmRequest s && matrixClear s)

/-- SAFE_OK (R396). -/
def okShown (s : State) : State := s.setB F.SAFE_STATUS_SAFE_OK (safeOk s)

theorem settleSafe_eq (s : State) : settleSafe s = okShown (pwmShown (requestShown (loopSettled
    (settleLow 2 (settleLow 1 (settleLow 0
      ((s.setB (siDemandFld 0) (siDemanding s 0)).setB (siDemandFld 1) (siDemanding s 1)))))))) := rfl

theorem same_requestShown (s : State) : Same s (requestShown s) :=
  (same_setB s _ _ (by decide) (by decide)).trans (same_setB _ _ _ (by decide) (by decide))

theorem same_pwmShown (s : State) : Same s (pwmShown s) := same_setB s _ _ (by decide) (by decide)

theorem same_okShown (s : State) : Same s (okShown s) := same_setB s _ _ (by decide) (by decide)

/-- PWM_EN follows its request and the matrix once the loop has opened where it must (R306, R394). -/
theorem pwmSafe_shown {s : State} (h : s.flag F.CTL_STATUS_CLOSED = true → (pwmRequest s && matrixClear s) = true) :
    PwmSafe (okShown (pwmShown (requestShown s))) := by
  have hreq := same_requestShown s
  have hpwm := same_pwmShown (requestShown s)
  have hall := (hreq.trans hpwm).trans (same_okShown (pwmShown (requestShown s)))
  have hen : (okShown (pwmShown (requestShown s))).flag F.CTL_STATUS_PWM_EN = (pwmRequest s && matrixClear s) := by
    unfold okShown
    rw [flag_setB_apart _ _ _ _ (by decide), pwmShown, flag_setB_same _ _ _ (by decide) (by decide), hreq.pwmRequest,
      hreq.matrixClear]
  have hclosed : (okShown (pwmShown (requestShown s))).flag F.CTL_STATUS_CLOSED = s.flag F.CTL_STATUS_CLOSED := by
    simp (disch := decide) only [okShown, pwmShown, requestShown, flag_setB_apart]
  have hrequest : (okShown (pwmShown (requestShown s))).flag F.SAFE_STATUS_PWM_EN_REQ = pwmRequest s := by
    simp (disch := decide) only [okShown, pwmShown, requestShown, flag_setB_apart, flag_setB_same]
  have hst : (okShown (pwmShown (requestShown s))).st = s.st := hall.1 F.SYS_STATE_STATE (by decide)
  refine ⟨?_, fun hc => ?_, fun hr => ?_⟩
  · rw [hen, hall.pwmRequest, hall.matrixClear]
  · rw [hen]
    exact h (hclosed.symm.trans hc)
  · rw [hrequest] at hr
    rw [hst]
    simp only [pwmRequest, Bool.and_eq_true, Bool.or_eq_true, beq_iff_eq] at hr
    obtain ⟨⟨⟨⟨hstate, -⟩, -⟩, -⟩, -⟩ := hr
    exact hstate

theorem safeOkTrue_okShown (s : State) : SafeOkTrue (okShown s) := by
  unfold SafeOkTrue
  rw [(same_okShown s).safeOk]
  exact flag_setB_same _ _ _ (by decide) (by decide)

/-- The outputs of the ZSL and of SP are no more than their conditions allow. -/
theorem outputs_settleSafe (s : State) :
    PwmSafe (settleSafe s) ∧ LowSidesSafe (settleSafe s) ∧ SafeOkTrue (settleSafe s) := by
  rw [settleSafe_eq]
  generalize (s.setB (siDemandFld 0) (siDemanding s 0)).setB (siDemandFld 1) (siDemanding s 1) = u
  refine ⟨pwmSafe_shown closed_loopSettled, ?_, safeOkTrue_okShown _⟩
  generalize hlow : settleLow 2 (settleLow 1 (settleLow 0 u)) = low
  have hsame := (((same_loopSettled low).trans (same_requestShown _)).trans (same_pwmShown _)).trans (same_okShown _)
  refine lowSidesSafe_of_same hsame ?_ (hlow ▸ lowSidesSafe_settleLows u)
  have shown (x : State) : (okShown (pwmShown (requestShown x))).word 0x31004 = x.word 0x31004 := by
    simp (disch := decide) only [okShown, pwmShown, requestShown, State.setB, word_set_other]
  exact (shown _).trans (word_loopSettled low (by decide))

/-! ## The counts and the interrupt line -/

theorem word_settleCounts_other (s : State) {a : Nat} (ha : a ∉ [0x2000, 0x50000, 0x5000C, 0x52000]) :
    (settleCounts s).word a = s.word a := by
  have other {f : Fld} (v : Nat) (t : State) (hf : f.addr ∈ [0x2000, 0x50000, 0x5000C, 0x52000]) :
      (t.set f v).word a = t.word a := word_set_other _ _ _ _ (fun e => ha (e ▸ hf))
  unfold settleCounts
  simp (disch := decide) only [other]

theorem word_settleInt_other (s : State) {a : Nat} (ha : a ≠ 0x1000) : (settleInt s).word a = s.word a :=
  word_set_other s F.INT_SUMMARY_GROUP (summary s) a ha

/-- The counts of queue slots, sessions and buffered records (R485, R582). -/
theorem countsTrue_settleCounts (s : State) : CountsTrue (settleCounts s) := by
  unfold CountsTrue settleCounts
  simp (disch := decide) only [get_set_apart, get_set_same, set_cmd, set_evr]
  exact ⟨rfl, rfl, rfl, rfl⟩

theorem countsTrue_settleInt {s : State} (h : CountsTrue s) : CountsTrue (settleInt s) := by
  have hget {f : Fld} (hf : f.addr ≠ 0x1000) : (settleInt s).get f = s.get f := get_congr (word_settleInt_other s hf)
  unfold CountsTrue
  rw [hget (by decide), hget (by decide), hget (by decide), hget (by decide)]
  exact h

theorem bitsOf_lt (l : List Bool) : bitsOf l < 2 ^ l.length := by
  induction l with
  | nil => decide
  | cons b l ih =>
    have hb : b2n b ≤ 1 := by cases b <;> decide
    rw [bitsOf, List.length_cons, Nat.pow_succ]
    omega

/-- INT_SUMMARY and nIRQ: neither is computed from itself (R90, R91). -/
theorem irqTrue_settleInt (s : State) : IrqTrue (settleInt s) := by
  have hcause (g : Nat) : (settleInt s).get (F.INT_CAUSE_CAUSE g) = s.get (F.INT_CAUSE_CAUSE g) :=
    get_congr (word_settleInt_other s (by show 0x1100 + 8 * g ≠ 0x1000; omega))
  have hmask (g : Nat) : (settleInt s).get (F.INT_MASK_MASK g) = s.get (F.INT_MASK_MASK g) :=
    get_congr (word_settleInt_other s (by show 0x1104 + 8 * g ≠ 0x1000; omega))
  have hsum : summary (settleInt s) = summary s := by
    unfold summary unmasked
    simp only [hcause, hmask]
  have hlt : summary s < 2 ^ 16 := (bitsOf_lt _).trans_eq (by rw [List.length_map, List.length_range])
  refine ⟨?_, rfl⟩
  rw [hsum]
  exact (get_set_same s F.INT_SUMMARY_GROUP _ (by decide)).trans (Nat.mod_eq_of_lt hlt)

/-! ## The safe end -/

theorem safe_settle (s : State) : Safe (settle s) := by
  obtain ⟨hpwm, hlow, hok⟩ := outputs_settleSafe s
  have hsame := (same_settleCounts (settleSafe s)).trans (same_settleInt (settleCounts (settleSafe s)))
  have hword {a : Nat} (ha : a ∉ [0x2000, 0x50000, 0x5000C, 0x52000]) (h0 : a ≠ 0x1000) :
      (settle s).word a = (settleSafe s).word a :=
    (word_settleInt_other _ h0).trans (word_settleCounts_other _ ha)
  exact ⟨pwmSafe_of_same hsame (hword (by decide) (by decide)) (hword (by decide) (by decide)) hpwm,
    lowSidesSafe_of_same hsame (hword (by decide) (by decide)) hlow,
    safeOkTrue_of_same hsame (hword (by decide) (by decide)) hok, irqTrue_settleInt _,
    countsTrue_settleInt (countsTrue_settleCounts _)⟩

/-- Every meaning ends in `finish`. -/
theorem exec_finishes (c : Instr) (s : State) : ∃ t, exec c s = finish t := by
  cases c <;> exact ⟨_, rfl⟩

/-- Settles O2: every meaning ends in `settle`, whose result is safe. -/
theorem everyCommandCompletesSafe : Obligations.EveryCommandCompletesSafe := by
  unfold Obligations.EveryCommandCompletesSafe
  intro c s
  obtain ⟨t, ht⟩ := exec_finishes c s
  exact ⟨settle t, ht.trans (finish_next t), safe_settle t⟩

/-- Settles O3: an idle step keeps the state, and any other step runs a command. -/
theorem stepKeepsSafe : Obligations.StepKeepsSafe := by
  unfold Obligations.StepKeepsSafe
  intro s t hs hstep
  unfold step at hstep
  split at hstep
  case h_1 =>
    cases hstep
    exact hs
  case h_2 i rest _ =>
    obtain ⟨u, hu, hsafe⟩ := everyCommandCompletesSafe i { s with pending := rest }
    cases hu.symm.trans hstep
    exact hsafe

/-! ## The reset state -/

/-- BOOT asks for no PWM_EN (R394). -/
theorem pwmRequest_reset : pwmRequest State.reset = false := by
  unfold pwmRequest
  rw [reset_st]
  rfl

/-- No cause is latched by the Reset columns. -/
theorem summary_reset : summary State.reset = 0 := by decide

theorem pwmSafe_reset : PwmSafe State.reset := by
  unfold PwmSafe
  rw [pwmRequest_reset]
  exact ⟨by decide, by decide, by decide⟩

/-- The Reset columns turn every low side off (R411). -/
theorem lowSidesSafe_reset : LowSidesSafe State.reset := by
  have hoff : ∀ c, c < 3 → State.reset.flag (konLs c) = false := by decide
  intro c hc hon
  exact absurd ((hoff c hc).symm.trans hon) (by decide)

theorem safeOkTrue_reset : SafeOkTrue State.reset := by
  unfold SafeOkTrue
  decide

/-- Settles O4: the Reset columns show every output off, no cause and no count; after a reset SAFE_OK agrees with its
latches and demands. -/
theorem resetIsSafe : Obligations.ResetIsSafe := by
  unfold Obligations.ResetIsSafe
  exact ⟨pwmSafe_reset, lowSidesSafe_reset, safeOkTrue_reset, ⟨by rw [summary_reset]; decide, by decide⟩, by decide,
    by decide, by decide, by decide⟩

end Sys2Proof.Proofs
end

section
/-!
SUPPORT. The register file and its words (R67, R71, R72): what a write keeps of the canonical form, what a read clears,
and that no bit is both cleared by reads and changed by writes.
-/

namespace Sys2Proof.Proofs

open Sys2Proof Sys2Proof.Machine Sys2Proof.Laws

/-! ## Canonical form -/

/-- A sparse table lists its keys in rising order. -/
def Rising {α : Type} (t : List (Nat × α)) : Prop := (t.map (·.1)).Pairwise (· < ·)

theorem rising_cons {α : Type} {e : Nat × α} {t : List (Nat × α)} :
    Rising (e :: t) ↔ (∀ d ∈ t, e.1 < d.1) ∧ Rising t := by
  simp [Rising]

theorem mem_tabSet {α : Type} {t : List (Nat × α)} {k : Nat} {x : α} {e : Nat × α} (h : e ∈ tabSet t k x) :
    e = (k, x) ∨ e ∈ t := by
  induction t with
  | nil => exact .inl (List.mem_singleton.1 h)
  | cons d t ih =>
    simp only [tabSet] at h
    split at h
    case isTrue => exact List.mem_cons.1 h
    case isFalse =>
      split at h
      case isTrue => exact (List.mem_cons.1 h).imp_right (List.mem_cons_of_mem _)
      case isFalse =>
        obtain rfl | h := List.mem_cons.1 h
        · exact .inr (List.mem_cons_self ..)
        · exact (ih h).imp_right (List.mem_cons_of_mem _)

theorem rising_tabSet {α : Type} {t : List (Nat × α)} (k : Nat) (x : α) (h : Rising t) : Rising (tabSet t k x) := by
  induction t with
  | nil => simp [tabSet, Rising]
  | cons d t ih =>
    obtain ⟨hlow, ht⟩ := rising_cons.1 h
    simp only [tabSet]
    split
    case isTrue hk =>
      refine rising_cons.2 ⟨fun e he => ?_, h⟩
      obtain rfl | he := List.mem_cons.1 he
      · exact hk
      · exact hk.trans (hlow e he)
    case isFalse hk =>
      split
      case isTrue heq => exact rising_cons.2 ⟨fun e he => heq ▸ hlow e he, ht⟩
      case isFalse hne =>
        refine rising_cons.2 ⟨fun e he => ?_, ih ht⟩
        obtain rfl | he := mem_tabSet he
        · change d.1 < k
          omega
        · exact hlow e he

theorem rising_tabDel {α : Type} {t : List (Nat × α)} (k : Nat) (h : Rising t) : Rising (tabDel t k) :=
  List.Pairwise.sublist (List.filter_sublist.map _) h

/-- Settles O8: a word at its reset value leaves the list, any other takes its place by address. -/
theorem registerFileStaysCanonical : Obligations.RegisterFileStaysCanonical := by
  unfold Obligations.RegisterFileStaysCanonical
  intro rf a w ⟨hrising, hlisted⟩
  unfold rfSet
  split
  case isTrue => exact ⟨rising_tabDel a hrising, fun e he => hlisted e (List.mem_of_mem_filter he)⟩
  case isFalse hw =>
    refine ⟨rising_tabSet a w hrising, fun e he => ?_⟩
    obtain rfl | he := mem_tabSet he
    · exact hw
    · exact hlisted e he

/-! ## Bits that reads clear and bits that writes change -/

/-- The bits of a register's words with an access code. -/
def regMask (c : Access) (r : Reg) : Word := r.flds.foldl (fun m f => if f.code = c then m ||| fdMask f else m) 0

/-- The bits of a register's words that a write may change. -/
def regWritable (r : Reg) : Word := regMask .rw r ||| regMask .w1 r ||| regMask .ws r ||| regMask .wp r

theorem codeMask_of_findReg {a : Nat} {r : Reg} (h : findReg a = some r) (c : Access) : codeMask c a = regMask c r := by
  simp only [codeMask, h, regMask]

theorem codeMask_of_unlisted {a : Nat} (h : findReg a = none) (c : Access) : codeMask c a = 0 := by
  simp only [codeMask, h]

/-- In no register table does an RC field share a bit with a field that a write may change. -/
theorem regMask_rc_and_regWritable (a : Nat) : ∀ r ∈ blockRegs a, regMask .rc r &&& regWritable r = 0 := by
  unfold blockRegs
  split <;> decide +kernel

/-- No RC bit is one that a write may change (R71, R72). -/
theorem rc_and_writable (a : Nat) : codeMask .rc a &&& writable a = 0 := by
  cases h : findReg a with
  | none =>
    rw [codeMask_of_unlisted h]
    exact BitVec.zero_and
  | some r =>
    simp only [writable, codeMask_of_findReg h]
    exact regMask_rc_and_regWritable a r (List.mem_of_find?_eq_some h)

/-! ## Reads -/

theorem readWord_of_block {a : Nat} (ha : a < 0x100000) (s : State) : readWord a s = readBlock a 0xFFFFFFFF s := by
  have hspace : isAlias a = false := by
    unfold isAlias
    exact decide_eq_false (by omega)
  rw [readWord, hspace, if_neg Bool.false_ne_true, if_neg (by omega)]

theorem readLatch_other {a : Nat} (ha : a ≠ 0x44080) (s : State) : readLatch a s = s := if_neg ha

theorem and_allOnes32 (w : Word) : w &&& 0xFFFFFFFF = w := BitVec.and_allOnes

/-- A whole word that is read clears the RC bits it returns as 1 (R72). -/
theorem readBlock_word {a : Nat} (ha : a ≠ 0x44080) (b : Nat) (s : State) :
    (readBlock a 0xFFFFFFFF s).1.word b =
      if b = a then s.word a &&& ~~~(codeMask .rc a &&& (readBlock a 0xFFFFFFFF s).2) else s.word b := by
  simp only [readBlock, readLatch_other ha, and_allOnes32]
  split
  case isTrue hrc =>
    split
    case isTrue hb =>
      rw [hrc, hb]
      exact (and_allOnes32 _).symm
    case isFalse => rfl
  case isFalse => exact word_setWord s a b _

/-- A write that names no bit a write may change has no effect, the commit words apart. -/
theorem writeBlock_unwritable {p : Path} {a : Nat} {mask w : Word} {s : State} (hc : commitBlock a = none)
    (hw : writable a &&& mask = 0) : writeBlock p a mask w s = (s, .ok) := by
  simp only [writeBlock, hc, hw, if_true]

/-- Settles O13: a read of a word of the blocks is `readBlock`, and the register tables keep RC bits
apart from those that writes change. -/
theorem readClearsWhatItReturns : Obligations.ReadClearsWhatItReturns := by
  unfold Obligations.ReadClearsWhatItReturns
  refine ⟨fun a s ha htime => ?_, rc_and_writable, fun p a mask w s hc hw => writeBlock_unwritable hc hw⟩
  rw [readWord_of_block ha]
  exact ⟨(readBlock_word htime a s).trans (if_pos rfl), fun b hb => (readBlock_word htime b s).trans (if_neg hb)⟩

end Sys2Proof.Proofs
end

section
/-!
SUPPORT. Commits and discards of a shadow (R78, R80): what each test of a commit word answers, and what a rejection and
a discard change.
-/

namespace Sys2Proof.Proofs

open Sys2Proof Sys2Proof.Machine Sys2Proof.Laws

/-! ## Rejections and discards -/

/-- A cause that latches changes the word of its group alone (R90). -/
theorem word_raise_other (c : Cause) (s : State) {a : Nat} (ha : a ≠ (F.INT_CAUSE_CAUSE c.g).addr) :
    (raise c s).word a = s.word a := word_set_other s _ _ a ha

theorem word_rejectCommit_other (b : Block) (k : Nat) (s : State) {a : Nat} (hsh : a ≠ commitAddr b + 4)
    (hc : a ≠ (F.INT_CAUSE_CAUSE 1).addr) : (rejectCommit b k s).word a = s.word a :=
  (word_raise_other C.COMMIT_REJECT _ hc).trans (word_set_other s (shRej b) k a hsh)

/-- The shadow word of a block, TOKEN to REJ_CAUSE, holds no cause. -/
theorem shadowStatus_ne_cause (b : Block) (g : Nat) (hg : g < 16) : commitAddr b + 4 ≠ (F.INT_CAUSE_CAUSE g).addr := by
  change commitAddr b + 4 ≠ 0x1100 + 8 * g
  cases b <;> simp only [commitAddr] <;> omega

theorem get_rejectCommit (b : Block) (k : Nat) (s : State) {f : Fld} (hf : f.addr = commitAddr b + 4) :
    (rejectCommit b k s).get f = (s.set (shRej b) k).get f :=
  get_congr (word_raise_other C.COMMIT_REJECT _ (hf ▸ shadowStatus_ne_cause b 1 (by decide)))

theorem apart_of_addr {f g : Fld} (h : f.lo + f.n ≤ g.lo ∨ g.lo + g.n ≤ f.lo) : apart f g = true := by
  obtain h | h := h <;> simp [apart, h]

/-- A rejection names its cause and leaves TOKEN (R80). -/
theorem fields_rejectCommit (b : Block) {k : Nat} (hk : k < 16) (s : State) :
    (rejectCommit b k s).get (shToken b) = s.get (shToken b) ∧ (rejectCommit b k s).get (shRej b) = k := by
  rw [get_rejectCommit b k s rfl, get_rejectCommit b k s rfl]
  refine ⟨get_set_apart s (shRej b) (shToken b) k (apart_of_addr (.inr (by decide : 0 + 16 ≤ 24))), ?_⟩
  exact (get_set_same s (shRej b) k (by decide : 24 + 4 ≤ 32)).trans (Nat.mod_eq_of_lt hk)

/-- A discard empties the shadow of its block alone. -/
theorem mem_shadow_discardNow (b : Block) (s : State) (e : Nat × Word) :
    e ∈ (discardNow b s).shadow ↔ e ∈ s.shadow ∧ blockOf e.1 ≠ some b := by
  change e ∈ s.shadow.filter _ ↔ _
  rw [List.mem_filter, bne_iff_ne]

theorem word_discardShadow (b : Block) (s : State) (a : Nat) :
    (discardShadow b s).word a = (s.setB (shPending b) false).word a := rfl

theorem regs_discardNow (b : Block) (s : State) :
    (discardNow b s).regs = ((discardShadow b s).bump (shToken b) 1).regs := rfl

theorem token_discardShadow (b : Block) (s : State) : (discardShadow b s).get (shToken b) = s.get (shToken b) := by
  rw [get_congr (word_discardShadow b s _), State.setB,
    get_set_apart _ (shPending b) (shToken b) _ (apart_of_addr (.inr (by decide : 0 + 16 ≤ 16)))]

/-- A discard counts TOKEN (R78). -/
theorem token_discardNow (b : Block) (s : State) :
    (discardNow b s).get (shToken b) = (s.get (shToken b) + 1) % 65536 := by
  rw [get_congr (word_of_regs (regs_discardNow b s) _), State.bump,
    get_set_same _ (shToken b) _ (by decide : 0 + 16 ≤ 32), token_discardShadow]
  rfl

/-! ## The tests of R80, in their order -/

section
variable {b : Block} {p : Path} {v : Word} {s : State}

theorem commitWrite_key (h5A : fieldOf v 24 8 ≠ 0x5A) (hD1 : fieldOf v 24 8 ≠ 0xD1) :
    commitWrite b p v s = (rejectCommit b 2 s, .range) := if_pos ⟨h5A, hD1⟩

variable (hkey : fieldOf v 24 8 = 0x5A ∨ fieldOf v 24 8 = 0xD1)
include hkey

theorem commitWrite_pending (hp : s.flag (shPending b) = true) :
    commitWrite b p v s = (rejectCommit b 6 s, .busy 100) :=
  (if_neg (by omega)).trans (if_pos hp)

variable (hp : s.flag (shPending b) = false)
include hp

theorem commitWrite_token (ht : fieldOf v 0 16 ≠ s.get (shToken b)) :
    commitWrite b p v s = (rejectCommit b 1 s, .incons 0) :=
  (if_neg (by omega)).trans ((if_neg (by rw [hp]; decide)).trans (if_pos ht))

end

section
variable {b : Block} {p : Path} {v : Word} {s : State} (hp : s.flag (shPending b) = false)
  (ht : fieldOf v 0 16 = s.get (shToken b))
include hp ht

theorem commitWrite_discard (hkey : fieldOf v 24 8 = 0xD1) : commitWrite b p v s = (discardNow b s, .ok) := by
  simp [commitWrite, hkey, hp, ht]

variable (hkey : fieldOf v 24 8 = 0x5A)
include hkey

theorem commitWrite_auth (ha : commitAuth b p s = false) : commitWrite b p v s = (rejectCommit b 4 s, .auth) := by
  simp [commitWrite, hkey, hp, ht, ha]

variable (ha : commitAuth b p s = true)
include ha

theorem commitWrite_state {r : WRes} (hst : blockState b s = some r) :
    commitWrite b p v s = (rejectCommit b 5 s, r) := by
  simp [commitWrite, hkey, hp, ht, ha, hst]

variable (hst : blockState b s = none)
include hst

theorem commitWrite_checks (hc : blockChecks b s = false) :
    commitWrite b p v s = (rejectCommit b 3 s, .incons 0) := by
  simp [commitWrite, hkey, hp, ht, ha, hst, hc]

theorem commitWrite_accept (hc : blockChecks b s = true) :
    commitWrite b p v s = (acceptCommit b (Path.origin p) s, .ok) := by
  simp [commitWrite, hkey, hp, ht, ha, hst, hc]

end

/-- Settles O31: each test of R80 that fails rejects with its cause, and a rejection changes REJ_CAUSE and its interrupt
cause alone. -/
theorem commitIsTestedInOrder : Obligations.CommitIsTestedInOrder := by
  unfold Obligations.CommitIsTestedInOrder
  intro b p v s
  have rejected {k : Nat} {r : WRes} (hk : k < 16) (h : commitWrite b p v s = (rejectCommit b k s, r)) :
      commitWrite b p v s = (rejectCommit b k s, r) ∧ (rejectCommit b k s).shadow = s.shadow ∧
        (rejectCommit b k s).get (shToken b) = s.get (shToken b) ∧ (rejectCommit b k s).get (shRej b) = k ∧
        (∀ a, a ≠ commitAddr b + 4 → a ≠ (F.INT_CAUSE_CAUSE 1).addr → (rejectCommit b k s).word a = s.word a) := by
    obtain ⟨htoken, hrej⟩ := fields_rejectCommit b hk s
    exact ⟨h, rfl, htoken, hrej, fun a => word_rejectCommit_other b k s⟩
  refine ⟨fun h5A hD1 => rejected (by decide) (commitWrite_key h5A hD1), fun hkey => ⟨fun hp => ?pending, fun hp =>
    ⟨fun ht => ?token, fun ht => ⟨fun hD1 => ?discard, fun h5A => ⟨fun ha => ?auth, fun ha => ⟨fun r hst => ?state,
      fun hst => ⟨fun hc => ?checks, fun hc => ?accept⟩⟩⟩⟩⟩⟩⟩
  case pending => exact rejected (by decide) (commitWrite_pending hkey hp)
  case token => exact rejected (by decide) (commitWrite_token hkey hp ht)
  case discard =>
    rw [commitWrite_discard hp ht hD1]
    exact ⟨rfl, token_discardNow b s, mem_shadow_discardNow b s⟩
  case auth => exact rejected (by decide) (commitWrite_auth hp ht h5A ha)
  case state => exact rejected (by decide) (commitWrite_state hp ht h5A ha hst)
  case checks => exact rejected (by decide) (commitWrite_checks hp ht h5A ha hst hc)
  case accept => exact commitWrite_accept hp ht h5A ha hst hc

end Sys2Proof.Proofs
end

section
/-!
SUPPORT. No latched cause is lost by a record, a reply, the opening of the loop or the end of a command (R90): causes
are only ever added, and everything else those change lies outside the cause words.
-/

namespace Sys2Proof.Proofs

open Sys2Proof Sys2Proof.Machine Sys2Proof.Laws

/-- Every cause latched in the first state is latched in the second. -/
def KeepsCauses (s t : State) : Prop :=
  ∀ g b, g < 16 → bitOf (s.word (F.INT_CAUSE_CAUSE g).addr) b = true →
    bitOf (t.word (F.INT_CAUSE_CAUSE g).addr) b = true

theorem keepsCauses_refl (s : State) : KeepsCauses s s := fun _ _ _ hb => hb

section
variable {s t u : State} (h : KeepsCauses s t)
include h

theorem keepsCauses_of_regs (hr : u.regs = t.regs) : KeepsCauses s u := fun g b hg hb => by
  rw [word_of_regs hr]
  exact h g b hg hb

theorem keepsCauses_with_cmd (x : Cmd) : KeepsCauses s { t with cmd := x } := h
theorem keepsCauses_with_evr (x : Evr) : KeepsCauses s { t with evr := x } := h
theorem keepsCauses_with_eis (x : Eis) : KeepsCauses s { t with eis := x } := h
theorem keepsCauses_with_ctl (x : Ctl) : KeepsCauses s { t with ctl := x } := h
theorem keepsCauses_with_disp (x : Disp) : KeepsCauses s { t with disp := x } := h
theorem keepsCauses_send (x : Out) : KeepsCauses s (t.send x) := h

theorem keepsCauses_set (f : Fld) (v : Nat) (hf : f.addr < 0x1100 ∨ 0x1180 ≤ f.addr) : KeepsCauses s (t.set f v) :=
  fun g b hg hb => by
    rw [word_set_other t f v _ (by change 0x1100 + 8 * g ≠ f.addr; omega)]
    exact h g b hg hb

theorem keepsCauses_setB (f : Fld) (b : Bool) (hf : f.addr < 0x1100 ∨ 0x1180 ≤ f.addr) : KeepsCauses s (t.setB f b) :=
  keepsCauses_set h f _ hf

theorem keepsCauses_bump (f : Fld) (k : Nat) (hf : f.addr < 0x1100 ∨ 0x1180 ≤ f.addr) :
    KeepsCauses s (t.bump f k) := keepsCauses_set h f _ hf

/-- A cause that latches leaves its group's other causes latched. -/
theorem keepsCauses_raise (c : Cause) : KeepsCauses s (raise c t) := fun g b hg hb => by
  have hold := h g b hg hb
  by_cases ha : (F.INT_CAUSE_CAUSE g).addr = (F.INT_CAUSE_CAUSE c.g).addr
  · have hword : (raise c t).word (F.INT_CAUSE_CAUSE g).addr = withField (t.word (F.INT_CAUSE_CAUSE g).addr) 0 8
        (fieldOf (t.word (F.INT_CAUSE_CAUSE g).addr) 0 8 ||| 2 ^ c.b) := by
      rw [ha]
      exact (word_setWord t _ _ _).trans (if_pos rfl)
    have hb32 : b < 32 := Nat.lt_of_not_le (fun hge => by
      rw [bitOf, BitVec.getLsbD_of_ge _ _ hge] at hold
      exact absurd hold (by decide))
    rw [hword, bitOf, getLsbD_withField _ _ _ _ _ hb32]
    split
    case isTrue hlow =>
      rw [Nat.testBit_or, testBit_fieldOf, Nat.zero_add, Nat.sub_zero, decide_eq_true (by omega), Bool.true_and,
        show (t.word (F.INT_CAUSE_CAUSE g).addr).getLsbD b = true from hold, Bool.true_or]
    case isFalse => exact hold
  · have hword : (raise c t).word (F.INT_CAUSE_CAUSE g).addr = t.word (F.INT_CAUSE_CAUSE g).addr :=
      word_set_other t _ _ _ ha
    rw [hword]
    exact hold

/-! ## Records -/

theorem keepsCauses_countDrop (n : Nat) : KeepsCauses s (countDrop n t) := by
  have counted : KeepsCauses s (t.bump (F.EVR_DROP_VALUE n) 1) :=
    keepsCauses_bump h _ _ (.inr (by change 0x1180 ≤ 0x50010 + 4 * n; omega))
  unfold countDrop
  dsimp only
  split
  · exact keepsCauses_raise (keepsCauses_with_evr counted _) _
  · exact keepsCauses_with_evr counted _

theorem keepsCauses_enterRec (r : Rec) : KeepsCauses s (enterRec r t) := by
  unfold enterRec
  split
  · exact keepsCauses_with_evr h _
  · split
    · exact keepsCauses_countDrop (keepsCauses_with_evr h _) _
    · exact keepsCauses_countDrop h _

theorem keepsCauses_addRec (a b c : Nat) (p : List Byte) : KeepsCauses s (addRec a b c p t) :=
  keepsCauses_enterRec h _

theorem keepsCauses_causeRec (c : Cause) (n : Nat) (p : List Byte) : KeepsCauses s (causeRec c n p t) :=
  keepsCauses_addRec (keepsCauses_raise h c) _ _ _ _

/-! ## Replies -/

theorem keepsCauses_mboxFill (p : List Byte) : KeepsCauses s (mboxFill p t) := by
  unfold mboxFill
  have filled := keepsCauses_set (keepsCauses_with_cmd h { t.cmd with mboxRsp := p }) F.CMD_MBOX_RSP_LEN p.length
    (by decide)
  exact keepsCauses_raise (keepsCauses_setB filled _ _ (by decide)) _

theorem keepsCauses_mboxReply (p : List Byte) : KeepsCauses s (mboxReply p t) := by
  unfold mboxReply
  refine keepsCauses_mboxFill (keepsCauses_setB ?_ _ _ (by decide)) _
  split
  · exact keepsCauses_setB h _ _ (by decide)
  · exact h

theorem keepsCauses_mboxNotify (p : List Byte) : KeepsCauses s (mboxNotify p t) := by
  unfold mboxNotify
  split
  · split
    · split
      · exact keepsCauses_with_cmd h _
      · exact keepsCauses_mboxFill (keepsCauses_setB (keepsCauses_with_cmd h _) _ _ (by decide)) _
    · exact keepsCauses_with_cmd h _
  · exact keepsCauses_mboxFill h _

theorem keepsCauses_transmit (c : Ctx) (n : Bool) (p : List Byte) : KeepsCauses s (transmit c n p t) := by
  unfold transmit
  split
  · exact keepsCauses_send h _
  · exact keepsCauses_with_cmd (keepsCauses_send h _) _
  · split
    · exact keepsCauses_mboxNotify h _
    · exact keepsCauses_mboxReply h _
  · split
    · exact keepsCauses_send h _
    · exact h

theorem keepsCauses_respond (c : Ctx) (n : Bool) (op st : Nat) (p : List Byte) :
    KeepsCauses s (respond c n op st p t) := by
  have kept : KeepsCauses s
      (if st = stAccepted then keepReply c st n p t else freeSlot c (keepReply c st n p t)) := by
    split
    · exact keepsCauses_of_regs h (regs_keepReply ..)
    · exact keepsCauses_of_regs h ((regs_freeSlot _ _).trans (regs_keepReply ..))
  unfold respond
  dsimp only
  generalize (if st = stAccepted then keepReply c st n p t else freeSlot c (keepReply c st n p t)) = x at kept ⊢
  split
  · exact keepsCauses_transmit kept _ _ _
  · unfold discardReply
    split
    · exact keepsCauses_setB kept _ _ (by decide)
    · exact kept

theorem keepsCauses_notifyOpt (c : Option Ctx) (op st : Nat) (p : List Byte) :
    KeepsCauses s (notifyOpt c op st p t) := by
  cases c
  · exact h
  · exact keepsCauses_respond h _ _ _ _ _

/-! ## The opening of the loop -/

theorem keepsCauses_foldl {α : Type} {f : State → α → State} (l : List α)
    (hf : ∀ {u : State}, KeepsCauses s u → ∀ x, KeepsCauses s (f u x)) : KeepsCauses s (l.foldl f t) := by
  induction l generalizing t with
  | nil => exact h
  | cons x l ih => exact ih (hf h x)

theorem keepsCauses_eisLanes (b : Bool) : KeepsCauses s (eisLanes b t) :=
  keepsCauses_foldl h _ (fun hu n => keepsCauses_setB hu (F.DSP_LANE_STATUS_EIS n) _
    (.inr (by change 0x1180 ≤ 0x15000 + 4 * n; omega)))

theorem keepsCauses_eisAbandon (n : Nat) : KeepsCauses s (eisAbandon n t) := by
  unfold eisAbandon
  split
  · exact h
  · dsimp only
    refine keepsCauses_notifyOpt (keepsCauses_addRec (keepsCauses_raise ?_ _) _ _ _ _) _ _ _ _
    refine keepsCauses_set (keepsCauses_set (keepsCauses_set (keepsCauses_set ?_ _ _ (by decide)) _ _ (by decide)) _ _
      (by decide)) _ _ (by decide)
    have lanes := keepsCauses_eisLanes (keepsCauses_with_eis h { t.eis with meas := none }) false
    split
    · exact keepsCauses_bump lanes _ _ (by decide)
    · exact lanes

theorem keepsCauses_pulseStop : KeepsCauses s (pulseStop t) := by
  unfold pulseStop
  split
  · exact h
  · exact keepsCauses_notifyOpt (keepsCauses_set (keepsCauses_with_eis h _) _ _ (by decide)) _ _ _ _

theorem keepsCauses_pulseCut : KeepsCauses s (pulseCut t) := by
  unfold pulseCut
  split
  · split
    · exact keepsCauses_pulseStop (keepsCauses_with_eis h _)
    · exact h
  · exact h

theorem keepsCauses_stepEnd (b : Bool) (r : Run) : KeepsCauses s (stepEnd b r t).2 := by
  have release {u : State} (hu : KeepsCauses s u) : KeepsCauses s (releasePolicy r u) := by
    unfold releasePolicy
    split
    · exact keepsCauses_setB (keepsCauses_set hu _ _ (by decide)) _ _ (by decide)
    · exact hu
  unfold stepEnd
  split
  · refine release ?_
    split
    · exact keepsCauses_addRec h _ _ _ _
    · exact h
  · exact h

theorem keepsCauses_publishGrades (n : Nat) : KeepsCauses s (publishGrades n t) :=
  keepsCauses_raise (keepsCauses_with_disp h _) _

theorem keepsCauses_recipeEnd (n : Nat) : KeepsCauses s (recipeEnd n t) := by
  unfold recipeEnd
  split
  · exact h
  · rename_i r _
    dsimp only
    refine keepsCauses_notifyOpt ?_ _ _ _ _
    have grades {u : State} (b : Bool) (m : Nat) (hu : KeepsCauses s u) :
        KeepsCauses s (if b then publishGrades m u else u) := by
      cases b
      · exact hu
      · exact keepsCauses_publishGrades hu m
    have cause {u : State} (l : List Byte) (hu : KeepsCauses s u) : KeepsCauses s
        (if n = 1 then raise C.RECIPE_DONE u else causeRec C.RECIPE_ABORT sevWarning l u) := by
      split
      · exact keepsCauses_raise hu _
      · exact keepsCauses_causeRec hu _ _ _
    have cut : KeepsCauses s (if r.req = 0 then t else pulseCut t) := by
      split
      · exact h
      · exact keepsCauses_pulseCut h
    refine grades _ _ (cause _ ?_)
    refine keepsCauses_set (keepsCauses_set (keepsCauses_setB (keepsCauses_set ?_ _ _ (by decide)) _ _ (by decide)) _ _
      (by decide)) _ _ (by decide)
    exact keepsCauses_with_disp (keepsCauses_stepEnd cut _ _) _

theorem keepsCauses_dispatchOff : KeepsCauses s (dispatchOff t) := by
  unfold dispatchOff
  refine keepsCauses_set (keepsCauses_set (keepsCauses_setB (keepsCauses_setB (keepsCauses_setB ?_ _ _ (by decide)) _ _
    (by decide)) _ _ (by decide)) _ _ (by decide)) _ _ (by decide)
  exact keepsCauses_with_disp h _

theorem keepsCauses_loopShow (n : Nat) : KeepsCauses s (loopShow n t) := by
  have duty (k : Nat) : 0x1180 ≤ 0x21000 + 4 * k := by omega
  unfold loopShow
  refine keepsCauses_foldl ?_ _ (fun hu k => keepsCauses_setB (keepsCauses_set hu (F.PWM_PH_DUTY k) _ (.inr (duty k)))
    (F.PWM_PH_ACTIVE k) _ (.inr (duty k)))
  exact keepsCauses_set (keepsCauses_setB (keepsCauses_setB (keepsCauses_setB h _ _ (by decide)) _ _ (by decide)) _ _
    (by decide)) _ _ (by decide)

theorem keepsCauses_loopEnds : KeepsCauses s (loopEnds t) := by
  unfold loopEnds
  refine keepsCauses_dispatchOff (keepsCauses_recipeEnd ?_ _)
  exact keepsCauses_with_eis (keepsCauses_pulseStop (keepsCauses_eisAbandon h 0x5)) _

theorem keepsCauses_loopOpen (n : Nat) : KeepsCauses s (loopOpen n t) := by
  unfold loopOpen
  split
  · exact keepsCauses_loopEnds (keepsCauses_causeRec (keepsCauses_with_ctl (keepsCauses_loopShow h n) _) _ _ _)
  · exact h

/-! ## The end of a command -/

theorem keepsCauses_settleLow (c : Nat) : KeepsCauses s (settleLow c t) := fun g b hg hb => by
  rw [word_settleLow c t (by change 0x1100 + 8 * g ≠ 0x31004; omega)]
  exact h g b hg hb

theorem keepsCauses_loopSettled : KeepsCauses s (loopSettled t) := by
  unfold loopSettled
  split
  · exact h
  · exact keepsCauses_loopOpen h _

theorem keepsCauses_outputsShown : KeepsCauses s (okShown (pwmShown (requestShown t))) := by
  have request : KeepsCauses s (requestShown t) :=
    keepsCauses_setB (keepsCauses_setB h _ _ (by decide)) _ _ (by decide)
  exact keepsCauses_setB (keepsCauses_setB request _ _ (by decide)) _ _ (by decide)

theorem keepsCauses_settleSafe : KeepsCauses s (settleSafe t) := by
  rw [settleSafe_eq]
  refine keepsCauses_outputsShown (keepsCauses_loopSettled (keepsCauses_settleLow (keepsCauses_settleLow
    (keepsCauses_settleLow ?_ 0) 1) 2))
  refine keepsCauses_setB ?_ _ _ (by decide)
  exact keepsCauses_setB h _ _ (by decide)

/-- The end of a command leaves every latched cause latched (R90). -/
theorem keepsCauses_settle : KeepsCauses s (settle t) := by
  intro g b hg hb
  have haddr : (F.INT_CAUSE_CAUSE g).addr = 0x1100 + 8 * g := rfl
  rw [settle, word_settleInt_other _ (by omega), word_settleCounts_other _ (by
    rw [haddr]
    simp only [List.mem_cons, List.not_mem_nil, or_false]
    omega)]
  exact keepsCauses_settleSafe h g b hg hb

end

end Sys2Proof.Proofs
end

section
/-!
SUPPORT. The application of a commit (R77, R78): what the words of a block read once its shadow has been stored, and
that neither the records of the changes nor the end of the command reach the block.
-/

namespace Sys2Proof.Proofs

open Sys2Proof Sys2Proof.Machine Sys2Proof.Laws

/-! ## Words that the end of a command leaves alone -/

/-- The end of a command changes no word outside the loop's blocks and the levels' own words. -/
theorem word_settle_outside (s : State) {a : Nat} (ha : a / 0x1000 ∉ loopBlocks) (hl : a ∉ levelWords) :
    (settle s).word a = s.word a := by
  have level {k : Nat} (hk : k ∈ levelWords) : a ≠ k := fun e => hl (e ▸ hk)
  have low (c : Nat) (t : State) : (settleLow c t).word a = t.word a :=
    word_settleLow c t (level (by decide : 0x31004 ∈ levelWords))
  have demand (i : Nat) (b : Bool) (t : State) : (t.setB (siDemandFld i) b).word a = t.word a :=
    word_set_other t _ _ _ (level (by decide : 0x30080 ∈ levelWords))
  rw [settle, word_settleInt hl, word_settleCounts hl, settleSafe_eq, okShown, word_setB_level hl _ _ _ (by decide),
    pwmShown, word_setB_level hl _ _ _ (by decide), requestShown, word_setB_level hl _ _ _ (by decide),
    word_setB_level hl _ _ _ (by decide), word_loopSettled _ ha, low, low, low, demand, demand]

/-! ## Storing a shadow -/

/-- A stored word reads as stored; no other word outside the records' blocks changes. -/
theorem word_storeWord (o : Origin) (k : Nat) (v : Word) (s : State) {a : Nat} (ha : a / 0x1000 ∉ auxBlocks) :
    (storeWord o k v s).word a = if a = k then v else s.word a := by
  have hrec : (storeWord o k v s).word a = (s.setWord k v).word a := by
    unfold storeWord configRec
    split
    · rfl
    · exact SameWords_addRec _ _ _ _ _ (by decide) a ha
  rw [hrec, word_setWord]

theorem shadow_storeWord (o : Origin) (k : Nat) (v : Word) (s : State) : (storeWord o k v s).shadow = s.shadow := by
  unfold storeWord configRec
  split
  · rfl
  · exact congrArg (·.2.1) (outer_addRec _ _ _ _ _)

/-- The words of a list stored one after another. -/
def storeAll (o : Origin) (l : List (Nat × Word)) (s : State) : State := l.foldl (fun s e => storeWord o e.1 e.2 s) s

theorem shadow_storeAll (o : Origin) (l : List (Nat × Word)) (s : State) : (storeAll o l s).shadow = s.shadow :=
  foldl_keeps State.shadow (fun s (e : Nat × Word) => storeWord o e.1 e.2 s)
    (fun s e => shadow_storeWord o e.1 e.2 s) l s

theorem word_storeAll_other (o : Origin) (l : List (Nat × Word)) (s : State) {a : Nat} (ha : a / 0x1000 ∉ auxBlocks)
    (hl : a ∉ l.map (·.1)) : (storeAll o l s).word a = s.word a := by
  induction l generalizing s with
  | nil => rfl
  | cons e l ih =>
    rw [List.map_cons, List.mem_cons, not_or] at hl
    obtain ⟨hne, hl⟩ := hl
    exact (ih (storeWord o e.1 e.2 s) hl).trans ((word_storeWord o e.1 e.2 s ha).trans (if_neg hne))

/-- Each word of a list that names every word once reads as the list has it. -/
theorem word_storeAll (o : Origin) {l : List (Nat × Word)} (s : State) (hn : (l.map (·.1)).Nodup) {e : Nat × Word}
    (he : e ∈ l) (ha : e.1 / 0x1000 ∉ auxBlocks) : (storeAll o l s).word e.1 = e.2 := by
  induction l generalizing s with
  | nil => exact absurd he List.not_mem_nil
  | cons d l ih =>
    obtain ⟨hd, hn⟩ := List.nodup_cons.1 hn
    obtain rfl | he := List.mem_cons.1 he
    · exact (word_storeAll_other o l (storeWord o e.1 e.2 s) ha hd).trans
        ((word_storeWord o e.1 e.2 s ha).trans (if_pos rfl))
    · exact ih (storeWord o d.1 d.2 s) hn he

/-! ## The application -/

/-- The shadow of a block is empty and its commit no longer pending. -/
def shadowTaken (b : Block) (t : State) : State :=
  ({ t with
    shadow := t.shadow.filter (fun e => blockOf e.1 != some b)
    sys := { t.sys with
      commitBy := tabDel t.sys.commitBy (blockIdx b)
      commitAt := tabDel t.sys.commitAt (blockIdx b)
      cleanTok := tabSet t.sys.cleanTok (blockIdx b) (t.get (shToken b)) } }).setB (shPending b) false

theorem word_shadowTaken_other (b : Block) (t : State) {a : Nat} (ha : a ≠ commitAddr b + 4) :
    (shadowTaken b t).word a = t.word a := word_set_other _ (shPending b) _ a ha

theorem flag_pending_shadowTaken (b : Block) (t : State) : (shadowTaken b t).flag (shPending b) = false :=
  flag_setB_same _ (shPending b) false (by decide : 16 + 1 ≤ 32) (by decide : 0 < 1)

theorem mem_shadow_shadowTaken (b : Block) (t : State) (e : Nat × Word) :
    e ∈ (shadowTaken b t).shadow ↔ e ∈ t.shadow ∧ blockOf e.1 ≠ some b := by
  change e ∈ t.shadow.filter _ ↔ _
  rw [List.mem_filter, bne_iff_ne]

/-- The blocks whose application does no more than take the shadow. -/
theorem applyCommit_plain {b : Block} (hb : b = .cvl ∨ b = .est ∨ b = .thm) {s : State}
    (hp : s.flag (shPending b) = true) : applyCommit b s = raise C.COMMIT_DONE (shadowTaken b
      (storeAll (tabGet s.sys.commitBy (blockIdx b) inside) (shadowOf b s) s)) := by
  rw [applyCommit, if_pos hp]
  obtain rfl | rfl | rfl := hb <;> rfl

/-- The words of a block lie in the 4 KiB of its commit register (R67, R77). -/
theorem page_of_blockOf {a : Nat} {b : Block} (h : blockOf a = some b) : a / 0x1000 = commitAddr b / 0x1000 := by
  unfold blockOf at h
  split at h
  case h_6 hpage =>
    rw [hpage]
    split at h <;> cases h <;> rfl
  case h_7 => exact absurd h (by simp)
  all_goals
    rename_i hpage
    cases h
    exact hpage

/-- The status word of a shadow is not itself shadowed. -/
theorem codeMask_ws_status (b : Block) : codeMask .ws (commitAddr b + 4) = 0 := by
  cases b <;> decide

/-- Nothing that follows a command reaches the pages of CVL, EST and THM. -/
theorem page_plain {b : Block} (hb : b = .cvl ∨ b = .est ∨ b = .thm) {a : Nat}
    (ha : a / 0x1000 = commitAddr b / 0x1000) : a / 0x1000 ∉ loopBlocks ∧ a ∉ levelWords := by
  have hblock : a / 0x1000 ∉ loopBlocks := by
    rw [ha]
    obtain rfl | rfl | rfl := hb <;> decide
  refine ⟨hblock, fun hm => ?_⟩
  have hlevel : ∀ x ∈ levelWords, x / 0x1000 ∈ 0x30 :: 0x31 :: 0x52 :: loopBlocks := by decide
  have hpage : a / 0x1000 ∉ 0x30 :: 0x31 :: 0x52 :: loopBlocks := by
    rw [ha]
    obtain rfl | rfl | rfl := hb <;> decide
  exact hpage (hlevel a hm)

/-- Settles O32: the shadow is stored word by word and then taken; records, COMMIT_DONE and the levels lie outside the
block's page, and the end of the command loses no cause. -/
theorem commitTakesTheWholeShadow : Obligations.CommitTakesTheWholeShadow := by
  unfold Obligations.CommitTakesTheWholeShadow
  intro b s hb hpow hp hn hws
  refine ⟨_, congrArg finish (if_pos hpow), ?_⟩
  rw [applyCommit_plain hb hp]
  generalize tabGet s.sys.commitBy (blockIdx b) inside = o
  have hword (t : State) {a : Nat} (ha : a / 0x1000 = commitAddr b / 0x1000) :
      (settle (raise C.COMMIT_DONE t)).word a = t.word a := by
    obtain ⟨hpage, hlevel⟩ := page_plain hb ha
    have hcause : a ≠ (F.INT_CAUSE_CAUSE C.COMMIT_DONE.g).addr := fun e => hpage (e ▸ by decide)
    rw [word_settle_outside _ hpage hlevel, word_raise_other _ _ hcause]
  refine ⟨?pending, fun e he hblock => ?taken, fun e => ?shadow, ?cause⟩
  case pending =>
    have hpage : (commitAddr b + 4) / 0x1000 = commitAddr b / 0x1000 := by cases b <;> rfl
    rw [flag_congr (f := shPending b) (hword _ hpage), flag_pending_shadowTaken]
  case taken =>
    have hpage := page_of_blockOf hblock
    have hne : e.1 ≠ commitAddr b + 4 := fun heq => hws e he hblock (heq ▸ codeMask_ws_status b)
    have haux : e.1 / 0x1000 ∉ auxBlocks := fun hm => (page_plain hb hpage).1 ((by decide : auxBlocks ⊆ loopBlocks) hm)
    have hin : e ∈ shadowOf b s := List.mem_filter.2 ⟨he, by rw [hblock]; exact beq_self_eq_true _⟩
    have hnodup : ((shadowOf b s).map (·.1)).Nodup := hn.sublist (List.filter_sublist.map _)
    rw [hword _ hpage, word_shadowTaken_other b _ hne, word_storeAll o s hnodup hin haux]
  case shadow =>
    rw [settle_shadow]
    exact (mem_shadow_shadowTaken b _ e).trans (by rw [shadow_storeAll])
  case cause =>
    exact keepsCauses_settle (keepsCauses_refl _) _ _ (by decide) (bitOf_raise C.COMMIT_DONE _ (by decide))

end Sys2Proof.Proofs
end

section
/-!
SUPPORT. Register accesses (R67 to R91): a whole word of the blocks that is written reaches `writeBlock`, whose tests
the clause's conditions decide.
-/

namespace Sys2Proof.Proofs

open Sys2Proof Sys2Proof.Machine Sys2Proof.Laws

/-! ## The way of a written word -/

/-- A word with shadowed or posted bits can be written. -/
theorem writable_ne_zero {a : Nat} (h : codeMask .ws a ≠ 0 ∨ codeMask .wp a ≠ 0) : writable a ≠ 0 := by
  intro h0
  obtain ⟨hrest, hwp⟩ := BitVec.or_eq_zero_iff.1 h0
  obtain ⟨-, hws⟩ := BitVec.or_eq_zero_iff.1 hrest
  exact h.elim (fun h => h hws) (fun h => h hwp)

section
variable {p : Path} {a : Nat} {v : Word} {s : State}

theorem writeSpace_valid (hv : validAddr a = true) : writeSpace p a v s = (writeWord p a v s).1 := if_pos hv

/-- A whole word of the blocks that may be written now. -/
theorem writeSpace_block (ha : a < 0x100000) (hv : validAddr a = true) (hadm : writeAdmitted p a v s = true) :
    writeSpace p a v s = (writeBlock p a 0xFFFFFFFF v s).1 := by
  have hspace : isAlias a = false := by
    unfold isAlias
    exact decide_eq_false (by omega)
  have hblock : ¬ 0x100000 ≤ a := by omega
  rw [writeSpace_valid hv]
  simp [writeWord, hspace, hadm, hblock]

variable (hc : commitBlock a = none) (h1 : codeMask .w1 a = 0) (hl : lockMask s a = 0)
include hc h1 hl

/-- An unlocked word that waits in the shadow of its block (R77). -/
theorem writeBlock_shadow {b : Block} (hws : codeMask .ws a ≠ 0) (hb : blockOf a = some b) :
    writeBlock p a 0xFFFFFFFF v s = shadowWrite b a (codeMask .ws a) v s := by
  have hw : writable a ≠ 0 := writable_ne_zero (.inl hws)
  simp only [writeBlock, hc, and_allOnes32, hw, h1, hl, hws, hb, if_false, if_true, ne_eq, not_true_eq_false,
    not_false_eq_true]

variable (hws : codeMask .ws a = 0) (hr : rangeOk s a v = true)
include hws hr

/-- An unlocked word of a slow domain, in range, is posted (R82). -/
theorem writeBlock_post (hwp : codeMask .wp a ≠ 0) (hremote : a ≠ 0x10044) : writeBlock p a 0xFFFFFFFF v s =
    postWrite ⟨domainOf a, a, codeMask .wp a, v, Path.origin p, false, s.time⟩ s := by
  have hw : writable a ≠ 0 := writable_ne_zero (.inr hwp)
  have hpost : (codeMask .wp a ≠ 0 && a != 0x10044) = true :=
    Bool.and_eq_true_iff.2 ⟨decide_eq_true hwp, bne_iff_ne.2 hremote⟩
  simp only [writeBlock, hc, and_allOnes32, hw, h1, hl, hws, hr, hpost, if_false, if_true, ne_eq, not_true_eq_false,
    Bool.not_true, Bool.false_eq_true]

/-- An unlocked word in range that is neither shadowed nor posted has the effect of its register (R71). -/
theorem writeBlock_effect (hw : writable a ≠ 0) (hwp : codeMask .wp a = 0) : writeBlock p a 0xFFFFFFFF v s =
    writeEffect (Path.origin p) a 0xFFFFFFFF v s := by
  have hpost : (codeMask .wp a ≠ 0 && a != 0x10044) = false := by
    rw [hwp]
    rfl
  simp only [writeBlock, hc, and_allOnes32, hw, h1, hl, hws, hr, hpost, if_false, ne_eq, not_true_eq_false,
    Bool.not_true, Bool.false_eq_true]

end

theorem shadowWrite_free {b : Block} {a : Nat} {mask v : Word} {s : State} (hp : s.flag (shPending b) = false) :
    shadowWrite b a mask v s =
      (setShadow a ((s.shadowWord a &&& ~~~mask) ||| (v &&& mask)) (s.bump (shToken b) 1), .ok) :=
  if_neg (by rw [hp]; decide)

theorem postWrite_idle {x : Post} {s : State} (h : s.flag (postBusy x.dom) = false) : postWrite x s =
    (({ s with sys := { s.sys with posts := s.sys.posts ++ [x] } }).setB (postBusy x.dom) true, .ok) :=
  if_neg (by rw [h]; decide)

/-! ## Register opcodes and accesses -/

/-- REG_READ of words that it may read (R492). -/
theorem doRegRead_readable {c : Ctx} {a n : Nat} {s : State} (h1 : 1 ≤ n) (hn : n ≤ 256)
    (hv : ∀ i, i < n → validAddr (a + 4 * i) = true) (hc : c.v1 = true → n ≤ 63) : doRegRead c a n s =
      replyOk c 0x0100 ((readWords a n s).2.map (fun w => u32 w.toNat)).flatten (readWords a n s).1 := by
  have hall : (List.range n).all (fun i => validAddr (a + 4 * i)) = true :=
    List.all_eq_true.2 (fun i hi => hv i (List.mem_range.1 hi))
  have hlen : (c.v1 && decide (255 < 4 * n)) = false := by
    cases hc1 : c.v1
    · rfl
    · have := hc hc1
      exact decide_eq_false (by omega)
  rw [doRegRead, if_neg (by omega), if_neg (by rw [hall]; decide), if_neg (by rw [hlen]; decide)]

theorem doRegWrite_some {c : Ctx} {a : Nat} {vs : List Word} {s : State} (h1 : 1 ≤ vs.length) (h64 : vs.length ≤ 64) :
    doRegWrite c a vs s = reply c 0x0101 (writeWords c 0 a vs s).2.1 (writeWords c 0 a vs s).2.2
      (writeWords c 0 a vs s).1 := if_neg (by omega)

/-- REG_MODIFY outside direct mode, of a word that takes what is written (R492). -/
theorem doRegModify_taken {c : Ctx} {a : Nat} {mask v : Word} {s : State} (hv : validAddr a = true)
    (hd : s.direct = false)
    (hok : (writeWord (.rcp c) a (merge (readWord a s).2 mask v) (readWord a s).1).2 = .ok) :
    doRegModify c a mask v s = replyOk c 0x0102 (u32 (readWord a s).2.toNat)
      (writeWord (.rcp c) a (merge (readWord a s).2 mask v) (readWord a s).1).1 := by
  simp [doRegModify, hv, hd, hok]

/-- Settles O29: the opcodes' and accesses' own tests are decided by the clause's conditions. -/
theorem registerAccessCommandsComplete : Obligations.RegisterAccessCommandsComplete := by
  unfold Obligations.RegisterAccessCommandsComplete
  intro c p addr mask value count values s
  refine ⟨fun hadm h1 hn hv hc => ?read, fun hadm h1 h64 => ?write, fun hadm hv hd hok => ?modify,
    fun ha hv hadm hc h1 hws hwp => ⟨fun hw => ?none, fun hw hl hr => ?effect⟩, fun hal hv => ⟨fun hpow => ?aliasRead,
      ?aliasWrite⟩⟩
  case read => exact finish_withCmd_admitted hadm (doRegRead_readable h1 hn hv hc)
  case write => exact finish_withCmd_admitted hadm (doRegWrite_some h1 h64)
  case modify => exact finish_withCmd_admitted hadm (doRegModify_taken hv hd hok)
  case none =>
    refine congrArg finish ((writeSpace_block ha hv hadm).trans ?_)
    rw [writeBlock_unwritable hc (by rw [and_allOnes32, hw])]
  case effect =>
    refine congrArg finish ((writeSpace_block ha hv hadm).trans ?_)
    rw [writeBlock_effect hc h1 hl hws hr hw hwp]
  case aliasRead =>
    refine congrArg finish ((if_pos ?_).trans (if_pos hpow))
    rw [hal, hv]
    rfl
  case aliasWrite => exact congrArg finish ((if_pos hal).trans (writeSpace_valid hv))

/-! ## Shadow writes, commits and posted writes -/

theorem find_of_takePost {d : Domain} {x : Post} {s s1 : State} (h : takePost d s = some (x, s1)) :
    s.sys.posts.find? (fun p => p.dom == d) = some x := by
  unfold takePost at h
  split at h
  case h_1 y hy =>
    cases h
    exact hy
  case h_2 => cases h

theorem exec_postedWriteComplete_found {d : Domain} {x : Post} {s s1 : State} (h : takePost d s = some (x, s1)) :
    exec (.postedWriteComplete d) s = .next (settle (sleepTry (postEffect x (applyPost x s1)))) := by
  change finish _ = finish _
  rw [h]

theorem exec_postFail_found {d : Domain} {x : Post} {s : State}
    (h : s.sys.posts.find? (fun p => p.dom == d) = some x) : exec (.postFail d) s =
      .next (settle (sleepTry (postAbandon d (s.at (x.at_ + 10 * postMax s d))))) := by
  change finish _ = finish _
  rw [h]

/-- Settles O30: writes reach the shadow or their slow domain by the conditions of a clause; the other rows run their
own work. -/
theorem commitAndPostCommandsComplete : Obligations.CommitAndPostCommandsComplete := by
  unfold Obligations.CommitAndPostCommandsComplete
  intro p b d token addr value x s s1
  refine ⟨fun ha hv hadm hc h1 hl => ⟨fun hws hb hp => ?shadow, fun hws hwp hremote hr hidle => ?post⟩,
    fun hadm => congrArg finish (withWrite_admitted _ hadm), fun hadm => congrArg finish (withWrite_admitted _ hadm),
    fun hpow _ => congrArg finish (if_pos hpow), fun htake => ⟨?complete, ?fail⟩, fun hadm hl hr hidle => ?pack,
    fun hadm => congrArg finish (withWrite_admitted _ hadm)⟩
  case shadow =>
    refine congrArg finish ((if_neg hws).trans ((writeSpace_block ha hv hadm).trans ?_))
    rw [writeBlock_shadow hc h1 hl hws hb, shadowWrite_free hp]
  case post =>
    refine congrArg finish ((if_neg hwp).trans ((writeSpace_block ha hv hadm).trans ?_))
    rw [writeBlock_post hc h1 hl hws hr hwp hremote, postWrite_idle]
    exact hidle
  case complete => exact exec_postedWriteComplete_found htake
  case fail => exact exec_postFail_found (find_of_takePost htake)
  case pack =>
    refine congrArg finish ((writeSpace_block (by decide) (by decide) hadm).trans ?_)
    rw [writeBlock_post (by decide) (by decide) hl (by decide) hr (by decide) (by decide), postWrite_idle]
    · rfl
    · exact hidle

/-! ## The snapshot and the interrupt line -/

/-- No SNAP word that a copy writes is SNAP_SEQ (R88, R89). -/
theorem seq_snapWords (s : State) : (snapWords s).get F.SNAP_SEQ_SEQ = s.get F.SNAP_SEQ_SEQ := by
  have other {t : State} (f : Fld) (v : Nat) (hf : f.addr ≠ 0x54) (ht : t.get F.SNAP_SEQ_SEQ = s.get F.SNAP_SEQ_SEQ) :
      (t.set f v).get F.SNAP_SEQ_SEQ = s.get F.SNAP_SEQ_SEQ :=
    (get_congr (word_set_other t f v _ hf.symm)).trans ht
  have other64 {t : State} (f g : Fld) (v : Nat) (hf : f.addr ≠ 0x54) (hg : g.addr ≠ 0x54)
      (ht : t.get F.SNAP_SEQ_SEQ = s.get F.SNAP_SEQ_SEQ) :
      (t.set64 f g v).get F.SNAP_SEQ_SEQ = s.get F.SNAP_SEQ_SEQ := other g _ hg (other f _ hf ht)
  unfold snapWords
  extract_lets v s1 s2 s3 s4 s5 s6 s7 s8 s9 s10 s11 s12 s13 s14
  refine other _ _ (by decide) (other _ _ (by decide) (t := s13) ?_)
  refine other _ _ (by decide) (other _ _ (by decide) (t := s11) ?_)
  refine other _ _ (by decide) (other _ _ (by decide) (t := s9) ?_)
  refine other _ _ (by decide) (other _ _ (by decide) (t := s7) ?_)
  refine other64 _ _ _ (by decide) (by decide) (other64 _ _ _ (by decide) (by decide) (t := s5) ?_)
  refine other64 _ _ _ (by decide) (by decide) (other _ _ (by decide) (t := s3) ?_)
  refine other _ _ (by decide) (other64 _ _ _ (by decide) (by decide) (t := s1) ?_)
  exact other64 _ _ _ (by decide) (by decide) rfl

/-- What the registers show of a copy: every SNAP word, SNAP_SEQ after them, and BUSY (R86, R88, R89). -/
def snapShown (s : State) : State := ((snapWords s).bump F.SNAP_SEQ_SEQ 1).setB F.SYS_SNAP_BUSY false

/-- No copy is asked for and no request waits for one. -/
def snapEnded (s : State) : State := { s with sys := { s.sys with snapReq := false, snapCtx := [] } }

/-- A copy that no SNAPSHOT request waits for (R86). -/
theorem snapCopy_unawaited {s : State} (hreq : s.sys.snapReq = true) (hctx : s.sys.snapCtx = []) :
    snapCopy s = snapEnded (snapShown s) := by
  rw [snapCopy, if_pos hreq, hctx]
  rfl

/-- A copy counts SNAP_SEQ once and ends the request (R86, R89). -/
theorem snapCopy_counts {s : State} (hreq : s.sys.snapReq = true) (hctx : s.sys.snapCtx = []) :
    (snapCopy s).get F.SNAP_SEQ_SEQ = (s.get F.SNAP_SEQ_SEQ + 1) % 2 ^ F.SNAP_SEQ_SEQ.n ∧
      (snapCopy s).flag F.SYS_SNAP_BUSY = false ∧ (snapCopy s).sys.snapReq = false := by
  have ended (t : State) (a : Nat) : (snapEnded t).word a = t.word a := rfl
  rw [snapCopy_unawaited hreq hctx]
  refine ⟨?_, ?_, rfl⟩
  · rw [get_congr (ended _ _), snapShown, State.setB, get_set_apart _ _ _ _ (by decide), State.bump,
      get_set_same _ _ _ (by decide), seq_snapWords]
  · rw [flag_congr (ended _ _), snapShown, flag_setB_same _ _ _ (by decide) (by decide)]

/-- A write of INT_CTRL with REARM (R91). -/
theorem writeEffect_rearm (o : Origin) {w : Word} (s : State) (hw : bitOf w 1 = true) :
    (writeEffect o 0x1004 0xFFFFFFFF w s).1 =
      let s1 := storeWord o 0x1004 (w &&& 1) s
      { s1 with sys := { s1.sys with rearmEnd := s1.time + 2 * us } } := if_pos hw

/-- Settles O33: the writes reach SYS_SNAP and INT_CTRL, which nothing locks; the copy counts once. -/
theorem snapshotAndInterruptCommandsComplete : Obligations.SnapshotAndInterruptCommandsComplete := by
  unfold Obligations.SnapshotAndInterruptCommandsComplete
  intro p c s
  refine ⟨fun hadm => ?take, fun hadm => finish_withCmd_admitted hadm rfl, fun hreq hup => ⟨?copy, fun hctx => ?counts⟩,
    fun hadm => ?rearm⟩
  case take =>
    refine congrArg finish ((writeSpace_block (by decide) (by decide) hadm).trans ?_)
    rw [writeBlock_effect (by decide) (by decide) rfl (by decide) rfl (by decide) (by decide)]
    rfl
  case copy =>
    refine congrArg finish (if_pos ?_)
    rw [hreq, hup]
    rfl
  case counts => exact snapCopy_counts hreq hctx
  case rearm =>
    refine congrArg finish ((writeSpace_block (by decide) (by decide) hadm).trans ?_)
    rw [writeBlock_effect (by decide) (by decide) rfl (by decide) rfl (by decide) (by decide)]
    refine writeEffect_rearm _ s ?_
    rw [bitOf, BitVec.getLsbD_or]
    exact Bool.or_true _

end Sys2Proof.Proofs
end

section
/-!
SUPPORT. The commands of the board ring (R105 to R127, R272, R284): under the conditions of a clause a row's own tests
are decided, and what a restored ring shows is what its registers read after the last write to each field.
-/

namespace Sys2Proof.Proofs

open Sys2Proof Sys2Proof.Machine Sys2Proof.Laws

/-! ## Frames and board commands -/

/-- FRAME_RECEIVED on a running Caravan-2 ring that has sent a frame (R105, R109, R112). -/
theorem exec_frameReceived_running (slots : List BoardSlot) (endB : Bool) (errors : Nat) (reps : List BypassReport)
    {t : Nat} {s : State} (hr : ringRuns s = true) (h2 : isC1 s = false) (ht : s.ring.t0 = some t) :
    let s1 := (List.range errors).foldl (fun s _ => frameError s)
      { s with ring := { s.ring with endBack := s.ring.endBack || endB } }
    let s2 := reps.foldl takeReport (if streamOn s1 then stringTake (t - 14125) s1 else s1)
    exec (.frameReceived slots endB errors reps) s = .next (settle (framesDue (t - 15625)
      (dataIn slots (t - 14125) (t - 15625) (windowOf (t - 15625)) s2))) := by
  change execFrameReceived slots endB errors reps s = _
  rw [execFrameReceived, ht]
  exact congrArg finish (if_pos (by rw [hr, h2]; rfl))

section
variable {k : Nat} {code : BitVec 8} {x : BoardCmd} {s : State} (hx : findCmd k code.toNat s = some x)
include hx

/-- A response to an outstanding command takes it off the list, notes the board's answer to BAL_SET, and then completes
it, sends it again or fails it (R115, R272, R284). -/
theorem exec_boardResponse_outstanding (result : BitVec 8) (data : List Byte) (hr : ringRuns s = true) :
    let s1 := dropCmd k code.toNat s
    let s2 := if x.code = 0x18 then chanAnswer k (decide (result = 0)) s1 else s1
    exec (.boardResponse k code result data) s = .next (settle (
      if result = 0 then cmdDone x data s2
      else if (x.code = 0x18 ∨ x.code = 0x1A) ∧ x.tries < 2 then sendAgain x s2
      else cmdFail x s2)) := by
  change execBoardResponse k code result data s = _
  rw [execBoardResponse, if_pos hr, hx]
  rfl

/-- Unanswered for 4 frames, a command is sent again while it has been sent again less than twice (R115). -/
theorem exec_boardCommandResend_due (hage : 4 ≤ x.age) (htries : x.tries < 2) :
    exec (.boardCommandResend k code) s = .next (settle
      { s with ring := { s.ring with cmds := s.ring.cmds.map (fun y => if y = x then y.again else y) } }) := by
  change execBoardCommandResend k code s = _
  simp only [execBoardCommandResend, hx, beq_iff_eq]
  exact congrArg finish (if_pos ⟨hage, htries⟩)

/-- Unanswered for 4 frames after its second re-send, a command fails (R115). -/
theorem exec_boardCommandFail_due (hage : 4 ≤ x.age) (htries : 2 ≤ x.tries) :
    exec (.boardCommandFail k code) s = .next (settle (cmdFail x (dropCmd k code.toNat s))) := by
  change execBoardCommandFail k code s = _
  rw [execBoardCommandFail, hx]
  exact congrArg finish (if_pos ⟨hage, htries⟩)

end

/-! ## A position without a reading (R113) -/

@[simp] theorem regs_updateRow (n : Nat) (f : Cell → Cell) (s : State) : (updateRow n f s).regs = s.regs := by
  simp only [updateRow]
  split <;> rfl

/-- Whether a contactor is closed or a hold runs is read from the registers alone. -/
theorem readingsCount_of_regs {s t : State} (h : t.regs = s.regs) : readingsCount t = readingsCount s := by
  have same (f : Fld) : t.flag f = s.flag f := flag_congr (word_of_regs h _)
  simp only [readingsCount, anyClosed, same]

/-- The row update of NO_READING_LIMIT leaves what decides whether the limit counts. -/
theorem exec_noReadingLimit_configured {pos : Nat} {s : State} (hp : pos < posCount s) :
    let s1 := updateRow pos (fun c => { c with flags := c.flags ||| 0x80 })
      (s.at (lastReading s pos + noReadingPeriod s))
    exec (.noReadingLimit pos) s = .next (settle (
      if readingsCount s then sei 0x08 (s1.setB F.SAFE_STATUS_CELL_LIMIT true) else s1)) := by
  intro s1
  have hcount : readingsCount s1 = readingsCount s := readingsCount_of_regs (regs_updateRow _ _ _)
  rw [← hcount]
  exact congrArg finish (if_pos hp)

/-! ## What a restored ring shows (R124) -/

/-- A port's link shows in the LINK bits of CVL_STATUS and the running clocks; no other field changes. -/
theorem get_portLink_apart (port : Nat) (up : Bool) (s : State) {f : Fld} (ha : apart F.CVL_STATUS_LINK_A f = true)
    (hb : apart F.CVL_STATUS_LINK_B f = true) (hc : apart F.SYS_CLK_STATUS_RUNNING f = true) :
    (portLink port up s).get f = s.get f := by
  refine (get_set_apart _ _ _ _ hc).trans (get_set_apart _ _ _ _ ?_)
  split
  · exact ha
  · exact hb

/-- The SPLIT_B bits of the boards stand beside CVL_STATUS. -/
theorem get_splitB_cleared (ks : List Nat) (s : State) {f : Fld} (hf : f.addr = 0x10004) :
    (ks.foldl (fun s k => s.setB (F.CVL_BRD_STATE_SPLIT_B (k - 1)) false) s).get f = s.get f := by
  refine foldl_keeps (·.get f) _ (fun t k => get_congr (word_set_other _ _ _ _ ?_)) ks s
  rw [hf]
  change 0x10004 ≠ 0x10110 + 32 * (k - 1)
  omega

/-- MODE and BREAK_AFTER keep, through the bits of boards, links and clocks, what the ring's return wrote. -/
theorem get_ringWhole (s : State) {f : Fld} (hf : f.addr = 0x10004) (ha : apart F.CVL_STATUS_LINK_A f = true)
    (hb : apart F.CVL_STATUS_LINK_B f = true) :
    (ringWhole s).get f = ((s.set F.CVL_STATUS_MODE 1).set F.CVL_STATUS_BREAK_AFTER 0x3F).get f := by
  have hc : apart F.SYS_CLK_STATUS_RUNNING f = true := by
    rw [apart, hf]
    rfl
  have raised (t : State) : (raise C.RING_RESTORED t).get f = t.get f :=
    get_congr (SameWords_raise _ t (by decide) _ (by rw [hf]; decide))
  rw [ringWhole, raised, get_portLink_apart _ _ _ ha hb hc, get_portLink_apart _ _ _ ha hb hc,
    get_splitB_cleared _ _ hf]
  rfl

theorem ring_ringWhole (s : State) :
    (ringWhole s).ring = { s.ring with split := false, endBack := true, restoring := none } :=
  foldl_keeps State.ring (fun (s : State) k => s.setB (F.CVL_BRD_STATE_SPLIT_B (k - 1)) false) (fun _ _ => rfl) _ _

/-- At the frame start after RING_MODE has left the ring is whole: no split, ring mode, no break shown. -/
theorem restoreCheck_whole {s : State} (h : s.ring.restoring = some true) :
    (restoreCheck s).ring.split = false ∧ (restoreCheck s).ring.restoring = none ∧
      (restoreCheck s).get F.CVL_STATUS_MODE = 1 ∧ (restoreCheck s).get F.CVL_STATUS_BREAK_AFTER = 0x3F := by
  rw [restoreCheck, if_pos h, ring_ringWhole, get_ringWhole s rfl (by decide) (by decide),
    get_ringWhole s rfl (by decide) (by decide)]
  refine ⟨rfl, rfl, ?_, get_set_same _ _ _ (by decide)⟩
  exact (get_set_apart _ _ _ _ (by decide)).trans (get_set_same _ _ _ (by decide))

/-- Settles O36: the conditions of a clause decide the tests of its row, and the ring that RING_RESTORE makes whole
shows what the last writes to its registers left. -/
theorem ringCommandsComplete : Obligations.RingCommandsComplete := by
  unfold Obligations.RingCommandsComplete
  intro slots reps endB errors k pos t code result data x v back words bal cv s
  refine ⟨exec_frameReceived_running slots endB errors reps,
    fun hx => ⟨fun hr => ?response, exec_boardCommandResend_due hx, exec_boardCommandFail_due hx⟩,
    fun h1 hk => ⟨fun hrun hm => ?missing, fun hrun hread => ?found⟩,
    fun hbusy hup => ⟨fun htoken => ?token, ?enumerated⟩, fun hr hsplit hk hp => ?restore,
    fun h u hu => hu ▸ restoreCheck_whole h, fun hk hsup hgen => ?takeover, fun hr hk => ?mirror,
    fun hp => ⟨fun hc => ?counted, fun hc => ?uncounted⟩⟩
  case response =>
    have answered := exec_boardResponse_outstanding hx result data hr
    refine ⟨fun h0 => ?done, fun h0 hcode htries => ?again, fun h0 hlast => ?fails⟩
    case done => rw [answered, if_pos h0]
    case again => rw [answered, if_neg h0, if_pos ⟨hcode, htries⟩]
    case fails =>
      rw [answered, if_neg h0, if_neg]
      rintro ⟨hcode, htries⟩
      obtain ⟨hbal, hoasis⟩ | hthrice := hlast
      · exact hcode.elim hbal hoasis
      · exact htries.not_ge hthrice
  case missing => exact congrArg finish ((if_pos ⟨h1, hk⟩).trans (if_pos ⟨hrun, hm⟩))
  case found => exact congrArg finish ((if_pos ⟨h1, hk⟩).trans (if_pos ⟨hrun, hread⟩))
  case token => exact congrArg finish (if_pos (by rw [hbusy, hup, htoken]; rfl))
  case enumerated => exact congrArg finish (if_pos (by rw [hbusy, hup]; rfl))
  case restore => exact congrArg finish (if_pos (by rw [hr, hsplit, hk, hp]; rfl))
  case takeover => exact congrArg finish (if_pos (by simp [hk, hsup, hgen]))
  case mirror => exact congrArg finish (if_pos (by rw [hr, hk]; rfl))
  case counted => rw [exec_noReadingLimit_configured hp, if_pos hc]
  case uncounted => rw [exec_noReadingLimit_configured hp, hc, if_neg Bool.false_ne_true]

end Sys2Proof.Proofs
end

section
/-!
SUPPORT. The commands of cell acquisition (R152 to R171, R183): under the conditions of a clause a row's own tests are
decided, and its effect is left.
-/

namespace Sys2Proof.Proofs

open Sys2Proof Sys2Proof.Machine

/-! ## Effects of the module's own rows -/

/-- A stillness window that runs publishes PRECISION at its end, 32 frames after it began (R152). -/
theorem exec_stillnessWindowEnd_running {n0 : Nat} {s : State} (hstill : s.ring.still = some n0) :
    exec .stillnessWindowEnd s =
      .next (settle (precEnd 16 (n0 + 31 * 15625 + 1500) (s.at (n0 + 32 * 15625)))) := by
  change execStillnessWindowEnd s = _
  rw [execStillnessWindowEnd, hstill]
  rfl

/-- SUM_FAIL sets with its record once the residual has been out for 10 ticks (R162). -/
theorem sumFailSet_due {s : State} (hrun : 10 ≤ s.acq.sumRun) (hclear : s.flag F.MEAS_STATUS_SUM_FAIL = false) :
    sumFailSet s = causeRec C.SUM_CHECK sevWarning [] (s.setB F.MEAS_STATUS_SUM_FAIL true) :=
  if_pos ⟨hrun, hclear⟩

/-- The periodic test of a board starts one period after its last test (R164). -/
theorem exec_openWirePeriodic_due {k : Nat} {s : State} (h1 : 1 ≤ k) (hk : k ≤ boards s) (hr : ringRuns s = true)
    (hp : s.get F.MEAS_OW_CFG_OW_PERIOD ≠ 0) : exec (.openWirePeriodic k) s =
      .next (settle (owStart k (s.at (owSince s k + s.get F.MEAS_OW_CFG_OW_PERIOD * sec)))) :=
  congrArg finish (if_pos ⟨hp, h1, hk, hr⟩)

/-- A board with a broken wire is tested again 60 s after its last test (R168). -/
theorem exec_wireBreakRetest_due {k : Nat} {s : State} (h1 : 1 ≤ k) (hk : k ≤ boards s) (hr : ringRuns s = true)
    (hbroken : ∃ w ∈ brdWires s k, s.flag (wbFld w) = true) : exec (.wireBreakRetest k) s =
      .next (settle (owStart k (s.at (owSince s k + 60 * sec)))) :=
  congrArg finish (if_pos ⟨h1, hk, hr, List.any_eq_true.2 hbroken⟩)

/-- The fault of a position clears once its 100 ticks have run and the sum check holds (R168). -/
theorem cellFaultClear_due {pos : Nat} {s : State} (hset : s.flag (cfFld pos) = true)
    (hrun : 100 ≤ tabGet s.acq.faultFree pos 0) (hsum : s.flag F.MEAS_STATUS_SUM_FAIL = false) :
    cellFaultClear pos s = s.setB (cfFld pos) false :=
  if_pos (by rw [hset, hsum, decide_eq_true hrun]; rfl)

/-- The end of a started open-wire test is that of its own operation, and the wires it newly breaks go off (R165 to
R168). -/
theorem exec_openWireDone_started {k : Nat} {x : OwTest} {s : State}
    (hx : s.acq.tests.find? (fun y => y.board == k && y.start.isSome) = some x) :
    let d := owDone x (s.at (x.start.getD 0 + owLength s))
    exec (.openWireDone k) s = .next (settle (((List.range (posCount s + 1)).filter
      (fun w => d.flag (wbFld w) && !s.flag (wbFld w))).foldl (fun t w => wireOff w t) d)) := by
  change execOpenWireDone k s = _
  rw [execOpenWireDone, hx]
  rfl

/-- Wire learning that runs ends: its estimates that agree are stored, the other wires are reported (R160). -/
theorem exec_wireLearnDone_running {c : Ctx} {w : WireLearn} {t : Nat} {s : State}
    (hl : s.acq.learn = some (.wire c w)) (ht : w.start = some t) :
    let u := learnFlush s w
    let s1 := s.at (t + 16 * learnLen s * framePeriod s)
    let inner := (List.range (posCount s1)).drop 1
    let bad := inner.filter (fun n => (wireEstimates u n).isNone)
    let s2 := (inner.filterMap (wireEstimates u)).foldl learnWire (setLearn none s1)
    exec .wireLearnDone s = .next (settle (notifyOpt (some c) 0x0201 0 (bad.map u16).flatten
      (if bad = [] then endWires s2 else s2))) := by
  intro u s1 inner bad s2
  change execWireLearnDone s = _
  simp only [execWireLearnDone, hl, ht, ← List.isEmpty_iff]
  rfl

/-- IC_LEARN ends with the slope where the current has spanned 0.2C and the samples have one (R161). -/
theorem exec_icLearnDone_slope {c : Ctx} {t n : Nat} {si sr sii sir lo hi : Rat} {s : State}
    (hl : s.acq.learn = some (.ic c t n si sr sii sir lo hi)) (hslope : (n : Rat) * sii - si * si ≠ 0) :
    let s1 := setLearn none (s.at (t + 60 * sec))
    ¬ hi - lo < cMin s1 / 5 →
    let ric := roundQ (((n : Rat) * sir - si * sr) / ((n : Rat) * sii - si * si) * 1000)
    exec .icLearnDone s = .next (settle (notifyOpt (some c) 0x0203 0 (s32 ric)
      ((s1.setI F.MEAS_RIC_VALUE ric).setB F.MEAS_STATUS_RIC_VALID true))) := by
  intro s1 hspan ric
  change execIcLearnDone s = _
  rw [execIcLearnDone, hl]
  exact congrArg finish (if_neg (not_or_intro hspan hslope))

/-! ## Effects of the opcodes (R183) -/

/-- OPEN_WIRE_TEST of idle boards, one or (0) all of a string that has one, is accepted and starts their tests. -/
theorem doOpenWireTest_idle {c : Ctx} {k : Nat} {s : State} (h36 : k ≤ 36) (hk : k ≤ boards s) (h1 : 1 ≤ boards s) :
    let ks := if k = 0 then boardNums s else [k]
    (∀ j ∈ ks, owBusy s j = false) →
    let s1 := replyAccepted c 0x0200 s
    doOpenWireTest c k s = ks.foldl (fun s j => owStart j s)
      { s1 with acq := { s1.acq with owReqs := s1.acq.owReqs ++ [⟨c, ks, []⟩] } } := by
  intro ks hidle s1
  have hfree : ¬ ks.any (owBusy s) = true := by simpa using hidle
  have hsome : ¬ ks.isEmpty = true := by
    simp only [ks]
    split
    · simpa [boardNums] using Nat.one_le_iff_ne_zero.1 h1
    · exact Bool.false_ne_true
  rw [doOpenWireTest, if_neg (by omega)]
  refine (if_neg (by omega)).trans ?_
  exact (if_neg hfree).trans (if_neg hsome)

/-- WIRE_LEARN with every contactor open and no learning starts it with its first step (R159). -/
theorem doWireLearn_open {c : Ctx} {s : State} (hopen : anyContactor s = false) (hnone : s.acq.learn = none) :
    let s1 := setLearn (some (.wire c {})) (replyAccepted c 0x0201 s)
    doWireLearn c s = boardCast 0x11 (learnPayload s1 0) s1 := by
  rw [doWireLearn, hopen, hnone]
  rfl

/-- WIRE_RES_SET in range stores the resistance and records it with the one before. -/
theorem doWireResSet_range {c : Ctx} {w : Nat} {r : Int} {s : State} (hw : w ≤ posCount s) (h0 : 0 ≤ r)
    (hr : r ≤ 500000) :
    let s1 := wireRows w { s with acq := { s.acq with wires := tabSet s.acq.wires w r.toNat } }
    doWireResSet c w r s = replyOk c 0x0202 [] (addRec sevInfo 0x01 0x0010 (u32 (wireAddr s1 w) ++ u32 r.toNat ++
      u32 ((s.acq.wires.lookup w).getD 0x7FFFFFFF) ++ originBytes (Ctx.origin c)) s1) := by
  rw [doWireResSet, if_neg (by omega), if_neg (by omega)]

/-- IC_LEARN without a learning that runs starts one (R161). -/
theorem doIcLearn_idle {c : Ctx} {s : State} (hnone : s.acq.learn = none) :
    doIcLearn c s = setLearn (some (.ic c s.time 0 0 0 0 0 0 0)) (replyAccepted c 0x0203 s) := by
  rw [doIcLearn, hnone]
  rfl

/-! ## The rows -/

/-- Settles O38: each row's tests are decided by the conditions of its clause; the opcodes run their effect on the
admission, which leaves what they test. -/
theorem acquisitionCommandsComplete : Obligations.AcquisitionCommandsComplete := by
  unfold Obligations.AcquisitionCommandsComplete
  intro c k8 k pos n0 t high stuck pod wire res x w s
  exact ⟨exec_stillnessWindowEnd_running, fun hrun hclear => congrArg finish (sumFailSet_due hrun hclear),
    fun hok => congrArg finish (if_pos hok), rfl,
    fun h1 hk hr => ⟨exec_openWirePeriodic_due h1 hk hr, exec_wireBreakRetest_due h1 hk hr⟩,
    exec_openWireDone_started,
    fun hadm h36 hk h1 hidle => finish_withCmd_admitted hadm (doOpenWireTest_idle h36 hk h1 hidle),
    fun hadm hopen hnone => finish_withCmd_admitted hadm (doWireLearn_open hopen hnone),
    exec_wireLearnDone_running,
    fun hadm hw h0 hr => finish_withCmd_admitted hadm (doWireResSet_range hw h0 hr),
    fun hadm hnone => finish_withCmd_admitted hadm (doIcLearn_idle hnone),
    fun n si sr sii sir lo hi => exec_icLearnDone_slope,
    fun hset hrun hsum => congrArg (fun s => finish (retag pos s)) (cellFaultClear_due hset hrun hsum),
    rfl, rfl, rfl, rfl⟩

end Sys2Proof.Proofs
end

section
/-!
SUPPORT. The commands of the in-service impedance (R184 to R216): under the conditions of a clause a row's own tests are
decided, and its effect is left.
-/

namespace Sys2Proof.Proofs

open Sys2Proof Sys2Proof.Machine

/-! ## The opcodes (R216) -/

/-- With no measurement, no result being completed and no pulse, the measurement group is not busy (R216). -/
theorem eis_not_busy {s : State} (hmeas : s.eis.meas = none) (hclosing : s.eis.closing = none)
    (hpulse : s.eis.pulse = none) :
    ¬ (s.eis.meas.isSome || s.eis.closing.isSome || s.eis.pulse.isSome) = true := by
  rw [hmeas, hclosing, hpulse]
  exact Bool.false_ne_true

/-- EIS_START begins a waiting measurement: mode 1, or mode 2 at a resting request (R192, R202, R211). -/
theorem doEisStart_idle {c : Ctx} {mode n : Nat} {s : State} (havail : s.flag F.EIS_STATUS_UNAVAIL = false)
    (hclosed : s.flag F.CTL_STATUS_CLOSED = true) (hmeas : s.eis.meas = none) (hclosing : s.eis.closing = none)
    (hpulse : s.eis.pulse = none) (hmode : mode = 1 ∨ (mode = 2 ∧ restingRequest s (requestNow s) = true))
    (hn : n ≤ 60)
    (htime : ((if n = 0 then s.get F.EIS_CFG_N_AVG else n) + 1) * 10 ≤ s.get F.EIS_TIMEOUT_TIMEOUT) :
    doEisStart c mode n s = setMeas { mode := mode, n := n, phase := .waiting, ctx := some c, reqAt := s.time }
      (replyAccepted c 0x0210 s) := by
  have hallowed : ¬ (s.flag F.EIS_STATUS_UNAVAIL || !s.flag F.CTL_STATUS_CLOSED ||
      (mode == 2 && !restingRequest s (requestNow s))) = true := by
    rw [havail, hclosed]
    obtain rfl | ⟨rfl, hrest⟩ := hmode
    · exact Bool.false_ne_true
    · rw [hrest]
      exact Bool.false_ne_true
  rw [doEisStart, if_neg hallowed, if_neg (eis_not_busy hmeas hclosing hpulse), if_neg (by omega), if_neg (by omega),
    if_neg (Nat.not_lt.2 htime)]

/-- EIS_STOP abandons the measurement with code 4 while EIS is available (R194). -/
theorem doEisStop_available {c : Ctx} {s : State} (h : s.flag F.EIS_STATUS_UNAVAIL = false) :
    doEisStop c s = replyOk c 0x0211 [] (eisAbandon 0x4 s) :=
  if_neg (by rw [h]; exact Bool.false_ne_true)

/-- EIS_STOP is STATE_FORBIDS while EIS is unavailable (R184). -/
theorem doEisStop_unavailable {c : Ctx} {s : State} (h : s.flag F.EIS_STATUS_UNAVAIL = true) :
    doEisStop c s = replyForbids c 0x0211 s := if_pos h

/-- STEP_PULSE at a resting request begins a pulse of 2 s that keeps inside 0.9 of the limits (R205). -/
theorem doStepPulse_idle {c : Ctx} {amp : Int} {s : State} (havail : s.flag F.EIS_STATUS_UNAVAIL = false)
    (hclosed : s.flag F.CTL_STATUS_CLOSED = true) (hrest : restingRequest s (requestNow s) = true)
    (hmeas : s.eis.meas = none) (hclosing : s.eis.closing = none) (hpulse : s.eis.pulse = none) :
    let a : Rat := (amp : Rat) / 1000
    ¬ absQ a < cMin s / 20 → s.ctl.clamped + a ≤ 9 / 10 * s.ctl.limChg →
    -(9 / 10 * s.ctl.limDis) ≤ s.ctl.clamped + a →
    let s1 := replyAccepted c 0x0212 s
    doStepPulse c amp s = { s1 with eis := { s1.eis with
      pulse := some ⟨a, s1.time + 2 * sec, c⟩ } }.set F.EIS_STATUS_MODE 3 := by
  intro a hamp hchg hdis s1
  have hallowed : ¬ (s.flag F.EIS_STATUS_UNAVAIL || !s.flag F.CTL_STATUS_CLOSED ||
      !restingRequest s (requestNow s)) = true := by
    rw [havail, hclosed, hrest]
    exact Bool.false_ne_true
  have hrange : ¬ (absQ a < cMin s / 20 ∨ 9 / 10 * s.ctl.limChg < s.ctl.clamped + a ∨
      s.ctl.clamped + a < -(9 / 10 * s.ctl.limDis)) :=
    not_or_intro hamp (not_or_intro (not_lt.2 hchg) (not_lt.2 hdis))
  rw [doStepPulse, if_neg hallowed, if_neg (eis_not_busy hmeas hclosing hpulse), if_neg hrange]

/-! ## Boundaries, timeouts and publication (R190, R192, R194, R201, R207) -/

/-- A running measurement passes the sweep boundary (R192). -/
theorem exec_sweepBoundary_running {m : Meas} {s : State} :
    let s1 := lanesDue (s.tick tkSweep sweepCounts)
    s1.eis.meas = some m → exec .sweepBoundary s = .next (settle (measBoundary m s1)) := by
  intro s1 hmeas
  change execSweepBoundary s = _
  simp only [execSweepBoundary, s1, hmeas]
  rfl

/-- Without a measurement only an automatic start that is due acts at the sweep boundary (R201). -/
theorem exec_sweepBoundary_idle {s : State} :
    let s1 := lanesDue (s.tick tkSweep sweepCounts)
    s1.eis.meas = none → exec .sweepBoundary s = .next (settle (if autoStart s1 then
      measStart { mode := 1, n := 0, phase := .waiting, ctx := none, reqAt := s1.time } s1 else s1)) := by
  intro s1 hmeas
  change execSweepBoundary s = _
  simp only [execSweepBoundary, s1, hmeas]
  rfl

/-- HEADROOM_RESUME arms the paused measurement 1 s after the headroom returned (R190). -/
theorem exec_headroomResume_held {m : Meas} {t : Nat} {s : State} (hmeas : s.eis.meas = some m)
    (hok : m.okSince = some t) : exec .headroomResume s = .next (settle
      { s.at (t + sec) with eis := { s.eis with meas := some { m with armed := true } } }) := by
  change execHeadroomResume s = _
  simp only [execHeadroomResume, hmeas, hok]
  rfl

/-- EIS_TIMEOUT abandons a started measurement with code 3 (R194). -/
theorem exec_eisTimeout_started {m : Meas} {t : Nat} {s : State} (hmeas : s.eis.meas = some m)
    (hstart : m.startAt = some t) :
    exec .eisTimeout s = .next (settle (eisAbandon 0x3 (s.at (t + m.timeout * sec)))) := by
  change execEisTimeout s = _
  simp only [execEisTimeout, hmeas, hstart]
  rfl

/-- RESULT_PUBLISH publishes the measurement whose sweeps are complete (R207). -/
theorem exec_resultPublish_closing {m : Meas} {s : State} (h : (lanesDue s).eis.closing = some m) :
    exec .resultPublish s = .next (settle (publishReady m (lanesDue s))) := by
  change execResultPublish s = _
  rw [execResultPublish, h]
  rfl

/-! ## Load steps (R203 to R205) -/

/-- A qualifying step among the samples is evaluated while steps are (R203, R204). -/
theorem stepDue_found {t10 t90 : Nat} {di : Rat} {s : State} (hon : stepsOn s = true)
    (hfound : stepFound s = some (t10, t90, di)) : stepDue s = stepUpdate t10 t90 di s := by
  rw [stepDue, if_pos hon, hfound]

/-- STEP_PULSE_END evaluates the second edge a second after the pulse and ends it (R205). -/
theorem exec_stepPulseEnd_running {x : Pulse} {s : State} (h : s.eis.pulse = some x) :
    exec .stepPulseEnd s = .next (settle (pulseStop (stepDue (s.at (x.endAt + sec))))) := by
  change execStepPulseEnd s = _
  rw [execStepPulseEnd, h]
  rfl

/-! ## The rows -/

/-- Settles O39: each row's tests are decided by the conditions of its clause; the opcodes run their effect on the
admission, which leaves what they test. -/
theorem impedanceCommandsComplete : Obligations.ImpedanceCommandsComplete := by
  unfold Obligations.ImpedanceCommandsComplete
  intro c p mode n amp di m x t t10 t90 s
  refine ⟨fun hadm havail hclosed hmeas hclosing hpulse hmode hn htime => ?start,
    fun hadm => ⟨fun h => finish_withCmd_admitted hadm (doEisStop_available h),
      fun h => finish_withCmd_admitted hadm (doEisStop_unavailable h)⟩,
    fun hadm havail hclosed hrest hmeas hclosing hpulse hamp hchg hdis => ?pulse,
    ⟨exec_sweepBoundary_running, fun hmeas hauto => ?auto, fun hmeas hauto => ?quiet⟩,
    fun hmeas => ⟨exec_headroomResume_held hmeas, exec_eisTimeout_started hmeas⟩,
    exec_resultPublish_closing,
    fun hadm => congrArg finish (withWrite_admitted _ hadm),
    fun hon hfound => congrArg finish (stepDue_found hon hfound),
    exec_stepPulseEnd_running⟩
  case start =>
    have hmodeNat := hmode.imp (congrArg BitVec.toNat) (And.imp_left (congrArg BitVec.toNat))
    exact finish_withCmd_admitted hadm (doEisStart_idle havail hclosed hmeas hclosing hpulse hmodeNat hn htime)
  case pulse =>
    exact finish_withCmd_admitted hadm
      (doStepPulse_idle havail hclosed hrest hmeas hclosing hpulse hamp hchg hdis)
  case auto => rw [exec_sweepBoundary_idle hmeas, if_pos hauto]
  case quiet => rw [exec_sweepBoundary_idle hmeas, if_neg (Bool.eq_false_iff.1 hauto)]

end Sys2Proof.Proofs
end

section
/-!
SUPPORT. The commands of the state estimation (R208, R221, R231, R232, R243, R262): under the conditions of a clause a
row's own tests are decided, and its effect is left.
-/

namespace Sys2Proof.Proofs

open Sys2Proof Sys2Proof.Machine

/-! ## Rest points and refits (R208, R221, R231, R232) -/

/-- The filters act on a configured position outside direct mode (R26). -/
theorem rest_considered {n : Nat} {s : State} (hruns : estRuns s = true) (hdirect : s.direct = false)
    (hn : n < posCount s) : (estRuns s && estActs s && decide (n < posCount s)) = true := by
  rw [hruns, estActs, hdirect, decide_eq_true hn]
  rfl

/-- REST_POINT accepts the reference of a position that meets the conditions of a real rest point (R231). -/
theorem exec_restPoint_considered {n : Nat} {s : State} (hruns : estRuns s = true) (hdirect : s.direct = false)
    (hn : n < posCount s) : exec (.restPoint n) s = .next (settle (match realRest s n with
      | some soc => addRec sevInfo 0x06 0x0010 (u16 1 ++ u16 n) (acceptRef n 2 soc 1 s)
      | none => s)) :=
  congrArg finish (if_pos (rest_considered hruns hdirect hn))

/-- VIRTUAL_REST accepts the reference of a position that meets the conditions of a virtual rest point (R232). -/
theorem exec_virtualRest_considered {n : Nat} {s : State} (hruns : estRuns s = true) (hdirect : s.direct = false)
    (hn : n < posCount s) : exec (.virtualRest n) s = .next (settle (match virtualRest s n with
      | some v => addRec sevInfo 0x06 0x0010 (u16 1 ++ u16 n) (acceptRef n 3 v.1 v.2 s)
      | none => s)) := by
  refine (congrArg finish (if_pos (rest_considered hruns hdirect hn))).trans ?_
  cases virtualRest s n <;> rfl

/-- FIT_DONE takes the fit of every row of the published result (R208, R221). -/
theorem exec_fitDone_refit {seq : Nat} {r : ZResult} {s : State} (hresult : s.eis.result = some (seq, r))
    (hrefit : s.eis.refit = true) : exec .fitDone s = .next (settle (raise C.FIT_DONE
      (r.rows.foldl (takeFit seq) { s with eis := { s.eis with refit := false } }))) := by
  change execFitDone s = _
  rw [execFitDone, hresult]
  exact congrArg finish (if_pos hrefit)

/-! ## The opcodes (R262) -/

/-- EST_INSERT of configured positions asks for their insertion at the next tick (R229). -/
theorem doEstInsert_range {c : Ctx} {first count : Nat} {s : State} (h1 : 1 ≤ count)
    (hpos : first + count ≤ posCount s) (h576 : count ≤ 576) :
    doEstInsert c first count s = replyOk c 0x0300 [] { s with est := { s.est with
      insertNow := s.est.insertNow ++ (List.range count).map (· + first) } } := by
  rw [doEstInsert, if_neg (by omega), if_neg (by omega)]

/-- CAPACITY_SET from 0.5 to 1.5 of the rated capacity sets it and records it. -/
theorem doCapacitySet_range {c : Ctx} {pos cap unc : Nat} {s : State} (hpos : pos < posCount s ∨ pos = 0xFFFF)
    (hlow : s.get F.EST_RATED_CAP_RATED ≤ 2 * cap) (hhigh : 2 * cap ≤ 3 * s.get F.EST_RATED_CAP_RATED) :
    let l := if pos = 0xFFFF then positions s else [pos]
    doCapacitySet c pos cap unc s = replyOk c 0x0301 [] (addRec sevNotice 0x06 0x0012
      (u16 pos ++ u32 cap ++ originBytes (Ctx.origin c)) (l.foldl (capSet cap unc) s)) := by
  intro l
  rw [doCapacitySet, if_neg (by omega), if_neg (by omega)]

/-- EST_PERSIST asks for a write of the slot while no power-fail write has ended persistence (R244, R245). -/
theorem doEstPersist_open {c : Ctx} {s : State} (h : s.flag F.EST_STATUS_PF_DONE = false) :
    let s1 := replyAccepted c 0x0302 s
    doEstPersist c s = { s1 with est := { s1.est with
      persistReq := true, persistCtx := s1.est.persistCtx ++ [c] } } :=
  if_neg (by rw [h]; exact Bool.false_ne_true)

/-- EST_PERSIST is BUSY_RETRY with the hint of 100 ms once the power-fail write has ended persistence (R245, R262). -/
theorem doEstPersist_powerFail {c : Ctx} {s : State} (h : s.flag F.EST_STATUS_PF_DONE = true) :
    doEstPersist c s = replyBusy c 0x0302 100 s := if_pos h

/-! ## The rows -/

/-- Settles O40: each row's tests are decided by the conditions of its clause; the opcodes run their effect on the
admission, which leaves what they test. -/
theorem estimationCommandsComplete : Obligations.EstimationCommandsComplete := by
  unfold Obligations.EstimationCommandsComplete
  intro c first count pos unc cap n seq ok r s
  exact ⟨fun hruns hdirect hn => ⟨exec_restPoint_considered hruns hdirect hn,
      exec_virtualRest_considered hruns hdirect hn⟩,
    exec_fitDone_refit, rfl,
    fun hadm h1 hpos h576 => finish_withCmd_admitted hadm (doEstInsert_range h1 hpos h576),
    fun hadm hpos hlow hhigh => finish_withCmd_admitted hadm (doCapacitySet_range hpos hlow hhigh),
    fun hadm => ⟨fun h => finish_withCmd_admitted hadm (doEstPersist_open h),
      fun h => finish_withCmd_admitted hadm (doEstPersist_powerFail h)⟩⟩

end Sys2Proof.Proofs
end

section
/-!
SUPPORT. The commands of the balancing (R266, R278, R279, R282, R290): under the conditions of a clause a row's own
tests are decided, and its effect is left.
-/

namespace Sys2Proof.Proofs

open Sys2Proof Sys2Proof.Machine

/-! ## Effects of the module's own rows -/

/-- Without a finished plan nothing is sent (R266). -/
theorem planSend_none {s : State} (h : s.bal.next = none) : planSend s = s := by
  rw [planSend, h]

/-- While no run of overshoots has reached 10 the request stays (R278). -/
theorem cvOvershoot_short {s : State} (h : ∀ e ∈ s.bal.ovsRun, e.2 < 10) : cvOvershoot s = s := by
  have hnone : s.bal.ovsRun.filter (fun e => decide (10 ≤ e.2)) = [] := by simpa using h
  rw [cvOvershoot, hnone]

/-- The estimation tick after the wake takes up the reports only in an awake state (R282). -/
theorem reports_considered {s : State} (hdue : s.bal.reportDue = true) (hawake : s.awake = true) :
    (s.bal.reportDue && s.awake) = true := by
  rw [hdue, hawake]
  rfl

/-- Reports that are due in an awake state are applied to every position, and the mark is cleared (R282). -/
theorem exec_oasisReportApply_due {s : State} (hdue : s.bal.reportDue = true) (hawake : s.awake = true)
    (hsome : s.bal.reports ≠ []) :
    let s1 := (positions s).foldl reportApply { s with bal := { s.bal with reportDue := false } }
    exec .oasisReportApply s = .next (settle (raise C.OASIS_REPORT
      (if s1.bal.reports.any (fun e => e.2.timedOut != 0) then raise C.BAL_TIMEOUT s1 else s1))) := by
  have hfull : ¬ s.bal.reports.isEmpty = true := by rwa [List.isEmpty_iff]
  exact congrArg finish ((if_pos (reports_considered hdue hawake)).trans (if_neg hfull))

/-- Where no board has reported only the mark is cleared (R282). -/
theorem exec_oasisReportApply_empty {s : State} (hdue : s.bal.reportDue = true) (hawake : s.awake = true)
    (hnone : s.bal.reports = []) :
    exec .oasisReportApply s = .next (settle { s with bal := { s.bal with reportDue := false } }) := by
  exact congrArg finish ((if_pos (reports_considered hdue hawake)).trans (if_pos (List.isEmpty_iff.2 hnone)))

/-- An entry to OASIS completes once no AON write is posted and no board is awaited (R51, R279). -/
theorem sleepTry_answered {x : Ctx} {s : State} (hsleep : s.sys.sleep = some (stOasis, x))
    (hfree : s.flag (postBusy .aon) = false) (hall : s.bal.handoff = some []) :
    sleepTry s = sleepNow stOasis x s := by
  rw [sleepTry, hsleep, hfree, hall]
  rfl

/-! ## Effects of the opcodes (R290) -/

/-- BAL_POLICY of a policy on offer stores it with its alignment while no owner holds the balancing. -/
theorem doBalPolicy_offered {c : Ctx} {p a : Nat} {s : State} (hfree : s.flag F.BAL_STATUS_OWNED = false)
    (hp : policyOk s p (s.get F.BAL_FCV_V_CV) = true) (ha : a ≤ 1) :
    doBalPolicy c p a s = replyOk c 0x0400 [] (policyWritten (storeWord (Ctx.origin c) 0x14000
      (withField (withField (s.word 0x14000) 0 2 p) 8 1 a) s)) := by
  rw [doBalPolicy, hfree, hp, if_neg Bool.false_ne_true]
  exact (if_neg Bool.false_ne_true).trans (if_neg (Nat.not_lt.2 ha))

/-- BAL_MANUAL of a present board sends its mask at once and holds it; a board of class FCV has no MAX_ON. -/
theorem doBalManual_range {c : Ctx} {k mask byp hold : Nat} {s : State} (h1 : 1 ≤ k) (h36 : k ≤ 36)
    (hk : k ≤ boards s) (hp : present s k = true)
    (hmask : brdClass s k ≠ 3 → popcount mask ≤ s.get F.BAL_CFG_MAX_ON) (hh1 : 1 ≤ hold) (hh : hold ≤ 600) :
    doBalManual c k mask byp hold s = replyOk c 0x0402 [] (balSet k mask byp { s with bal := { s.bal with
      manual := tabSet s.bal.manual k (mask, byp, s.time + hold * sec) } }) := by
  have hthere : ¬ (boards s < k ∨ present s k = false) :=
    not_or_intro (Nat.not_lt.2 hk) (ne_false_of_eq_true hp)
  have hfew : ¬ (brdClass s k ≠ 3 ∧ s.get F.BAL_CFG_MAX_ON < popcount mask) :=
    fun ⟨hclass, hmany⟩ => (hmask hclass).not_gt hmany
  rw [doBalManual, if_neg (by omega), if_neg hthere, if_neg hfew, if_neg (by omega)]

/-- OASIS_REPORT_READ of a board number replies its row once a report is valid; a board that sent none reads zeroes
(log entry 118). -/
theorem doOasisReportRead_valid {c : Ctx} {k : Nat} {s : State} (hvalid : s.flag F.BAL_STATUS_OASIS_VALID = true)
    (h1 : 1 ≤ k) (h36 : k ≤ 36) :
    let r := tabGet s.bal.reports k {}
    doOasisReportRead c k s = replyOk c 0x0403 (u16 r.reached ++ u16 r.timedOut ++
      ((List.range 16).map (fun j => u16 (getAt r.charge j 0))).flatten) s := by
  intro r
  rw [doOasisReportRead, hvalid]
  exact (if_neg Bool.false_ne_true).trans (if_neg (by omega))

/-! ## The rows -/

/-- Settles O41: each row's tests are decided by the conditions of its clause; the opcodes run their effect on the
admission, which leaves what they test. -/
theorem balancingCommandsComplete : Obligations.BalancingCommandsComplete := by
  unfold Obligations.BalancingCommandsComplete
  intro c policy align k mask byp hold s
  exact ⟨rfl, fun hnone => congrArg finish (planSend_none hnone), rfl,
    fun hshort => congrArg finish (cvOvershoot_short hshort),
    fun hdue hawake => ⟨exec_oasisReportApply_due hdue hawake, exec_oasisReportApply_empty hdue hawake⟩,
    rfl, fun x hsleep hfree hall => congrArg finish (sleepTry_answered hsleep hfree hall),
    fun hadm hfree hp ha => finish_withCmd_admitted hadm (doBalPolicy_offered hfree hp ha),
    fun hadm => finish_withCmd_admitted hadm rfl,
    fun hadm h1 h36 hk hp hmask hh1 hh => finish_withCmd_admitted hadm (doBalManual_range h1 h36 hk hp hmask hh1 hh),
    fun hadm hvalid h1 h36 => finish_withCmd_admitted hadm (doOasisReportRead_valid hvalid h1 h36)⟩

end Sys2Proof.Proofs
end

section
/-!
SUPPORT. What the opening of the loop leaves of the converter and the impedance measurement (R194, R205, R297, R306,
R307): replies, causes and records touch neither, so each of them holds what the opening itself gives it.
-/

namespace Sys2Proof.Proofs

open Sys2Proof Sys2Proof.Machine Sys2Proof.Laws

/-! ## Replies, causes and records -/

/-- The parts of State of the converter control and of the impedance measurement, beside their registers. -/
def engines (s : State) : Ctl × Eis := (s.ctl, s.eis)

@[simp] theorem engines_set (s : State) (f : Fld) (v : Nat) : engines (s.set f v) = engines s := rfl
@[simp] theorem engines_setB (s : State) (f : Fld) (b : Bool) : engines (s.setB f b) = engines s := rfl
@[simp] theorem engines_raise (c : Cause) (s : State) : engines (raise c s) = engines s := rfl

@[simp] theorem engines_countDrop (n : Nat) (s : State) : engines (countDrop n s) = engines s := by
  simp only [countDrop]
  split <;> rfl

@[simp] theorem engines_enterRec (r : Rec) (s : State) : engines (enterRec r s) = engines s := by
  simp only [enterRec]
  split
  · rfl
  · split
    · exact engines_countDrop _ _
    · exact engines_countDrop _ _

@[simp] theorem engines_addRec (a b c : Nat) (p : List Byte) (s : State) : engines (addRec a b c p s) = engines s :=
  engines_enterRec _ _

@[simp] theorem engines_causeRec (c : Cause) (n : Nat) (p : List Byte) (s : State) :
    engines (causeRec c n p s) = engines s := (engines_addRec _ _ _ _ _).trans (engines_raise c s)

@[simp] theorem engines_mboxReply (p : List Byte) (s : State) : engines (mboxReply p s) = engines s := by
  simp only [mboxReply]
  split <;> rfl

@[simp] theorem engines_mboxNotify (p : List Byte) (s : State) : engines (mboxNotify p s) = engines s := by
  simp only [mboxNotify]
  split
  · split
    · split <;> rfl
    · rfl
  · rfl

@[simp] theorem engines_transmit (c : Ctx) (n : Bool) (p : List Byte) (s : State) :
    engines (transmit c n p s) = engines s := by
  simp only [transmit]
  split
  · rfl
  · rfl
  · split
    · exact engines_mboxNotify p s
    · exact engines_mboxReply p s
  · split <;> rfl

@[simp] theorem engines_keepReply (c : Ctx) (st : Nat) (n : Bool) (p : List Byte) (s : State) :
    engines (keepReply c st n p s) = engines s := by
  simp only [keepReply]
  split
  · rfl
  · split <;> rfl

@[simp] theorem engines_freeSlot (c : Ctx) (s : State) : engines (freeSlot c s) = engines s := by
  simp only [freeSlot]
  split <;> rfl

@[simp] theorem engines_discardReply (c : Ctx) (n : Bool) (s : State) :
    engines (discardReply c n s) = engines s := by
  simp only [discardReply]
  split <;> rfl

@[simp] theorem engines_respond (c : Ctx) (n : Bool) (op st : Nat) (p : List Byte) (s : State) :
    engines (respond c n op st p s) = engines s := by
  have kept : engines (if st = stAccepted then keepReply c st n p s else freeSlot c (keepReply c st n p s)) =
      engines s := by
    split
    · exact engines_keepReply c st n p s
    · exact (engines_freeSlot _ _).trans (engines_keepReply c st n p s)
  unfold respond
  dsimp only
  generalize (if st = stAccepted then keepReply c st n p s else freeSlot c (keepReply c st n p s)) = t at kept ⊢
  split
  · exact (engines_transmit _ _ _ _).trans kept
  · exact (engines_discardReply _ _ _).trans kept

@[simp] theorem engines_notifyOpt (c : Option Ctx) (op st : Nat) (p : List Byte) (s : State) :
    engines (notifyOpt c op st p s) = engines s := by
  cases c
  · rfl
  · exact engines_respond _ _ _ _ _ _

/-! ## What ends with the loop (R194, R205, R339, R352) -/

@[simp] theorem engines_eisLanes (b : Bool) (s : State) : engines (eisLanes b s) = engines s :=
  foldl_keeps _ _ (fun _ _ => engines_setB _ _ _) _ _

/-- An abandoned measurement is gone; nothing else of the two parts changes. -/
theorem engines_eisAbandon (n : Nat) (s : State) :
    engines (eisAbandon n s) = (s.ctl, { s.eis with meas := none }) := by
  have counted (b : Bool) (t : State) : engines (if b then t.bump F.EIS_INC_CNT_VALUE 1 else t) = engines t := by
    split <;> rfl
  simp only [eisAbandon]
  split
  case h_1 hnone => rw [← hnone]; rfl
  case h_2 => simp only [engines_notifyOpt, engines_addRec, engines_raise, engines_set, counted, engines_eisLanes]; rfl

/-- A pulse that is stopped is gone; nothing else of the two parts changes. -/
theorem engines_pulseStop (s : State) : engines (pulseStop s) = (s.ctl, { s.eis with pulse := none }) := by
  simp only [pulseStop]
  split
  case h_1 hnone => rw [← hnone]; rfl
  case h_2 => simp only [engines_notifyOpt, engines_set]; rfl

/-- Without a pulse there is none to cut. -/
theorem pulseCut_none {s : State} (h : s.eis.pulse = none) : pulseCut s = s := by
  simp only [pulseCut, h]

@[simp] theorem engines_releasePolicy (r : Run) (s : State) : engines (releasePolicy r s) = engines s := by
  simp only [releasePolicy]
  split <;> rfl

@[simp] theorem engines_stepEnd (b : Bool) (r : Run) (s : State) : engines (stepEnd b r s).2 = engines s := by
  simp only [stepEnd]
  split
  · refine (engines_releasePolicy _ _).trans ?_
    split
    · exact engines_addRec _ _ _ _ _
    · rfl
  · rfl

@[simp] theorem engines_publishGrades (n : Nat) (s : State) : engines (publishGrades n s) = engines s := rfl

/-- With no pulse to cut, the end of a recipe touches neither part. -/
theorem engines_recipeEnd (n : Nat) {s : State} (h : s.eis.pulse = none) : engines (recipeEnd n s) = engines s := by
  have graded (b : Bool) (m : Nat) (t : State) : engines (if b then publishGrades m t else t) = engines t := by
    split <;> rfl
  have told (t : State) (p : List Byte) : engines (if n = 1 then raise C.RECIPE_DONE t
      else causeRec C.RECIPE_ABORT sevWarning p t) = engines t := by
    split
    · rfl
    · exact engines_causeRec _ _ _ t
  have cleared (t : State) (x : Disp) : engines { t with disp := x } = engines t := rfl
  simp only [recipeEnd, pulseCut_none h, ite_self]
  split
  · rfl
  · simp only [engines_notifyOpt, graded, told, engines_set, engines_setB, cleared, engines_stepEnd]

@[simp] theorem engines_dispatchOff (s : State) : engines (dispatchOff s) = engines s := rfl

/-- What ends with the loop: the measurement and the pulse are gone. -/
theorem engines_loopEnds (s : State) :
    engines (loopEnds s) = (s.ctl, { s.eis with meas := none, pulse := none, closedAt := none }) := by
  have abandoned := Prod.mk.inj (engines_eisAbandon 0x5 s)
  have stopped := Prod.mk.inj (engines_pulseStop (eisAbandon 0x5 s))
  rw [abandoned.1, abandoned.2] at stopped
  unfold loopEnds
  dsimp only
  rw [engines_dispatchOff, engines_recipeEnd _ (by dsimp only; rw [stopped.2]), engines, stopped.1, stopped.2]

/-! ## The opening itself (R297, R306, R307) -/

@[simp] theorem engines_dutiesOff (s : State) : engines (dutiesOff s) = engines s :=
  foldl_keeps _ _ (fun _ _ => (engines_setB _ _ _).trans (engines_set _ _ _)) _ _

@[simp] theorem engines_loopShow (n : Nat) (s : State) : engines (loopShow n s) = engines s := by
  unfold loopShow
  rw [engines_dutiesOff, engines_set, engines_setB, engines_setB, engines_setB]

theorem loopOpen_of_closed {s : State} (n : Nat) (h : s.flag F.CTL_STATUS_CLOSED = true) :
    loopOpen n s = loopEnds (causeRec C.LOOP_OPEN (openSev n) (u8 n) (loopClear (loopShow n s))) := if_pos h

/-- An opening clears the converter's histories and ends the measurement and the pulse. -/
theorem engines_loopOpen {s : State} (n : Nat) (h : s.flag F.CTL_STATUS_CLOSED = true) :
    engines (loopOpen n s) = ((loopClear s).ctl, { s.eis with meas := none, pulse := none, closedAt := none }) := by
  have shown := Prod.mk.inj (engines_loopShow n s)
  have recorded := Prod.mk.inj (engines_causeRec C.LOOP_OPEN (openSev n) (u8 n) (loopClear (loopShow n s)))
  rw [loopOpen_of_closed n h, engines_loopEnds, recorded.1, recorded.2, loopClear, shown.1, shown.2]
  rfl

/-- A field of CTL_STATUS after an opening is what the opening writes there. -/
theorem get_status_loopOpen {s : State} (n : Nat) (h : s.flag F.CTL_STATUS_CLOSED = true) {f : Fld}
    (hf : f.addr = 0x20050) : (loopOpen n s).get f =
      ((((s.setB F.CTL_STATUS_CLOSED false).setB F.CTL_STATUS_COASTING true).setB F.CTL_STATUS_SLEWING false).set
        F.CTL_STATUS_OPEN_CAUSE n).get f := by
  refine get_congr ?_
  rw [loopOpen_of_closed n h, hf]
  exact (SameWords_loopTail n (loopShow n s) 0x20050 (by decide)).trans (status_loopShow n s)

/-- While the loop is open the converter coasts (R297). -/
theorem coasting_loopOpen {s : State} (n : Nat) (h : s.flag F.CTL_STATUS_CLOSED = true) :
    (loopOpen n s).flag F.CTL_STATUS_COASTING = true := by
  rw [State.flag, get_status_loopOpen n h rfl, get_set_apart _ _ _ _ (by decide), State.setB,
    get_set_apart _ _ _ _ (by decide)]
  exact flag_setB_same _ F.CTL_STATUS_COASTING true (by decide) (by decide)

/-- OPEN_CAUSE names the opening (R306). -/
theorem openCause_loopOpen {s : State} {n : Nat} (h : s.flag F.CTL_STATUS_CLOSED = true) (hn : n < 256) :
    (loopOpen n s).get F.CTL_STATUS_OPEN_CAUSE = n :=
  (get_status_loopOpen n h rfl).trans
    ((get_set_same _ F.CTL_STATUS_OPEN_CAUSE n (by decide)).trans (Nat.mod_eq_of_lt hn))

/-- A phase has no duty and is not active (R297). -/
def PhaseOff (s : State) (x : Nat) : Prop := s.get (F.PWM_PH_DUTY x) = 0 ∧ s.flag (F.PWM_PH_ACTIVE x) = false

theorem PhaseOff_congr {s t : State} {x : Nat} (hw : t.word (0x21000 + 4 * x) = s.word (0x21000 + 4 * x))
    (h : PhaseOff s x) : PhaseOff t x :=
  ⟨(get_congr (f := F.PWM_PH_DUTY x) hw).trans h.1, (flag_congr (f := F.PWM_PH_ACTIVE x) hw).trans h.2⟩

/-- One phase goes off, as `dutiesOff` does it. -/
def phaseCut (s : State) (x : Nat) : State := (s.set (F.PWM_PH_DUTY x) 0).setB (F.PWM_PH_ACTIVE x) false

theorem PhaseOff_phaseCut_same (s : State) (x : Nat) : PhaseOff (phaseCut s x) x :=
  ⟨(get_set_apart _ (F.PWM_PH_ACTIVE x) (F.PWM_PH_DUTY x) _ (apart_of_addr (.inl (by decide : 0 + 1 ≤ 16)))).trans
      (get_set_same s (F.PWM_PH_DUTY x) 0 (by decide : 16 + 16 ≤ 32)),
    flag_setB_same _ (F.PWM_PH_ACTIVE x) false (by decide : 0 + 1 ≤ 32) Nat.one_pos⟩

theorem PhaseOff_phaseCut {s : State} {x : Nat} (y : Nat) (h : PhaseOff s x) : PhaseOff (phaseCut s y) x := by
  by_cases hxy : x = y
  · exact hxy ▸ PhaseOff_phaseCut_same s x
  · have hne : 0x21000 + 4 * x ≠ 0x21000 + 4 * y := by omega
    exact PhaseOff_congr ((word_set_other _ (F.PWM_PH_ACTIVE y) _ _ hne).trans
      (word_set_other _ (F.PWM_PH_DUTY y) _ _ hne)) h

/-- Every phase of a list that goes off is off afterwards. -/
theorem PhaseOff_foldl {l : List Nat} {s : State} {x : Nat} (h : PhaseOff s x ∨ x ∈ l) :
    PhaseOff (l.foldl phaseCut s) x := by
  induction l generalizing s with
  | nil => exact h.resolve_right (List.not_mem_nil)
  | cons y l ih =>
    refine ih ?_
    obtain hoff | hmem := h
    · exact .inl (PhaseOff_phaseCut y hoff)
    · obtain rfl | hmem := List.mem_cons.1 hmem
      · exact .inl (PhaseOff_phaseCut_same s x)
      · exact .inr hmem

/-- After an opening every phase is off. -/
theorem PhaseOff_loopOpen {s : State} (n : Nat) (h : s.flag F.CTL_STATUS_CLOSED = true) {x : Nat} (hx : x < 6) :
    PhaseOff (loopOpen n s) x := by
  have hpage : (0x21000 + 4 * x) / 0x1000 = 0x21 := by omega
  rw [loopOpen_of_closed n h]
  refine PhaseOff_congr (SameWords_loopTail n (loopShow n s) _ (by rw [hpage]; decide)) ?_
  exact PhaseOff_foldl (.inr (List.mem_range.2 hx))

/-- An opening latches LOOP_OPEN (R306). -/
theorem cause_loopOpen {s : State} (n : Nat) (h : s.flag F.CTL_STATUS_CLOSED = true) :
    bitOf ((loopOpen n s).word (F.INT_CAUSE_CAUSE C.LOOP_OPEN.g).addr) C.LOOP_OPEN.b = true := by
  rw [loopOpen_of_closed n h]
  exact keepsCauses_loopEnds (keepsCauses_addRec (keepsCauses_refl _) _ _ _ _) _ _ (by decide)
    (bitOf_raise C.LOOP_OPEN _ (by decide))

/-- Settles O53: the opening's own words survive what ends with the loop, the two engines hold what it gives them, and
the blocks from 0x23000 to 0x31FFF are none of those it writes. -/
theorem loopOpeningLeavesNothingRunning : Obligations.LoopOpeningLeavesNothingRunning := by
  unfold Obligations.LoopOpeningLeavesNothingRunning
  intro code s
  refine ⟨loopOpen_of_open code, fun hclosed hcode => ?_⟩
  obtain ⟨hctl, heis⟩ := Prod.mk.inj (engines_loopOpen code hclosed)
  refine ⟨closed_loopOpen code s, coasting_loopOpen code hclosed, openCause_loopOpen hclosed (by omega),
    fun x hx => PhaseOff_loopOpen code hclosed hx, ?cur, ?outer, ?mem, ?meas, ?pulse, cause_loopOpen code hclosed,
    fun a hlow hhigh => SameOutside_loopOpen code s a ?page⟩
  case cur | outer | mem => rw [hctl]; rfl
  case meas | pulse => rw [heis]
  case page =>
    simp only [loopBlocks, List.mem_cons, List.not_mem_nil, or_false]
    omega

end Sys2Proof.Proofs
end

section
/-!
SUPPORT. MIRAGE and the anchors of the estimator (R235, R250, R315, R316): the loss of the primary feedback drops every
anchor, which a statement of the row's effect on the register fields alone leaves standing.
-/

namespace Sys2Proof.Proofs

open Sys2Proof Sys2Proof.Machine Sys2Proof.Laws

/-- The first Mirage detection latches, loses the primary feedback with every anchor, and opens the loop (R315, R316). -/
theorem exec_mirage_detected {s : State} (hclosed : s.flag F.CTL_STATUS_CLOSED = true) (hbad : mirageBad s = true)
    (hlatch : s.flag F.CTL_FB_MIRAGE_LATCH = false) : exec .mirage s = .next (settle (loopOpen 0x06
      (raise C.MIRAGE (primaryLost (s.setB F.CTL_FB_MIRAGE_LATCH true))))) := by
  have hrun : (s.flag F.CTL_STATUS_CLOSED && mirageBad s) = true := by rw [hclosed, hbad]; rfl
  have hact : mirageAct s = loopOpen 0x06 (raise C.MIRAGE (primaryLost (s.setB F.CTL_FB_MIRAGE_LATCH true))) :=
    if_neg (by rw [hlatch]; decide)
  exact congrArg finish ((if_pos hrun).trans hact)

/-- The opening of the loop and the end of a command leave the estimator alone. -/
theorem est_settle_loopOpen (n : Nat) (s : State) : (settle (loopOpen n s)).est = s.est :=
  (settle_est _).trans (congrArg (·.2.2.2.2.2.2.2.1) (inner_loopOpen n s))

/-- In RUN with the loop closed, 2,000 samples have stood still while u moved over its whole range, and position 0 has
an anchor at 50 %. -/
def frozenFeedback : State :=
  { (State.reset.set F.SYS_STATE_STATE stRun).setB F.CTL_STATUS_CLOSED true with
    ctl := { mirN := 2000, mirMax := 1 }
    est := { rows := [(0, { anchor := some ⟨50, 1, 2, 0, 0, 0⟩ })] } }

theorem frozenFeedback_detected : frozenFeedback.flag F.CTL_STATUS_CLOSED = true ∧
    mirageBad frozenFeedback = true ∧ frozenFeedback.flag F.CTL_FB_MIRAGE_LATCH = false := by
  decide +kernel

/-- Refutes O42: in `frozenFeedback` MIRAGE drops the anchor of position 0 (R250, R316), and the state that the clause
of MIRAGE names, which differs in register fields alone, still holds it. -/
theorem not_converterCommandsComplete : ¬ Obligations.ConverterCommandsComplete := by
  unfold Obligations.ConverterCommandsComplete
  intro h
  obtain ⟨hclosed, hbad, hlatch⟩ := frozenFeedback_detected
  obtain ⟨-, -, -, -, -, -, -, -, hmirage, -⟩ := h ⟨.tws, .eth1, false, 0, 0⟩ .win 0 ⟨0, false⟩ frozenFeedback
  have hsame := (exec_mirage_detected hclosed hbad hlatch).symm.trans (hmirage hclosed hbad hlatch)
  injection hsame with hstate
  have hest := congrArg State.est hstate
  rw [est_settle_loopOpen, est_settle_loopOpen] at hest
  have hanchor := congrArg (fun e : Est => e.rows.map (fun r => r.2.anchor.isSome)) hest
  exact absurd hanchor (by decide : [false] ≠ [true])

end Sys2Proof.Proofs
end

section
/-!
SUPPORT. The commands of dispatch (R337 to R340, R343, R345): under the conditions of a clause a row's own tests are
decided, and its effect is left.
-/

namespace Sys2Proof.Proofs

open Sys2Proof Sys2Proof.Machine

/-! ## The setpoint mailbox (R337 to R339) -/

/-- A setpoint that a test of R338 rejects counts in SP_REJ, and its reason is shown. -/
theorem setpointIn_rejected {path code : Nat} {b : List Byte} {s : State} (h : setpointReject path b s = some code) :
    setpointIn path b s = (s.bump F.DISP_SP_REJ_VALUE 1).set F.DISP_STATUS_REJ_REASON code := by
  rw [setpointIn, h]

/-- A stale setpoint only counts in SP_STALE (R339). -/
theorem setpointIn_stale {path : Nat} {b : List Byte} {s : State} (h : setpointReject path b s = none)
    (hstale : setpointStale path b s = true) : setpointIn path b s = s.bump F.DISP_SP_STALE_VALUE 1 := by
  rw [setpointIn, h]
  exact if_pos hstale

/-- A setpoint that is neither rejected nor stale is accepted (R338, R339). -/
theorem setpointIn_newer {path : Nat} {b : List Byte} {s : State} (h : setpointReject path b s = none)
    (hstale : setpointStale path b s = false) : setpointIn path b s = setpointAccept path b s := by
  rw [setpointIn, h]
  exact if_neg (by rw [hstale]; exact Bool.false_ne_true)

/-- The note that a packet was heard touches nothing that R338 tests. -/
theorem setpointReject_noteHeard (path : Nat) (b : List Byte) (s : State) :
    setpointReject path b (noteHeard s) = setpointReject path b s := rfl

/-- The note that a packet was heard touches nothing that R339 tests. -/
theorem setpointStale_noteHeard (path : Nat) (b : List Byte) (s : State) :
    setpointStale path b (noteHeard s) = setpointStale path b s := rfl

/-- An RCP-2 packet over UDP brings its setpoint to the mailbox (R337). -/
theorem exec_setpoint_udp {c : Ctx} {bytes : List Byte} {s : State} (hopen : rcpOpen c s = true)
    (hudp : isUdp c.src = true) (hv1 : c.v1 = false) :
    exec (.setpoint c bytes) s = .next (settle (setpointIn 1 bytes (noteHeard s))) := by
  have hform : (isUdp c.src && !c.v1) = true := by rw [hudp, hv1]; rfl
  exact congrArg finish ((if_pos hopen).trans (if_pos hform))

/-- In any other form the opcode is BAD_OPCODE (R337). -/
theorem exec_setpoint_otherForm {c : Ctx} {bytes : List Byte} {s : State} (hopen : rcpOpen c s = true)
    (hform : isUdp c.src = false ∨ c.v1 = true) :
    exec (.setpoint c bytes) s = .next (settle (reply c 0x0600 stBadOp [] (noteHeard s))) := by
  have hother : ¬ (isUdp c.src && !c.v1) = true := by
    obtain hsrc | hv1 := hform
    · simp [hsrc]
    · simp [hv1]
  exact congrArg finish ((if_pos hopen).trans (if_neg hother))

/-- A frame that CANA takes brings its setpoint to the mailbox, after the receive object has it (R337). -/
theorem exec_setpointCanFrame_taken {bytes : List Byte} {s : State} (hon : canOn s .cana = true)
    (hlen : bytes.length ≤ 8 ∨ canFdEn s .cana = true) :
    let f : CanFrame := {
      len := bytes.length, fdf := decide (8 < bytes.length), brs := false, data := bytes, at_ := s.time }
    let id := ownerWord (s.word F.DISP_CAN_ID_ID.addr)
    exec (.setpointCanFrame bytes) s = .next (settle (setpointIn 2 bytes (canIn .cana id.1 id.2 f s))) :=
  congrArg finish (if_pos (by simpa [hon] using hlen))

/-! ## Timed setpoints and the loss timer (R340, R343) -/

/-- A timed setpoint that waits becomes active at the first outer-loop sample at or after its instant (R340). -/
theorem exec_timedSetpointApply_waiting {sp : Setpoint} {t : Nat} {s : State} (hwaiting : s.disp.waiting = some sp)
    (htimed : sp.applyAt = some t) : exec .timedSetpointApply s = .next (settle (activate sp
      ({ s.at ((t + 2499) / 2500 * 2500) with disp := { s.disp with waiting := none } }.setB
        F.DISP_STATUS_PENDING false))) := by
  change execTimedSetpointApply s = _
  simp only [execTimedSetpointApply, hwaiting, htimed, activateWaiting, Laws.at_disp, finish_next]

/-- A mark of the loss timer is due while the timer runs and the gap has not had it (R343). -/
theorem lossMark_due {timer seen : Bool} (htimer : timer = true) (hseen : seen = false) : (timer && !seen) = true := by
  rw [htimer, hseen]
  rfl

/-- A mark is not due without a running timer, nor a second time in a gap (R343). -/
theorem lossMark_not_due {timer seen : Bool} (h : timer = false ∨ seen = true) : ¬ (timer && !seen) = true := by
  obtain htimer | hseen := h
  · simp [htimer]
  · simp [hseen]

theorem exec_setpointLate_not_due {s : State} (h : lossTimer s = false ∨ s.disp.lateSeen = true) :
    exec .setpointLate s = .next (settle s) := congrArg finish (if_neg (lossMark_not_due h))

theorem exec_setpointLoss_not_due {s : State} (h : lossTimer s = false ∨ s.disp.lostSeen = true) :
    exec .setpointLoss s = .next (settle s) := congrArg finish (if_neg (lossMark_not_due h))

/-- A limit entry that runs ends 100 ms after the last clamp (R345). -/
theorem exec_limitEntryEnd_running {t : Nat} {s : State} (h : s.disp.lastClamp = some t) :
    exec .limitEntryEnd s = .next (settle (limitEnd (s.at (t + 100 * ms)))) := by
  change execLimitEntryEnd s = _
  rw [execLimitEntryEnd, h]
  rfl

/-! ## The rows -/

/-- Settles O59: the form of a setpoint decides where it goes, and its tests what the mailbox makes of it; the
instants of the mailbox act under the conditions of their clauses. -/
theorem setpointCommandsComplete : Obligations.SetpointCommandsComplete := by
  unfold Obligations.SetpointCommandsComplete
  intro c addr port bytes sp t s
  refine ⟨fun hsrc hv1 hopen => ?udp, exec_setpoint_otherForm, fun hon hlen hnone hnewer => ?can,
    exec_timedSetpointApply_waiting, fun htimer => ⟨fun hseen => congrArg finish (if_pos (lossMark_due htimer hseen)),
      fun hseen => exec_setpointLate_not_due (.inr hseen),
      fun hseen => congrArg finish (if_pos (lossMark_due htimer hseen)),
      fun hseen => exec_setpointLoss_not_due (.inr hseen)⟩,
    fun htimer => ⟨exec_setpointLate_not_due (.inl htimer), exec_setpointLoss_not_due (.inl htimer)⟩,
    exec_limitEntryEnd_running⟩
  case udp =>
    rw [exec_setpoint_udp hopen (by rw [hsrc]; rfl) hv1, ← setpointReject_noteHeard, ← setpointStale_noteHeard]
    exact ⟨fun hnone hnewer => by rw [setpointIn_newer hnone hnewer],
      fun hnone hstale => by rw [setpointIn_stale hnone hstale],
      fun code hcode => by rw [setpointIn_rejected hcode]⟩
  case can => rw [exec_setpointCanFrame_taken hon hlen, setpointIn_newer hnone hnewer]

end Sys2Proof.Proofs
end

section
/-!
SUPPORT. The commands of the formation recipes (R346 to R348, R350 to R353, R361): under the conditions of a clause a
row's own tests are decided, and its effect is left.
-/

namespace Sys2Proof.Proofs

open Sys2Proof Sys2Proof.Machine

/-! ## The opcodes (R361) -/

/-- Outside a plant module a recipe that does not run may be written and sealed (R346). -/
theorem recipe_free {r : Nat} {s : State} (hplant : isPlant s = false) (hrun : running s r = false) :
    ¬ (isPlant s || running s r) = true := by
  rw [hplant, hrun]
  exact Bool.false_ne_true

/-- RECIPE_WRITE of a step in range stores its record and unseals the recipe (R346). -/
theorem doRecipeWrite_range {c : Ctx} {r n : Nat} {b : List Byte} {s : State} (hplant : isPlant s = false)
    (hrun : running s r = false) (hr : r < 16) (hn : n < 64) :
    let x := getRecipe s r
    doRecipeWrite c r n b s =
      replyOk c 0x0601 [] (setSealed r false (putRecipe r { x with steps := tabSet x.steps n b } s)) := by
  intro x
  rw [doRecipeWrite, if_neg (recipe_free hplant hrun), if_neg (by omega), if_neg (by omega)]

/-- The checks of R346 read the registers alone, so the recipe table does not matter to them. -/
theorem firstFail_putRecipe (r count : Nat) (x y : Recipe) (s : State) :
    firstFail (putRecipe r y s) x count = firstFail s x count := rfl

/-- RECIPE_SEAL of a recipe whose steps pass takes its count and limit and seals it; the reply's step byte is free,
since no step fails (R346, log entry 26). -/
theorem doRecipeSeal_passed {c : Ctx} {r count limit : Nat} {s : State} (hplant : isPlant s = false)
    (hrun : running s r = false) (hr : r < 16) (h1 : 1 ≤ count) (h64 : count ≤ 64)
    (hpass : firstFail s (getRecipe s r) count = none) :
    let s1 := setSealed r true (putRecipe r { getRecipe s r with count := count, limit := limit } s)
    doRecipeSeal c r count limit s =
      replyOk c 0x0602 (u8 (Config.freeValue s.free)) { s1 with free := s.free + 1 } := by
  intro s1
  rw [doRecipeSeal, if_neg (recipe_free hplant hrun), if_neg (by omega), if_neg (by omega)]
  simp only [firstFail_putRecipe, hpass]
  rfl

/-- RECIPE_START of a sealed recipe in a test module with the loop closed runs it from its first step (R351). -/
theorem doRecipeStart_ready {c : Ctx} {r first : Nat} {s : State} (hclosed : s.flag F.CTL_STATUS_CLOSED = true)
    (hr : r < 16) (hpers : s.get F.SYS_MODE_PERSONALITY = 2) (hmode : s.get F.CTL_CFG_OUTER_MODE = 0)
    (hsealed : sealedBit s r = true) (hidle : s.disp.run = none)
    (hfcv : hasType (getRecipe s r) 3 = true → fcvBoards s = true)
    (heis : hasType (getRecipe s r) 5 = true → s.flag F.EIS_STATUS_UNAVAIL = false)
    (hfirst : first < (getRecipe s r).count) :
    let s1 := (((replyAccepted c 0x0603 s).set F.DISP_RCP_STATUS_RECIPE r).set F.DISP_RCP_STATUS_STEP first).setB
      F.DISP_RCP_STATUS_RUNNING true
    doRecipeStart c r first s = { s1 with disp := { s1.disp with run := some {
      recipe := r, step := first, ctx := c, startAt := s1.time, stepAt := s1.time, next := some first,
      dueAt := s1.time + 2 * ms } } } := by
  intro s1
  have hallowed : ¬ (isPlant s || !s.flag F.CTL_STATUS_CLOSED) = true := by simp [isPlant, hpers, hclosed]
  have hforced : ¬ (hasType (getRecipe s r) 3 && !fcvBoards s) = true := by simpa using hfcv
  have himpedance : ¬ (hasType (getRecipe s r) 5 && s.flag F.EIS_STATUS_UNAVAIL) = true := by simpa using heis
  have hconsistent : ¬ (s.get F.SYS_MODE_PERSONALITY ≠ 2 ∨ s.get F.CTL_CFG_OUTER_MODE ≠ 0 ∨ (!sealedBit s r) = true ∨
      s.disp.run.isSome = true ∨ (hasType (getRecipe s r) 3 && !fcvBoards s) = true ∨
      (hasType (getRecipe s r) 5 && s.flag F.EIS_STATUS_UNAVAIL) = true) := by
    simp only [hpers, hmode, hsealed, hidle, hforced, himpedance]
    decide
  unfold doRecipeStart
  dsimp only
  rw [if_neg hallowed, if_neg (by omega), if_neg hconsistent, if_neg (by omega)]

/-- RECIPE_STOP outside a plant module ends the recipe with code 3 (R352). -/
theorem doRecipeStop_outsidePlant {c : Ctx} {s : State} (hplant : isPlant s = false) :
    doRecipeStop c s = replyOk c 0x0604 [] (recipeEnd 3 s) :=
  if_neg (by rw [hplant]; exact Bool.false_ne_true)

/-- GRADE_READ of published positions replies their records; an RCP-1 reply holds at most 255 bytes of them (R353). -/
theorem doGradeRead_range {c : Ctx} {first count : Nat} {g : List (List Byte)} {s : State}
    (hgrades : s.disp.grades = some g) (h1 : 1 ≤ count) (h32 : count ≤ 32) (hpos : first + count ≤ posCount s)
    (hv1 : c.v1 = true → ((g.drop first).take count).flatten.length ≤ 255) :
    doGradeRead c first count s = replyOk c 0x0605 ((g.drop first).take count).flatten s := by
  have hfits : ¬ (c.v1 && decide (255 < ((g.drop first).take count).flatten.length)) = true := by simpa using hv1
  simp only [doGradeRead, hgrades]
  rw [if_neg (by omega), if_neg (by omega), if_neg hfits]

/-! ## The running recipe (R348, R350, R352) -/

/-- The next step starts at the outer-loop sample by which its request is ready, 2 ms at the latest (R350). -/
theorem exec_recipeStepStart_ready {r : Run} {n : Nat} {s : State} (hrun : s.disp.run = some r)
    (hnext : r.next = some n) : exec .recipeStepStart s =
      .next (settle (stepStart n r (s.at ((min s.time r.dueAt + 2499) / 2500 * 2500)))) := by
  change execRecipeStepStart s = _
  simp only [execRecipeStepStart, hrun, hnext, finish_next]

/-- At the end of TMAX the conditions of an active step are evaluated at the estimation tick that reaches it (R350). -/
theorem exec_recipeTmaxExpiry_active {r : Run} {s : State} (hrun : s.disp.run = some r) (hactive : r.active = true) :
    let b := stepRec (getRecipe s r.recipe) r.step
    let s1 := s.at ((r.stepAt + stTmax b * sec + 2499999) / 2500000 * 2500000)
    exec .recipeTmaxExpiry s = .next (settle (recipeAct (tickView s1) s1)) := by
  intro b s1
  change execRecipeTmaxExpiry s = _
  simp only [execRecipeTmaxExpiry, hrun, if_pos hactive, finish_next, s1, b]

/-- The action of the lowest TERM slot of the running step that holds, from 1 s after the step's start on (R350). -/
def heldTerm (v : TickView) (r : Run) (s : State) : Option Nat :=
  if r.stepAt + sec ≤ s.time then termAction v s r (stepRec (getRecipe s r.recipe) r.step) else none

/-- A TERM that holds takes its action before all else (R350). -/
theorem recipeAct_held {v : TickView} {r : Run} {a : Nat} {s : State} (hrun : s.disp.run = some r)
    (hactive : r.active = true) (hheld : heldTerm v r s = some a) : recipeAct v s = takeAction a s := by
  rw [heldTerm] at hheld
  simp only [recipeAct, hrun, if_pos hactive, hheld]

/-- Without a TERM that holds, and with no measurement of the step that has ended, TMAX takes the step's action
(R350). -/
theorem recipeAct_expired {v : TickView} {r : Run} {s : State} (hrun : s.disp.run = some r) (hactive : r.active = true)
    (hheld : heldTerm v r s = none)
    (heis : r.eisOn = false ∨ s.eis.meas.isSome = true ∨ s.eis.closing.isSome = true)
    (htmax : r.stepAt + stTmax (stepRec (getRecipe s r.recipe) r.step) * sec ≤ s.time) :
    recipeAct v s = takeAction (stTmaxAct (stepRec (getRecipe s r.recipe) r.step)) s := by
  have hmeasures : ¬ (r.eisOn && s.eis.meas.isNone && s.eis.closing.isNone) = true := by
    obtain hoff | hmeas | hclosing := heis
    · simp [hoff]
    · simp [Option.isSome_iff_ne_none.1 hmeas]
    · simp [Option.isSome_iff_ne_none.1 hclosing]
  rw [heldTerm] at hheld
  simp only [recipeAct, hrun, if_pos hactive, hheld]
  rw [if_neg hmeasures, if_pos htmax]

/-- The time limit ends the recipe with code 4 (R352). -/
theorem exec_recipeTimeLimit_running {r : Run} {s : State} (hrun : s.disp.run = some r) : exec .recipeTimeLimit s =
    .next (settle (recipeEnd 4 (s.at (r.startAt + (getRecipe s r.recipe).limit * sec)))) := by
  change execRecipeTimeLimit s = _
  rw [execRecipeTimeLimit, hrun]
  rfl

/-- A PULSE step changes from its current to 0 or back, and its next change lies the time of the new phase ahead
(R348). -/
theorem exec_pulseStepToggle_due {r : Run} {t : Nat} {s : State} (hrun : s.disp.run = some r)
    (htoggle : r.toggleAt = some t) :
    let b := stepRec (getRecipe s r.recipe) r.step
    exec .pulseStepToggle s = .next (settle (runReq (if r.on then 0 else (stP b 1 : Rat) / 1000)
      { s.at t with disp := { s.disp with run := some { r with on := !r.on, toggleAt := some (t +
        (if r.on then stP b 3 else stP b 2).toNat * ms) } } })) := by
  intro b
  change execPulseStepToggle s = _
  simp only [execPulseStepToggle, hrun, htoggle, Laws.at_disp, finish_next, b]
  cases r.on <;> simp only [Bool.not_false, Bool.not_true, if_true, Bool.false_eq_true, if_false]

/-! ## The rows -/

/-- Settles O60: each row's tests are decided by the conditions of its clause; the opcodes run their effect on the
admission, which leaves what they test (log entries 26, 103). -/
theorem recipeCommandsComplete : Obligations.RecipeCommandsComplete := by
  unfold Obligations.RecipeCommandsComplete
  intro c recipe step first count pos limit record s
  refine ⟨fun hadm hplant hrun hr hn hlen => ?write,
    fun hadm hplant hrun hr h1 h64 hpass => finish_withCmd_admitted hadm
      (doRecipeSeal_passed hplant hrun hr h1 h64 hpass),
    fun hadm hclosed hr hpers hmode hsealed hidle hfcv heis hfirst => finish_withCmd_admitted hadm
      (doRecipeStart_ready hclosed hr hpers hmode hsealed hidle hfcv heis hfirst),
    fun hadm hplant => finish_withCmd_admitted hadm (doRecipeStop_outsidePlant hplant),
    fun hadm g hgrades h1 h32 hpos hv1 => finish_withCmd_admitted hadm (doGradeRead_range hgrades h1 h32 hpos hv1),
    fun r hrun => ⟨fun n hnext => exec_recipeStepStart_ready hrun hnext, fun hactive => ?tmax,
      exec_recipeTimeLimit_running hrun, fun t htoggle => exec_pulseStepToggle_due hrun htoggle⟩⟩
  case write =>
    have hrecord : (record ++ List.replicate 48 (0 : Byte)).take 48 = record := List.take_left' hlen
    refine finish_withCmd_admitted hadm ?_
    rw [hrecord]
    exact doRecipeWrite_range hplant hrun hr hn
  case tmax =>
    intro b s1 held
    rw [exec_recipeTmaxExpiry_active hrun hactive]
    refine ⟨fun a ha => ?_, fun hnone heis => ?_⟩
    · rw [recipeAct_held (s := s1) hrun hactive ha]
    · have htmax : r.stepAt + stTmax b * sec ≤ s1.time := le_max_of_le_right (by omega)
      rw [recipeAct_expired (s := s1) hrun hactive hnone heis htmax]
      rfl

end Sys2Proof.Proofs
end

section
/-!
SUPPORT. The commands of the thermal management (R364, R367, R371, R374, R383): under the conditions of a clause a
row's own tests are decided, and its effect is left.
-/

namespace Sys2Proof.Proofs

open Sys2Proof Sys2Proof.Machine

/-! ## The throttle and the release (R367, R371) -/

/-- The thermal rows act in an awake state whose supervisor acts (log entry 76). -/
theorem thermal_acts {s : State} (hawake : s.awake = true) (hacts : supActs s = true) :
    (s.awake && supActs s) = true := by
  rw [hawake, hacts]
  rfl

/-- 5 s of rise raise a step below 8 by one, and the timer restarts (R367). -/
theorem throttleStep_rises {t : Nat} {s : State} (hrise : s.thm.riseAt = some t) (hdue : t + 5 * sec ≤ s.time)
    (hstep : thmStep s < 8) : throttleStep s =
      stepUp (thmStep s + 1) (setThm { s.thm with riseAt := some s.time } s) := by
  rw [throttleStep, hrise]
  exact (if_pos hdue).trans (if_pos hstep)

/-- At step 8 only the timer restarts (R367). -/
theorem throttleStep_full {t : Nat} {s : State} (hrise : s.thm.riseAt = some t) (hdue : t + 5 * sec ≤ s.time)
    (hstep : 8 ≤ thmStep s) : throttleStep s = setThm { s.thm with riseAt := some s.time } s := by
  rw [throttleStep, hrise]
  exact (if_pos hdue).trans (if_neg hstep.not_gt)

/-- 30 s of recovery take a step above the floor back by one, and the timer restarts (R364, R367). -/
theorem throttleRecover_falls {t : Nat} {s : State} (hfall : s.thm.fallAt = some t) (hdue : t + 30 * sec ≤ s.time)
    (hfloor : stepFloor s < thmStep s) : throttleRecover s = causeRec C.THROTTLE_RECOVER sevInfo []
      ((setThm { s.thm with fallAt := some s.time } s).set F.THM_STATUS_STEP (thmStep s - 1)) := by
  rw [throttleRecover, hfall]
  exact (if_pos hdue).trans (if_pos hfloor)

/-- At the floor only the timer restarts (R364, R367). -/
theorem throttleRecover_floor {t : Nat} {s : State} (hfall : s.thm.fallAt = some t) (hdue : t + 30 * sec ≤ s.time)
    (hfloor : thmStep s ≤ stepFloor s) : throttleRecover s = setThm { s.thm with fallAt := some s.time } s := by
  rw [throttleRecover, hfall]
  exact (if_pos hdue).trans (if_neg hfloor.not_gt)

/-- 600 s cold without FAULT_FORCE set RELEASE_READY and raise its cause (R371). -/
theorem releaseReady_due {t : Nat} {s : State} (hcold : s.thm.coldAt = some t) (hdue : t + 600 * sec ≤ s.time)
    (hforce : s.flag F.THM_STATUS_FAULT_FORCE = false) (hready : s.flag F.THM_STATUS_RELEASE_READY = false) :
    releaseReady s = raise C.RELEASE_READY (s.setB F.THM_STATUS_RELEASE_READY true) := by
  rw [releaseReady, hcold]
  exact if_pos ⟨hdue, hforce, hready⟩

/-! ## The opcodes (R371, R383) -/

/-- Without a latch THERMAL_RELEASE only replies OK (log entry 161). -/
theorem doThermalRelease_unlatched {c : Ctx} {s : State} (hlatch : s.flag F.THM_STATUS_SHUT_LATCH = false) :
    doThermalRelease c s = replyOk c 0x0700 [] s := if_pos hlatch

/-- A latch that is not ready to be released stays (R371). -/
theorem doThermalRelease_unready {c : Ctx} {s : State} (hlatch : s.flag F.THM_STATUS_SHUT_LATCH = true)
    (hready : s.flag F.THM_STATUS_RELEASE_READY = false) : doThermalRelease c s = replyForbids c 0x0700 s :=
  (if_neg (ne_false_of_eq_true hlatch)).trans (if_neg (ne_true_of_eq_false hready))

/-- A latch that is ready clears with a record (R371). -/
theorem doThermalRelease_ready {c : Ctx} {s : State} (hlatch : s.flag F.THM_STATUS_SHUT_LATCH = true)
    (hready : s.flag F.THM_STATUS_RELEASE_READY = true) : doThermalRelease c s = replyOk c 0x0700 []
      (addRec sevNotice 0x0A 0x0010 (originBytes (Ctx.origin c)) (s.setB F.THM_STATUS_SHUT_LATCH false)) :=
  (if_neg (ne_false_of_eq_true hlatch)).trans (if_pos hready)

/-- COOL_TEST in range sets both duties and the end of its hold (R383). -/
theorem doCoolTest_range {c : Ctx} {d6 d7 hold : Nat} {s : State} (h6 : d6 ≤ 100) (h7 : d7 ≤ 100) (h1 : 1 ≤ hold)
    (h600 : hold ≤ 600) :
    let s1 := (s.set F.THM_DUTY_DUTY6 d6).set F.THM_DUTY_DUTY7 d7
    doCoolTest c d6 d7 hold s =
      replyOk c 0x0701 [] (setThm { s1.thm with testEnd := some (s1.time + hold * sec) } s1) := by
  intro s1
  rw [doCoolTest, if_neg h6.not_gt, if_neg h7.not_gt, if_neg (by omega)]

/-- A duty of DO6 out of range is operand 0. -/
theorem doCoolTest_duty6 {c : Ctx} {d6 d7 hold : Nat} {s : State} (h6 : 100 < d6) :
    doCoolTest c d6 d7 hold s = replyRange c 0x0701 0 s := if_pos h6

/-- A duty of DO7 out of range is operand 1. -/
theorem doCoolTest_duty7 {c : Ctx} {d6 d7 hold : Nat} {s : State} (h6 : d6 ≤ 100) (h7 : 100 < d7) :
    doCoolTest c d6 d7 hold s = replyRange c 0x0701 1 s := (if_neg h6.not_gt).trans (if_pos h7)

/-- A hold out of range is operand 2. -/
theorem doCoolTest_hold {c : Ctx} {d6 d7 hold : Nat} {s : State} (h6 : d6 ≤ 100) (h7 : d7 ≤ 100)
    (hhold : hold = 0 ∨ 600 < hold) : doCoolTest c d6 d7 hold s = replyRange c 0x0701 2 s := by
  rw [doCoolTest, if_neg h6.not_gt, if_neg h7.not_gt, if_pos hhold]

/-- A test whose hold is over ends, and the duties follow the curves again (R383). -/
theorem testDue_over {t : Nat} {s : State} (htest : s.thm.testEnd = some t) (hover : t ≤ s.time) :
    testDue s = showDuties (setThm { s.thm with testEnd := none } s) := by
  rw [testDue, htest]
  exact if_pos hover

/-- COOL_TEST_END stands at the end of the hold, so the test is over there (R383). -/
theorem exec_coolTestEnd_testing {t : Nat} {s : State} (htest : s.thm.testEnd = some t) : exec .coolTestEnd s =
    .next (settle (showDuties (setThm { s.thm with testEnd := none } (s.at t)))) := by
  change execCoolTestEnd s = _
  rw [execCoolTestEnd, htest]
  exact congrArg finish (testDue_over (s := s.at t) htest (le_max_right _ _))

/-! ## The chiller (R374) -/

/-- The chiller's rows act with the chiller enabled. -/
theorem chiller_acts {s : State} (hen : s.flag F.THM_CHL_EN = true) (hawake : s.awake = true)
    (hacts : supActs s = true) : (s.flag F.THM_CHL_EN && s.awake && supActs s) = true := by
  rw [hen, hawake, hacts]
  rfl

/-- Two faulty replies, or 5 periods that are over, set COOL_FAULT at once. -/
theorem exec_coolantFault_due {s : State} (hen : s.flag F.THM_CHL_EN = true) (hawake : s.awake = true)
    (hacts : supActs s = true) (hdue : coolDue s = true) :
    exec .coolantFault s = .next (settle (coolFault s)) :=
  congrArg finish ((if_pos (chiller_acts hen hawake hacts)).trans (if_pos hdue))

/-- Otherwise the row stands at the end of the 5 periods after the last reply. -/
theorem exec_coolantFault_waiting {t : Nat} {s : State} (hen : s.flag F.THM_CHL_EN = true) (hawake : s.awake = true)
    (hacts : supActs s = true) (hdue : coolDue s = false) (hreply : s.thm.replyAt = some t) :
    exec .coolantFault s = .next (settle (coolFault (s.at (t + 5 * chlPeriod s)))) := by
  change execCoolantFault s = _
  rw [execCoolantFault, if_pos (chiller_acts hen hawake hacts), if_neg (ne_true_of_eq_false hdue), hreply]
  rfl

/-- What a reply that has been counted makes of COOL_FAULT. -/
def replyJudged (s : State) : State :=
  if coolDue s then coolFault s
  else if 5 ≤ s.thm.goods then s.setB F.THM_STATUS_COOL_FAULT false
  else s

theorem replyJudged_due {s : State} (hdue : coolDue s = true) : replyJudged s = coolFault s := if_pos hdue

theorem replyJudged_few {s : State} (hdue : coolDue s = false) (hgoods : s.thm.goods < 5) : replyJudged s = s :=
  (if_neg (ne_true_of_eq_false hdue)).trans (if_neg hgoods.not_ge)

theorem replyJudged_fifth {s : State} (hdue : coolDue s = false) (hgoods : 5 ≤ s.thm.goods) :
    replyJudged s = s.setB F.THM_STATUS_COOL_FAULT false :=
  (if_neg (ne_true_of_eq_false hdue)).trans (if_pos hgoods)

/-- A frame that CANB takes goes to receive object 63, counts by its FAULT bit, and is judged. -/
theorem exec_chillerReply_taken {data : List Byte} {s : State} (hen : s.flag F.THM_CHL_EN = true)
    (hon : canOn s .canb = true) (hlen : data.length ≤ 8 ∨ canFdEn s .canb = true) :
    let id := ownerWord (s.word F.THM_CHL_RXID_ID.addr)
    let s1 := canIn .canb id.1 id.2 ⟨data.length, decide (8 < data.length), false, false, data, s.time⟩ s
    let bad := bitOf (BitVec.ofNat 32 (numAt data 0 1)) 1
    exec (.chillerReply data) s = .next (settle (replyJudged (setThm { s1.thm with
      replyAt := some s1.time
      faults := if bad then s1.thm.faults + 1 else 0
      goods := if bad then 0 else s1.thm.goods + 1 } s1))) := by
  have htaken : (s.flag F.THM_CHL_EN && canOn s .canb && (data.length ≤ 8 || canFdEn s .canb)) = true := by
    simpa [hen, hon] using hlen
  exact congrArg finish (if_pos htaken)

/-! ## The rows -/

/-- Settles O43: each row's tests are decided by the conditions of its clause; the opcodes run their effect on the
admission, which leaves what they test (log entries 76, 161). -/
theorem thermalCommandsComplete : Obligations.ThermalCommandsComplete := by
  unfold Obligations.ThermalCommandsComplete
  intro c d6 d7 hold t data s
  refine ⟨fun hawake hacts => ?policy, fun hadm => ?release, fun hadm => ?test,
    fun htest _ => exec_coolTestEnd_testing htest, fun hen hawake hacts => ?chiller, fun hen hon hlen => ?reply⟩
  case policy =>
    have hacts := thermal_acts hawake hacts
    exact ⟨fun hrise hdue =>
        ⟨fun hstep => congrArg finish ((if_pos hacts).trans (throttleStep_rises hrise hdue hstep)),
          fun hstep => congrArg finish ((if_pos hacts).trans (throttleStep_full hrise hdue hstep))⟩,
      fun hfall hdue =>
        ⟨fun hfloor => congrArg finish ((if_pos hacts).trans (throttleRecover_falls hfall hdue hfloor)),
          fun hfloor => congrArg finish ((if_pos hacts).trans (throttleRecover_floor hfall hdue hfloor))⟩,
      fun hcold hdue hforce hready =>
        congrArg finish ((if_pos hacts).trans (releaseReady_due hcold hdue hforce hready))⟩
  case release =>
    exact ⟨fun hlatch => finish_withCmd_admitted hadm (doThermalRelease_unlatched hlatch),
      fun hlatch hready => finish_withCmd_admitted hadm (doThermalRelease_unready hlatch hready),
      fun hlatch hready => finish_withCmd_admitted hadm (doThermalRelease_ready hlatch hready)⟩
  case test =>
    exact ⟨fun h6 h7 h1 h600 => finish_withCmd_admitted hadm (doCoolTest_range h6 h7 h1 h600),
      fun h6 => finish_withCmd_admitted hadm (doCoolTest_duty6 h6),
      fun h6 h7 => finish_withCmd_admitted hadm (doCoolTest_duty7 h6 h7),
      fun h6 h7 hhold => finish_withCmd_admitted hadm (doCoolTest_hold h6 h7 hhold)⟩
  case chiller =>
    exact ⟨fun hon => congrArg finish (if_pos (by rw [chiller_acts hen hawake hacts, hon]; rfl)),
      exec_coolantFault_due hen hawake hacts, exec_coolantFault_waiting hen hawake hacts⟩
  case reply =>
    rw [exec_chillerReply_taken hen hon hlen]
    exact ⟨fun hdue => by rw [replyJudged_due hdue], fun hdue hgoods => by rw [replyJudged_few hdue hgoods],
      fun hdue hgoods => by rw [replyJudged_fifth hdue hgoods]⟩

end Sys2Proof.Proofs
end

section
/-!
SUPPORT. The layout of packets (R465, R466): what a number read from a packet is, where the packet is built of
little-endian fields, and that the CRCs fit their fields.
-/

namespace Sys2Proof.Proofs

open Sys2Proof Sys2Proof.Machine

/-! ## Steps -/

/-- Settles O1: a step is a case split on the queue. -/
theorem stepTakesFrontCommand : Obligations.StepTakesFrontCommand := by
  unfold Obligations.StepTakesFrontCommand
  refine ⟨fun c rest s hqueue => ?_, fun s hempty => ?_⟩
  · rw [step, hqueue]
  · rw [step, hempty]

/-! ## Little-endian numbers (R4) -/

@[simp] theorem length_leBytes (k n : Nat) : (leBytes k n).length = k := by
  induction k generalizing n with
  | zero => rfl
  | succ k ih => rw [leBytes, List.length_cons, ih]

theorem ofLe_leBytes (k n : Nat) : ofLe (leBytes k n) = n % 256 ^ k := by
  induction k generalizing n with
  | zero => exact (Nat.mod_one n).symm
  | succ k ih =>
    have hbyte : (BitVec.ofNat 8 n).toNat = n % 256 := BitVec.toNat_ofNat n 8
    rw [leBytes, ofLe, ih, hbyte, Nat.pow_succ', Nat.mod_mul]

/-- A number that begins a byte string is read as it was written. -/
theorem numAt_leBytes (k n : Nat) (b : List Byte) : numAt (leBytes k n ++ b) 0 k = n % 256 ^ k := by
  rw [numAt, List.drop_zero, List.take_left' (length_leBytes k n), ofLe_leBytes]

/-- A number behind the first part of a byte string is read in the rest. -/
theorem numAt_append {a : List Byte} {i : Nat} (h : a.length ≤ i) (b : List Byte) (n : Nat) :
    numAt (a ++ b) i n = numAt b (i - a.length) n := by
  rw [numAt, List.drop_append, List.drop_of_length_le h, List.nil_append, numAt]

/-! ## The CRCs fit their fields (R465, R466) -/

theorem crcBits_lt {poly : Nat} (hpoly : poly < 2 ^ 32) (k : Nat) {c : Nat} (hc : c < 2 ^ 32) :
    crcBits poly k c < 2 ^ 32 := by
  induction k generalizing c with
  | zero => exact hc
  | succ k ih =>
    have hhalf : c / 2 < 2 ^ 32 := by omega
    rw [crcBits]
    apply ih
    split
    · exact Nat.xor_lt_two_pow hhalf hpoly
    · exact hhalf

theorem crc32cRaw_lt (l : List Byte) {c : Nat} (hc : c < 2 ^ 32) : crc32cRaw c l < 2 ^ 32 := by
  induction l generalizing c with
  | nil => exact hc
  | cons b l ih => exact ih (crcBits_lt (by decide) 8 (Nat.xor_lt_two_pow hc (by omega)))

theorem crc32c_lt (l : List Byte) : crc32c l < 2 ^ 32 :=
  Nat.xor_lt_two_pow (crc32cRaw_lt l (by decide)) (by decide)

theorem crc16Bits_lt {poly : Nat} (hpoly : poly < 2 ^ 16) (k : Nat) {c : Nat} (hc : c < 2 ^ 16) :
    crc16Bits poly k c < 2 ^ 16 := by
  induction k generalizing c with
  | zero => exact hc
  | succ k ih =>
    have hdouble : c * 2 % 0x10000 < 2 ^ 16 := Nat.mod_lt _ (by decide)
    rw [crc16Bits]
    apply ih
    split
    · exact Nat.xor_lt_two_pow hdouble hpoly
    · exact hdouble

theorem crc16_lt (l : List Byte) : crc16 l < 2 ^ 16 := by
  suffices h : ∀ {c : Nat}, c < 2 ^ 16 → crc16Raw c l < 2 ^ 16 from h (by decide)
  induction l with
  | nil => exact fun hc => hc
  | cons b l ih => exact fun hc => ih (crc16Bits_lt (by decide) 8 (Nat.xor_lt_two_pow hc (by omega)))

/-! ## Packets read back (R469) -/

/-- The fields of an RCP-2 packet before its CRC. -/
def head2 (seq op : BitVec 16) (session : BitVec 32) (payload : List Byte) : List Byte :=
  [0x5A, 0x48, 2, 0] ++ (leBytes 2 seq.toNat ++ (leBytes 2 op.toNat ++ (leBytes 2 payload.length ++
    (leBytes 4 session.toNat ++ ([0, 0] ++ payload)))))

theorem request2_eq (seq op : BitVec 16) (session : BitVec 32) (payload : List Byte) :
    Safety.request2 seq op session payload =
      head2 seq op session payload ++ leBytes 4 (crc32c (head2 seq op session payload)) := rfl

/-- The fields of an RCP-1 packet before its CRC. -/
def head1 (seq op : BitVec 16) (payload : List Byte) : List Byte :=
  [1, 0] ++ (leBytes 2 seq.toNat ++ (leBytes 2 op.toNat ++ (leBytes 1 payload.length ++ ([0] ++ payload))))

theorem request1_eq (seq op : BitVec 16) (payload : List Byte) :
    Safety.request1 seq op payload = head1 seq op payload ++ leBytes 2 (crc16 (head1 seq op payload)) := rfl

/-- What a check value covers and the value itself, where it ends a packet (R465, R466). -/
theorem check_ends {h p : List Byte} {k v : Nat} (hp : h ++ leBytes k v = p) (hv : v < 256 ^ k) :
    p.length = h.length + k ∧ p.take (p.length - k) = h ∧ numAt p (p.length - k) k = v := by
  have hn : p.length = h.length + k := by rw [← hp, List.length_append, length_leBytes]
  have hlen : p.length - k = h.length := by omega
  have hlast := numAt_leBytes k v []
  rw [List.append_nil, Nat.mod_eq_of_lt hv] at hlast
  refine ⟨hn, ?_, ?_⟩
  · rw [hlen, ← hp, List.take_left]
  · rw [hlen, ← hp, numAt_append le_rfl, Nat.sub_self, hlast]

theorem length_head2 (seq op : BitVec 16) (session : BitVec 32) (payload : List Byte) :
    (head2 seq op session payload).length = 16 + payload.length := by
  simp only [head2, List.length_append, length_leBytes, List.length_cons, List.length_nil]
  omega

theorem length_head1 (seq op : BitVec 16) (payload : List Byte) :
    (head1 seq op payload).length = 8 + payload.length := by
  simp only [head1, List.length_append, length_leBytes, List.length_cons, List.length_nil]
  omega

/-- The payload of at most 1,024 bytes and every other field of an RCP-2 request are read back (R465, R469). -/
theorem parse_request2 (seq op : BitVec 16) (session : BitVec 32) {payload : List Byte} (onCan : Bool)
    (hlen : payload.length ≤ 1024) : parse onCan (Safety.request2 seq op session payload) =
      .good ⟨false, seq.toNat, op.toNat, session.toNat, payload⟩ := by
  rw [request2_eq]
  generalize hh : head2 seq op session payload = h
  have hlh : h.length = 16 + payload.length := by rw [← hh, length_head2]
  generalize hp : h ++ leBytes 4 (crc32c h) = p
  obtain ⟨hn, htake, hcrc⟩ := check_ends hp (crc32c_lt h)
  have hfields : numAt p 0 3 = 0x02485A ∧ numAt p 4 2 = seq.toNat ∧ numAt p 6 2 = op.toNat ∧
      numAt p 8 2 = payload.length ∧ numAt p 10 4 = session.toNat ∧ p.drop 16 = payload ++ leBytes 4 (crc32c h) := by
    rw [← hp, ← hh, head2]
    refine ⟨by simp [numAt, ofLe], ?_, ?_, ?_, ?_, rfl⟩
    all_goals
      simp only [List.append_assoc]
      simp (disch := simp) only [numAt_append, length_leBytes, List.length_cons, List.length_nil, Nat.reduceAdd,
        Nat.reduceSub, numAt_leBytes]
      omega
  obtain ⟨hmagic, hseq, hop, hl, hsession, hrest⟩ := hfields
  have hbody : (p.drop 16).take (p.length - 20) = payload := by
    rw [hrest, List.take_left' (by omega)]
  rw [parse, if_pos ⟨hmagic, by omega⟩, if_neg (by rw [htake, hcrc]; simp), if_neg (by omega), hseq, hop, hsession,
    hbody]

/-- The payload of at most 255 bytes and every other field of an RCP-1 request are read back, but CANA carries no RCP-1
(R466, R469). -/
theorem parse_request1 (seq op : BitVec 16) {payload : List Byte} (hlen : payload.length ≤ 255) :
    parse false (Safety.request1 seq op payload) = .good ⟨true, seq.toNat, op.toNat, 0, payload⟩ ∧
      parse true (Safety.request1 seq op payload) = .header := by
  rw [request1_eq]
  generalize hh : head1 seq op payload = h
  have hlh : h.length = 8 + payload.length := by rw [← hh, length_head1]
  generalize hp : h ++ leBytes 2 (crc16 h) = p
  obtain ⟨hn, htake, hcrc⟩ := check_ends hp (crc16_lt h)
  have hfields : numAt p 0 1 = 1 ∧ numAt p 0 3 % 256 = 1 ∧ numAt p 2 2 = seq.toNat ∧
      numAt p 4 2 = op.toNat ∧ numAt p 6 1 = payload.length ∧
      p.drop 8 = payload ++ leBytes 2 (crc16 h) := by
    rw [← hp, ← hh, head1]
    refine ⟨rfl, Nat.add_mul_mod_self_left 1 256 _, ?_, ?_, ?_, rfl⟩
    all_goals
      simp only [List.append_assoc]
      simp (disch := simp) only [numAt_append, length_leBytes, List.length_cons, List.length_nil, Nat.reduceAdd,
        Nat.reduceSub, numAt_leBytes]
      omega
  obtain ⟨hversion, hfirst, hseq, hop, hl, hrest⟩ := hfields
  have hother : ¬ (numAt p 0 3 = 0x02485A ∧ 20 ≤ p.length) := by omega
  have hbody : (p.drop 8).take (p.length - 10) = payload := by
    rw [hrest, List.take_left' (by omega)]
  rw [parse, parse, if_neg hother, if_neg hother, if_pos ⟨hversion, by omega, rfl⟩, if_neg (by rw [htake, hcrc]; simp),
    if_neg (by omega), hseq, hop, hbody, if_neg (by simp)]
  exact ⟨rfl, rfl⟩

/-- Settles O10: the fields are read back where the layout puts them, and the CRC behind them is theirs. -/
theorem packetParsesBack : Obligations.PacketParsesBack := by
  unfold Obligations.PacketParsesBack
  exact fun seq op session payload onCan => ⟨parse_request2 seq op session onCan, parse_request1 seq op⟩

/-- Settles O11: without the RCP-1 form, `packet` writes the fields in the order of R465. -/
theorem replyLayout : Obligations.ReplyLayout := by
  unfold Obligations.ReplyLayout
  intro c op status payload hv1 hlen
  exact if_neg (by rw [hv1]; decide)

end Sys2Proof.Proofs
end

section
/-!
SUPPORT. What records, replies, the opening of the loop and the end of a command leave of the sessions and the queue
(R474, R478): no session comes, goes, moves to another source or gains or loses its authorisation, and a slot is only
freed.
-/

namespace Sys2Proof.Proofs

open Sys2Proof Sys2Proof.Machine Sys2Proof.Laws

/-- What binds a session: its identifier, its source and the end of its authorisation (R474, R483). -/
def who (x : Session) : BitVec 32 × Src × Option Nat := (x.id, x.src, x.authEnd)

/-- From the first conversation to the second the same sessions are held, and no slot has been taken. -/
def Held (x y : Cmd) : Prop := y.slots.Sublist x.slots ∧ y.sessions.map who = x.sessions.map who

theorem held_refl (x : Cmd) : Held x x := ⟨List.Sublist.refl _, rfl⟩

theorem who_noteCause (t bit : Nat) (x : Session) : who (noteCause t bit x) = who x := by
  unfold noteCause
  split <;> rfl

section
variable {a : Cmd} {t : State} (h : Held a t.cmd)
include h

theorem held_raise (c : Cause) : Held a (raise c t).cmd := by
  refine ⟨h.1, Eq.trans ?_ h.2⟩
  have hnote (now bit : Nat) : who ∘ noteCause now bit = who := funext (who_noteCause now bit)
  exact (List.map_map ..).trans (congrArg (List.map · t.cmd.sessions) (hnote _ _))

/-! ## Records -/

theorem held_countDrop (n : Nat) : Held a (countDrop n t).cmd := by
  unfold countDrop
  dsimp only
  split
  · exact held_raise (by exact h) _
  · exact h

theorem held_enterRec (r : Rec) : Held a (enterRec r t).cmd := by
  unfold enterRec
  split
  · exact h
  · split
    · exact held_countDrop (by exact h) _
    · exact held_countDrop h _

theorem held_addRec (sev source code : Nat) (p : List Byte) : Held a (addRec sev source code p t).cmd :=
  held_enterRec h _

theorem held_causeRec (c : Cause) (n : Nat) (p : List Byte) : Held a (causeRec c n p t).cmd :=
  held_addRec (held_raise h c) _ _ _ _

/-! ## Replies -/

theorem held_mboxFill (p : List Byte) : Held a (mboxFill p t).cmd := held_raise (by exact h) _

theorem held_mboxReply (p : List Byte) : Held a (mboxReply p t).cmd := by
  unfold mboxReply
  refine held_mboxFill ?_ _
  split
  · exact h
  · exact h

theorem held_mboxNotify (p : List Byte) : Held a (mboxNotify p t).cmd := by
  unfold mboxNotify
  split
  · split
    · split
      · exact h
      · exact held_mboxFill (by exact h) _
    · exact h
  · exact held_mboxFill h _

theorem held_transmit (c : Ctx) (n : Bool) (p : List Byte) : Held a (transmit c n p t).cmd := by
  unfold transmit
  split
  · exact h
  · exact h
  · split
    · exact held_mboxNotify h _
    · exact held_mboxReply h _
  · split
    · exact h
    · exact h

theorem held_keepReply (c : Ctx) (st : Nat) (n : Bool) (p : List Byte) : Held a (keepReply c st n p t).cmd := by
  unfold keepReply
  dsimp only
  split
  · exact h
  · split
    · exact h
    · exact h

theorem held_freeSlot (c : Ctx) : Held a (freeSlot c t).cmd := by
  unfold freeSlot
  split
  · exact h
  · exact ⟨List.eraseP_sublist.trans h.1, h.2⟩

theorem held_respond (c : Ctx) (n : Bool) (op st : Nat) (p : List Byte) : Held a (respond c n op st p t).cmd := by
  have kept : Held a (if st = stAccepted then keepReply c st n p t else freeSlot c (keepReply c st n p t)).cmd := by
    split
    · exact held_keepReply h _ _ _ _
    · exact held_freeSlot (held_keepReply h _ _ _ _) _
  unfold respond
  dsimp only
  generalize (if st = stAccepted then keepReply c st n p t else freeSlot c (keepReply c st n p t)) = x at kept ⊢
  split
  · exact held_transmit kept _ _ _
  · unfold discardReply
    split
    · exact kept
    · exact kept

theorem held_notifyOpt (c : Option Ctx) (op st : Nat) (p : List Byte) : Held a (notifyOpt c op st p t).cmd := by
  cases c
  · exact h
  · exact held_respond h _ _ _ _ _

/-! ## The opening of the loop (R306) -/

theorem held_eisAbandon (n : Nat) : Held a (eisAbandon n t).cmd := by
  unfold eisAbandon
  split
  · exact h
  · dsimp only
    have lanes (b : Bool) (u : State) : (eisLanes b u).cmd = u.cmd := by
      unfold eisLanes
      exact foldl_keeps State.cmd _ (fun v n => setB_cmd v _ _) _ _
    have off {u : State} (b : Bool) (hu : Held a u.cmd) :
        Held a (if b then u.bump F.EIS_INC_CNT_VALUE 1 else u).cmd := by
      cases b <;> exact hu
    refine held_notifyOpt (held_addRec (held_raise ?_ _) _ _ _ _) _ _ _ _
    exact off _ (by rw [lanes]; exact h)

theorem held_pulseStop : Held a (pulseStop t).cmd := by
  unfold pulseStop
  split
  · exact h
  · exact held_notifyOpt (by exact h) _ _ _ _

theorem held_pulseCut : Held a (pulseCut t).cmd := by
  unfold pulseCut
  split
  · split
    · exact held_pulseStop (by exact h)
    · exact h
  · exact h

theorem held_stepEnd (b : Bool) (r : Run) : Held a (stepEnd b r t).2.cmd := by
  have release {u : State} (hu : Held a u.cmd) : Held a (releasePolicy r u).cmd := by
    unfold releasePolicy
    split
    · exact hu
    · exact hu
  unfold stepEnd
  split
  · refine release ?_
    split
    · exact held_addRec h _ _ _ _
    · exact h
  · exact h

theorem held_recipeEnd (n : Nat) : Held a (recipeEnd n t).cmd := by
  unfold recipeEnd
  split
  · exact h
  · rename_i r _
    dsimp only
    have grades {u : State} (b : Bool) (m : Nat) (hu : Held a u.cmd) :
        Held a (if b then publishGrades m u else u).cmd := by
      cases b
      · exact hu
      · exact held_raise (by exact hu) _
    have cause {u : State} (l : List Byte) (hu : Held a u.cmd) : Held a
        (if n = 1 then raise C.RECIPE_DONE u else causeRec C.RECIPE_ABORT sevWarning l u).cmd := by
      split
      · exact held_raise (by exact hu) _
      · exact held_causeRec hu _ _ _
    have cut : Held a (if r.req = 0 then t else pulseCut t).cmd := by
      split
      · exact h
      · exact held_pulseCut h
    exact held_notifyOpt (grades _ _ (cause _ (by exact held_stepEnd cut _ _))) _ _ _ _

theorem held_loopEnds : Held a (loopEnds t).cmd := by
  have off (u : State) : (dispatchOff u).cmd = u.cmd := by
    unfold dispatchOff
    rw [set_cmd, set_cmd, setB_cmd, setB_cmd, setB_cmd]
  unfold loopEnds
  dsimp only
  rw [off]
  exact held_recipeEnd (by exact held_pulseStop (held_eisAbandon h _)) _

theorem held_loopOpen (n : Nat) : Held a (loopOpen n t).cmd := by
  have shown : (loopShow n t).cmd = t.cmd := by
    unfold loopShow dutiesOff
    rw [foldl_keeps State.cmd _ (fun v k => (setB_cmd _ _ _).trans (set_cmd v _ _)), set_cmd, setB_cmd, setB_cmd,
      setB_cmd]
  unfold loopOpen
  split
  · refine held_loopEnds (held_causeRec ?_ _ _ _)
    unfold loopClear
    rw [shown]
    exact h
  · exact h

end

/-! ## The end of a command -/

theorem cmd_settleLow (c : Nat) (s : State) : (settleLow c s).cmd = s.cmd := by
  unfold settleLow
  split
  · split
    · unfold deEnergise
      dsimp only
      split <;> rfl
    · rfl
  · rfl

theorem cmd_levels (s : State) : (settleInt (settleCounts (okShown (pwmShown (requestShown s))))).cmd = s.cmd := by
  unfold settleInt settleCounts okShown pwmShown requestShown
  simp only [set_cmd, setB_cmd]

/-- The end of a command takes no slot and leaves the sessions held (R474, R478). -/
theorem held_settle {a : Cmd} {t : State} (h : Held a t.cmd) : Held a (settle t).cmd := by
  rw [settle, settleSafe_eq, cmd_levels]
  generalize hlow : settleLow 2 (settleLow 1 (settleLow 0
    ((t.setB (siDemandFld 0) (siDemanding t 0)).setB (siDemandFld 1) (siDemanding t 1)))) = low
  have levels : Held a low.cmd := by
    rw [← hlow, cmd_settleLow, cmd_settleLow, cmd_settleLow, setB_cmd, setB_cmd]
    exact h
  unfold loopSettled
  split
  · exact levels
  · exact held_loopOpen levels _

end Sys2Proof.Proofs
end

section
/-!
SUPPORT. Sessions and the queue (R474, R475, R478): a reply into a closed session, the end of a session, and that a
packet never takes the queue beyond its slots.
-/

namespace Sys2Proof.Proofs

open Sys2Proof Sys2Proof.Machine Sys2Proof.Laws

/-! ## Replies into a closed session (R475) -/

/-- The sessions held, what has been sent, and what the TWS mailbox holds for its host (R473). -/
def mail (s : State) : List Session × List Out × List Byte × List (List Byte) :=
  (s.cmd.sessions, s.sent, s.cmd.mboxRsp, s.cmd.mboxQueue)

theorem mail_keepReply (c : Ctx) (st : Nat) (n : Bool) (p : List Byte) (s : State) :
    mail (keepReply c st n p s) = mail s := by
  unfold keepReply
  dsimp only
  split
  · rfl
  · split <;> rfl

theorem mail_freeSlot (c : Ctx) (s : State) : mail (freeSlot c s) = mail s := by
  unfold freeSlot
  split <;> rfl

theorem mail_discardReply (c : Ctx) (n : Bool) (s : State) : mail (discardReply c n s) = mail s := by
  unfold discardReply
  split <;> rfl

/-- Whether a session is open depends on the sessions held alone (R474). -/
theorem sessionOpen_of_mail {s t : State} (c : Ctx) (h : mail t = mail s) : sessionOpen c t = sessionOpen c s := by
  have hsessions : t.cmd.sessions = s.cmd.sessions := congrArg Prod.fst h
  unfold sessionOpen
  rw [hsessions]

/-- Into a closed session nothing is sent and nothing enters the mailbox (R475). -/
theorem mail_respond_closed {c : Ctx} {s : State} (n : Bool) (op st : Nat) (p : List Byte)
    (hclosed : sessionOpen c s = false) : mail (respond c n op st p s) = mail s := by
  have kept : mail (if st = stAccepted then keepReply c st n p s else freeSlot c (keepReply c st n p s)) = mail s := by
    split
    · exact mail_keepReply c st n p s
    · exact (mail_freeSlot _ _).trans (mail_keepReply c st n p s)
  unfold respond
  dsimp only
  generalize (if st = stAccepted then keepReply c st n p s else freeSlot c (keepReply c st n p s)) = t at kept ⊢
  rw [if_neg (by rw [sessionOpen_of_mail c kept, hclosed]; decide), mail_discardReply, kept]

/-- Settles O12: a reply into a closed session is discarded, and COMMAND_START does not look at the session. -/
theorem closedSessionGetsNoReply : Obligations.ClosedSessionGetsNoReply := by
  unfold Obligations.ClosedSessionGetsNoReply
  refine ⟨fun c notify op st pl s hclosed => ?_, fun s x hrunning hnext hstart => ?_⟩
  · have hmail := mail_respond_closed notify op st pl hclosed
    simp only [mail, Prod.mk.injEq] at hmail
    obtain ⟨-, hsent, hrsp, hqueue⟩ := hmail
    exact ⟨hsent, hrsp, hqueue⟩
  · change execCommandStart s = _
    rw [execCommandStart, if_neg hrunning, hnext]
    dsimp only
    rw [hstart]
    rfl

/-! ## The end of a session (R474, R483) -/

theorem sessions_closeSession (id : BitVec 32) (s : State) :
    (closeSession id s).cmd.sessions.map who = (s.cmd.sessions.filter (fun x => x.id != id)).map who := by
  unfold closeSession
  dsimp only
  split
  · exact (held_raise (held_refl _) _).2
  · rfl

/-- A session that is authorised when it closes raises AUTH_EXPIRED (R483). -/
theorem expired_closeSession {id : BitVec 32} {x : Session} {s : State} (hfind : findSession id s = some x)
    (hlive : liveAuth s.time x = true) :
    bitOf ((closeSession id s).word (F.INT_CAUSE_CAUSE C.AUTH_EXPIRED.g).addr) C.AUTH_EXPIRED.b = true := by
  have hheld : x ∈ s.cmd.sessions := List.mem_of_find?_eq_some hfind
  have hid : (x.id == id) = true := List.find?_some (p := fun x : Session => x.id == id) hfind
  have hany : s.cmd.sessions.any (fun x => x.id == id && liveAuth s.time x) = true :=
    List.any_eq_true.2 ⟨x, hheld, by rw [hid, hlive]; rfl⟩
  unfold closeSession
  rw [hany]
  exact bitOf_raise C.AUTH_EXPIRED _ (by decide)

/-- Settles O15: the timeout closes the session, and the end of the command leaves the other sessions held and the
cause latched. -/
theorem closedSessionIsGone : Obligations.ClosedSessionIsGone := by
  unfold Obligations.ClosedSessionIsGone
  intro id s x hfind
  generalize hlate : s.at (x.lastPkt + 300 * sec) = late
  have hsessions : late.cmd.sessions = s.cmd.sessions := by rw [← hlate, at_cmd]
  have hexec : exec (.sessionTimeout id) s = .next (settle (closeSession id late)) := by
    change execSessionTimeout id s = _
    rw [execSessionTimeout, hfind, ← hlate]
    rfl
  have hwho : (settle (closeSession id late)).cmd.sessions.map who =
      (s.cmd.sessions.filter (fun x => x.id != id)).map who :=
    ((held_settle (held_refl _)).2.trans (sessions_closeSession id late)).trans (by rw [hsessions])
  refine ⟨_, hexec, ?gone, fun y hy hother => ?kept, fun hlive => ?expired⟩
  case gone =>
    refine List.find?_eq_none.2 (fun z hz hid => ?_)
    obtain ⟨y, hy, hwy⟩ := List.mem_map.1 (hwho ▸ List.mem_map_of_mem (f := who) hz)
    have hyid : y.id = z.id := congrArg Prod.fst hwy
    have hne := (List.mem_filter.1 hy).2
    rw [hyid] at hne
    simp [bne, hid] at hne
  case kept =>
    have hmem : y ∈ s.cmd.sessions.filter (fun x => x.id != id) := List.mem_filter.2 ⟨hy, by simpa using hother⟩
    obtain ⟨z, hz, hwz⟩ := List.mem_map.1 (hwho.symm ▸ List.mem_map_of_mem (f := who) hmem)
    simp only [who, Prod.mk.injEq] at hwz
    exact ⟨z, hz, hwz⟩
  case expired =>
    refine keepsCauses_settle (keepsCauses_refl _) _ _ (by decide) (expired_closeSession (x := x) ?_ ?_)
    · unfold findSession
      rw [hsessions]
      exact hfind
    · rw [← hlate]
      exact hlive

/-! ## The slots of the queue (R478, R486) -/

/-- At most 56 normal and 8 reserved slots are taken. -/
def SlotsWithin (l : List Slot) : Prop := l.countP (fun x => !x.reserved) ≤ 56 ∧ l.countP (·.reserved) ≤ 8

theorem slotsWithin_of_held {a b : Cmd} (h : Held a b) (ha : SlotsWithin a.slots) : SlotsWithin b.slots :=
  ⟨(h.1.countP_le ..).trans ha.1, (h.1.countP_le ..).trans ha.2⟩

/-- A slot is taken only where R478 leaves one of its kind. -/
theorem slotsWithin_taken {op : Nat} {r : Bool} {s : State} (hslot : queueSlot op s = some r)
    (hs : SlotsWithin s.cmd.slots) (x : Slot) (hx : x.reserved = r) : SlotsWithin (s.cmd.slots ++ [x]) := by
  obtain ⟨hnormal, hreserved⟩ := hs
  unfold queueSlot at hslot
  unfold SlotsWithin
  simp only [List.countP_append, List.countP_cons, List.countP_nil, hx]
  split at hslot
  · cases hslot
    simp
    omega
  · split at hslot
    case isTrue hfree =>
      cases hslot
      simp only [Bool.and_eq_true, decide_eq_true_eq] at hfree
      simp
      omega
    case isFalse => cases hslot

theorem slots_enqueue (c : Ctx) (p : Pkt) (r : Bool) (s : State) :
    (enqueue c p r s).cmd.slots = s.cmd.slots ++ [⟨c, p.op, p.payload, r, s.time, false⟩] := rfl

section
variable {a : Cmd} {s : State} (c : Ctx) (p : Pkt)

theorem held_refuseNow (st : Nat) (pl : List Byte) (h : Held a s.cmd) : Held a (refuseNow c p st pl s).cmd :=
  held_transmit (by exact h) _ _ _

theorem slotsWithin_tryAdmit (h : SlotsWithin s.cmd.slots) : SlotsWithin (tryAdmit c p s).cmd.slots := by
  have refused (st : Nat) (pl : List Byte) : SlotsWithin (refuseNow c p st pl s).cmd.slots :=
    slotsWithin_of_held (held_refuseNow c p st pl (held_refl _)) h
  unfold tryAdmit
  split
  · exact refused _ _
  · split
    · exact refused _ _
    · split
      · exact refused _ _
      · split
        next r hslot =>
          rw [slots_enqueue]
          exact slotsWithin_taken hslot h _ rfl
        next =>
          refine slotsWithin_of_held (held_refuseNow c p _ _ (held_raise ?_ _)) h
          exact held_refl _

theorem slotsWithin_retryCheck (h : SlotsWithin s.cmd.slots) : SlotsWithin (retryCheck c p s).cmd.slots := by
  have sent (n : Bool) (b : List Byte) : SlotsWithin (transmit c n b s).cmd.slots :=
    slotsWithin_of_held (held_transmit (held_refl _) _ _ _) h
  unfold retryCheck
  dsimp only
  split
  · split
    · split
      · exact sent _ _
      · exact sent _ _
    · exact sent _ _
  · split
    · exact sent _ _
    · exact slotsWithin_tryAdmit c p h

end

theorem cmd_setpointIn (path : Nat) (b : List Byte) (s : State) : (setpointIn path b s).cmd = s.cmd := by
  unfold setpointIn
  split
  · rfl
  · split <;> rfl

theorem slotsWithin_packetGood (src : Src) (port : EthPort) (p : Pkt) {s : State} (h : SlotsWithin s.cmd.slots) :
    SlotsWithin (packetGood src port p s).cmd.slots := by
  unfold packetGood
  dsimp only
  generalize hheard : (if numbered _ (noteHeard s) then _ else noteHeard s) = t
  have ht : SlotsWithin t.cmd.slots := by
    rw [← hheard]
    split
    · exact h
    · exact h
  split
  · rw [cmd_setpointIn]
    exact ht
  · split
    · exact slotsWithin_of_held (held_transmit (held_refl _) _ _ _) ht
    · exact slotsWithin_retryCheck _ _ ht

theorem slotsWithin_packetIn (src : Src) (port : EthPort) (broadcast fragment : Bool) (b : List Byte) {s : State}
    (h : SlotsWithin s.cmd.slots) : SlotsWithin (packetIn src port broadcast fragment b s).cmd.slots := by
  have dropped (f : Fld) : SlotsWithin (mboxFree src (s.bump f 1)).cmd.slots := by
    unfold mboxFree
    split
    · exact h
    · exact h
  unfold packetIn
  dsimp only
  generalize (if numAt b 0 1 = 1 then numAt b 4 2 else numAt b 6 2) = op
  split
  · exact dropped _
  · split
    · exact dropped _
    · exact slotsWithin_of_held (held_raise (held_refl _) _) (dropped _)
    · exact slotsWithin_packetGood src port _ h

/-- Settles O18: a packet takes at most one slot, and only one that R478 leaves; the end of the command takes none. -/
theorem queueTakesSixtyFour : Obligations.QueueTakesSixtyFour := by
  unfold Obligations.QueueTakesSixtyFour
  intro src p b f bytes s t hnormal hreserved hexec
  have hs : SlotsWithin s.cmd.slots := ⟨hnormal, hreserved⟩
  change execRcpPacketReceive src p b f bytes s = _ at hexec
  rw [execRcpPacketReceive, finish_next] at hexec
  cases hexec
  refine slotsWithin_of_held (held_settle (held_refl _)) ?_
  split
  · exact slotsWithin_packetIn src p b f bytes hs
  · exact hs

end Sys2Proof.Proofs
end

section
/-!
SUPPORT. The recorder's slots and its full buffer (R571, R573, R574): what a drop counts, which slot a record takes,
and which record leaves a full buffer.
-/

namespace Sys2Proof.Proofs

open Sys2Proof Sys2Proof.Machine Sys2Proof.Laws

/-! ## Drops (R574) -/

@[simp] theorem evr_raise (c : Cause) (s : State) : (raise c s).evr = s.evr := rfl

/-- Only the count of its severity takes a drop, beside the notice of the first one. -/
theorem word_countDrop (n : Nat) (s : State) {a : Nat} (ha : a ≠ (F.INT_CAUSE_CAUSE C.EVR_DROP.g).addr) :
    (countDrop n s).word a = (s.bump (F.EVR_DROP_VALUE n) 1).word a := by
  unfold countDrop
  dsimp only
  split
  · exact word_raise_other _ _ ha
  · rfl

theorem drops_countDrop (n : Nat) (s : State) :
    (countDrop n s).get (F.EVR_DROP_VALUE n) = (s.get (F.EVR_DROP_VALUE n) + 1) % 2 ^ 32 ∧
      ∀ k, k ≠ n → (countDrop n s).get (F.EVR_DROP_VALUE k) = s.get (F.EVR_DROP_VALUE k) := by
  have hcount (k : Nat) : (countDrop n s).get (F.EVR_DROP_VALUE k) =
      (s.bump (F.EVR_DROP_VALUE n) 1).get (F.EVR_DROP_VALUE k) :=
    get_congr (word_countDrop n s (by
      change 0x50010 + 4 * k ≠ 0x1100 + 8 * C.EVR_DROP.g
      simp only [C.EVR_DROP]
      omega))
  refine ⟨(hcount n).trans (get_set_same s _ _ (le_refl 32)), fun k hk => (hcount k).trans ?_⟩
  exact get_congr (word_set_other s _ _ _ (by change 0x50010 + 4 * k ≠ 0x50010 + 4 * n; omega))

/-- A drop leaves the buffer and the records held as they were. -/
theorem held_evr_countDrop (n : Nat) (s : State) : (countDrop n s).evr.buffer = s.evr.buffer ∧
    (countDrop n s).evr.safety = s.evr.safety ∧ (countDrop n s).evr.general = s.evr.general := by
  unfold countDrop
  dsimp only
  split <;> exact ⟨rfl, rfl, rfl⟩

/-! ## Slots (R573) -/

@[simp] theorem evr_markEnds (s : State) : (markEnds s).evr = s.evr := rfl

theorem held_checkNear (s : State) :
    (checkNear s).evr.safety = s.evr.safety ∧ (checkNear s).evr.general = s.evr.general := by
  unfold checkNear
  dsimp only
  split
  · exact ⟨rfl, rfl⟩
  · split <;> exact ⟨rfl, rfl⟩

theorem storeSafety_free {n : Nat} {r : Rec} {l : List (Nat × Rec)} (h : l.length < 4096) :
    storeSafety n r l = l ++ [(n, r)] := by
  rw [storeSafety, if_pos h]

theorem storeSafety_full {n : Nat} {r : Rec} {l : List (Nat × Rec)} (h : 4096 ≤ l.length) :
    storeSafety n r l = l.drop 1 ++ [(n, r)] := by
  rw [storeSafety, if_neg (Nat.not_lt.2 h)]

theorem mem_storeSafety {n : Nat} {r : Rec} {l : List (Nat × Rec)} {e : Nat × Rec} (h : e ∈ storeSafety n r l) :
    e ∈ l ∨ e = (n, r) := by
  unfold storeSafety at h
  obtain hold | hnew := List.mem_append.1 h
  · refine .inl ?_
    split at hold
    · exact hold
    · exact List.mem_of_mem_drop hold
  · exact .inr (List.mem_singleton.1 hnew)

section
variable {r : Rec} {l : List Rec} {s : State} (hbuffer : s.evr.buffer = r :: l)
include hbuffer

/-- A SAFETY record goes to the safety partition and leaves the general area alone. -/
theorem writeOne_safety (hsev : r.sev = 4) : (writeOne s).evr.general = s.evr.general ∧
    (writeOne s).evr.safety = storeSafety (seqNext s.evr.newest) r s.evr.safety := by
  unfold writeOne
  rw [hbuffer]
  dsimp only
  rw [if_pos hsev]
  exact ⟨rfl, rfl⟩

/-- Any other record leaves the safety partition alone. -/
theorem writeOne_general (hsev : r.sev < 4) : (writeOne s).evr.safety = s.evr.safety := by
  unfold writeOne
  rw [hbuffer]
  dsimp only
  rw [if_neg (Nat.ne_of_lt hsev)]
  split
  · exact (held_checkNear _).1
  · split
    · exact (held_checkNear _).1
    · exact (held_evr_countDrop _ _).2.1

theorem writeOne_general_free (hsev : r.sev < 4) (hfree : s.evr.general.length < 61440) :
    (writeOne s).evr.general = s.evr.general ++ [(seqNext s.evr.newest, r)] := by
  unfold writeOne
  rw [hbuffer]
  dsimp only
  rw [if_neg (Nat.ne_of_lt hsev), if_pos hfree]
  exact (held_checkNear _).2

/-- In a full general area the record replaces the oldest one of its severity or lower. -/
theorem writeOne_general_replaces (hsev : r.sev < 4) (hfull : 61440 ≤ s.evr.general.length) {a b : List (Nat × Rec)}
    {x : Nat × Rec} (hsplit : s.evr.general = a ++ x :: b) (hx : x.2.sev ≤ r.sev) (ha : ∀ y ∈ a, r.sev < y.2.sev) :
    (writeOne s).evr.general = a ++ b ++ [(seqNext s.evr.newest, r)] := by
  have hany : s.evr.general.any (fun e => decide (e.2.sev ≤ r.sev)) = true :=
    List.any_eq_true.2 ⟨x, by simp [hsplit], by simpa using hx⟩
  have herase : s.evr.general.eraseP (fun e => decide (e.2.sev ≤ r.sev)) = a ++ b := by
    rw [hsplit, List.eraseP_append_right _ (fun y hy => by simpa using ha y hy),
      List.eraseP_cons_of_pos (by simpa using hx)]
  unfold writeOne
  rw [hbuffer]
  dsimp only
  rw [if_neg (Nat.ne_of_lt hsev), if_neg (Nat.not_lt.2 hfull), if_pos hany, herase]
  exact (held_checkNear _).2

/-- In a full general area of higher severities alone the record is dropped and counted. -/
theorem writeOne_general_drops (hsev : r.sev < 4) (hfull : 61440 ≤ s.evr.general.length)
    (hhigh : ∀ y ∈ s.evr.general, r.sev < y.2.sev) :
    writeOne s = countDrop r.sev { s with evr := { s.evr with buffer := l } } := by
  have hnone : s.evr.general.any (fun e => decide (e.2.sev ≤ r.sev)) = false :=
    List.any_eq_false.2 (fun y hy => by simpa using hhigh y hy)
  unfold writeOne
  rw [hbuffer]
  dsimp only
  rw [if_neg (Nat.ne_of_lt hsev), if_neg (Nat.not_lt.2 hfull), hnone]
  rfl

end

/-- Settles O56: the severity names the partition, and its slots decide. -/
theorem recordSlotsAreChosenBySeverity : Obligations.RecordSlotsAreChosenBySeverity := by
  unfold Obligations.RecordSlotsAreChosenBySeverity
  intro r l s hbuffer hle
  refine ⟨fun hsev => ?safety, fun hsev => ⟨writeOne_general hbuffer hsev, writeOne_general_free hbuffer hsev,
    fun hfull => ⟨fun a x b hsplit hx ha => writeOne_general_replaces hbuffer hsev hfull hsplit hx ha,
      fun hhigh => ?dropped⟩⟩, fun hall e he => ?only⟩
  case safety =>
    obtain ⟨hgeneral, hsafety⟩ := writeOne_safety hbuffer hsev
    rw [hsafety]
    refine ⟨hgeneral, List.mem_append_right _ (List.mem_singleton_self _), storeSafety_free, fun e m hm hfull => ?_⟩
    rw [storeSafety_full hfull, hm]
    rfl
  case dropped =>
    rw [writeOne_general_drops hbuffer hsev hfull hhigh]
    exact ⟨(held_evr_countDrop _ _).2.2, (drops_countDrop _ _).1⟩
  case only =>
    obtain hsev | hsev : r.sev = 4 ∨ r.sev < 4 := by omega
    · rw [(writeOne_safety hbuffer hsev).2] at he
      obtain hold | rfl := mem_storeSafety he
      · exact hall e hold
      · exact hsev
    · rw [writeOne_general hbuffer hsev] at he
      exact hall e he

/-! ## The full buffer (R571) -/

theorem foldl_min_mem {l : List Rec} {x : Rec} (hx : x ∈ l) (m : Nat) :
    l.foldl (fun m r => min m r.sev) m ≤ x.sev := by
  induction l generalizing m with
  | nil => cases hx
  | cons y l ih =>
    obtain rfl | hx := List.mem_cons.1 hx
    · exact (foldl_min_le l _).trans (Nat.min_le_right _ _)
    · exact ih hx _

theorem le_foldl_min {l : List Rec} {n m : Nat} (hm : n ≤ m) (h : ∀ y ∈ l, n ≤ y.sev) :
    n ≤ l.foldl (fun m r => min m r.sev) m := by
  induction l generalizing m with
  | nil => exact hm
  | cons y l ih =>
    obtain ⟨hy, hl⟩ := List.forall_mem_cons.1 h
    exact ih (Nat.le_min.2 ⟨hm, hy⟩) hl

/-- The most recently entered record of a severity is the last of that severity. -/
theorem dropLast_split {a b : List Rec} {x : Rec} (hb : ∀ y ∈ b, y.sev ≠ x.sev) :
    Machine.dropLast x.sev (a ++ x :: b) = a ++ b := by
  unfold Machine.dropLast
  rw [List.reverse_append, List.reverse_cons, List.append_assoc,
    List.eraseP_append_right _ (fun y hy => by simpa using hb y (List.mem_reverse.1 hy)), List.singleton_append,
    List.eraseP_cons_of_pos (by simp), ← List.reverse_append, List.reverse_reverse]

/-- Settles O57: the lowest severity of the buffer decides, and the drop is counted under the severity that is lost. -/
theorem aFullBufferKeepsTheHigherSeverity : Obligations.AFullBufferKeepsTheHigherSeverity := by
  unfold Obligations.AFullBufferKeepsTheHigherSeverity
  intro r s hfull hsev hsevs
  have hlen : ¬ s.evr.buffer.length < 256 := by omega
  refine ⟨fun a x b hsplit hlower hleast hlast => ?replaced, fun hnone => ?dropped⟩
  case replaced =>
    have hx : x ∈ s.evr.buffer := by simp [hsplit]
    have hlow : lowestSev s.evr.buffer = x.sev :=
      Nat.le_antisymm (foldl_min_mem hx 5) (le_foldl_min (by have := hsevs x hx; omega) hleast)
    have henter : enterRec r s = countDrop x.sev { s with evr := { s.evr with buffer := a ++ b ++ [r] } } := by
      unfold enterRec
      rw [if_neg hlen, hlow, if_pos hlower, hsplit]
      dsimp only
      rw [dropLast_split hlast]
    rw [henter]
    obtain ⟨hcounted, hothers⟩ := drops_countDrop x.sev { s with evr := { s.evr with buffer := a ++ b ++ [r] } }
    exact ⟨(held_evr_countDrop _ _).1, hcounted, fun k _ => hothers k⟩
  case dropped =>
    have hlow : ¬ lowestSev s.evr.buffer < r.sev := Nat.not_lt.2 (le_foldl_min (by omega) hnone)
    have henter : enterRec r s = countDrop r.sev s := by
      unfold enterRec
      rw [if_neg hlen, if_neg hlow]
    rw [henter]
    obtain ⟨hcounted, hothers⟩ := drops_countDrop r.sev s
    exact ⟨(held_evr_countDrop _ _).1, hcounted, fun k _ => hothers k⟩

end Sys2Proof.Proofs
end

section
/-!
SUPPORT. The map from raw to network time (R504): what replacing it leaves in its words, and that network time is
continuous there.
-/

namespace Sys2Proof.Proofs

open Sys2Proof Sys2Proof.Machine Sys2Proof.Laws

/-- A value written over two whole words is read back. -/
theorem get64_set64 (s : State) {a b v : Nat} (hne : a ≠ b) (hv : v < 2 ^ 64) :
    (s.set64 ⟨a, 0, 32⟩ ⟨b, 0, 32⟩ v).get64 ⟨a, 0, 32⟩ ⟨b, 0, 32⟩ = v := by
  have hlo : (s.set64 ⟨a, 0, 32⟩ ⟨b, 0, 32⟩ v).get ⟨a, 0, 32⟩ = v % 2 ^ 32 :=
    (get_congr (word_set_other _ _ _ _ hne)).trans (get_set_same s ⟨a, 0, 32⟩ v (le_refl 32))
  have hhi : (s.set64 ⟨a, 0, 32⟩ ⟨b, 0, 32⟩ v).get ⟨b, 0, 32⟩ = v / 2 ^ 32 % 2 ^ 32 :=
    get_set_same _ ⟨b, 0, 32⟩ _ (le_refl 32)
  rw [State.get64, hlo, hhi, join64]
  omega

theorem get64_congr {s t : State} {lo hi : Fld} (hlo : t.word lo.addr = s.word lo.addr)
    (hhi : t.word hi.addr = s.word hi.addr) : t.get64 lo hi = s.get64 lo hi := by
  rw [State.get64, State.get64, get_congr hlo, get_congr hhi]

theorem word_set64_other (s : State) (lo hi : Fld) (v : Nat) {a : Nat} (hlo : a ≠ lo.addr) (hhi : a ≠ hi.addr) :
    (s.set64 lo hi v).word a = s.word a :=
  (word_set_other _ _ _ _ hhi).trans (word_set_other _ _ _ _ hlo)

theorem word_setI_other (s : State) (f : Fld) (v : Int) {a : Nat} (h : a ≠ f.addr) : (s.setI f v).word a = s.word a :=
  word_set_other s f _ a h

theorem word_bump_other (s : State) (f : Fld) (k : Nat) {a : Nat} (h : a ≠ f.addr) : (s.bump f k).word a = s.word a :=
  word_set_other s f _ a h

/-- The words of a new map before its rate: the two bases. -/
def mapBases (n : Nat) (s : State) : State :=
  (s.set64 F.PTP_MAP_RBASE_LO_VALUE F.PTP_MAP_RBASE_HI_VALUE s.time).set64 F.PTP_MAP_NBASE_LO_VALUE
    F.PTP_MAP_NBASE_HI_VALUE n

/-- A new map is its bases, then its rate, then its count. -/
theorem mapReplace_regs (n : Nat) (rho : Rat) (s : State) : ∃ r : Int, (mapReplace n rho s).regs =
    ((((mapBases n s).setI F.PTP_MAP_RATE_VALUE r).setI F.PTP_RATE_VALUE r).bump F.PTP_MAP_SEQ_VALUE 1).regs := by
  unfold mapReplace mapBases
  dsimp only
  generalize roundQ (rho * 2 ^ 40) = r
  refine ⟨r, ?_⟩
  rfl

theorem word_mapReplace_base (n : Nat) (rho : Rat) (s : State) {a : Nat} (hm : a ≠ F.PTP_MAP_RATE_VALUE.addr)
    (hr : a ≠ F.PTP_RATE_VALUE.addr) (hs : a ≠ F.PTP_MAP_SEQ_VALUE.addr) :
    (mapReplace n rho s).word a = (mapBases n s).word a := by
  obtain ⟨r, h⟩ := mapReplace_regs n rho s
  rw [word_of_regs h, word_bump_other _ _ _ hs, word_setI_other _ _ _ hr, word_setI_other _ _ _ hm]

theorem time_mapReplace (n : Nat) (rho : Rat) (s : State) : (mapReplace n rho s).time = s.time := by
  unfold mapReplace
  simp only [bump_time, setI_time, set64_time]

theorem time_raise (c : Cause) (s : State) : (raise c s).time = s.time := rfl

theorem time_stepTime (n : Nat) (s : State) : (stepTime n s).time = s.time := by
  rw [stepTime, time_raise, bump_time, time_mapReplace]

/-- The raw base of a new map is TIME. -/
theorem rbase_mapReplace (n : Nat) (rho : Rat) {s : State} (ht : s.time < 2 ^ 64) :
    (mapReplace n rho s).get64 F.PTP_MAP_RBASE_LO_VALUE F.PTP_MAP_RBASE_HI_VALUE = s.time :=
  calc _ = (mapBases n s).get64 F.PTP_MAP_RBASE_LO_VALUE F.PTP_MAP_RBASE_HI_VALUE :=
      get64_congr (word_mapReplace_base n rho s (by decide) (by decide) (by decide))
        (word_mapReplace_base n rho s (by decide) (by decide) (by decide))
    _ = _ := get64_congr (word_set64_other _ _ _ _ (by decide) (by decide))
        (word_set64_other _ _ _ _ (by decide) (by decide))
    _ = s.time := get64_set64 s (by decide) ht

/-- The network base of a new map is the time it is given. -/
theorem nbase_mapReplace {n : Nat} (rho : Rat) (s : State) (hn : n < 2 ^ 64) :
    (mapReplace n rho s).get64 F.PTP_MAP_NBASE_LO_VALUE F.PTP_MAP_NBASE_HI_VALUE = n :=
  (get64_congr (word_mapReplace_base n rho s (by decide) (by decide) (by decide))
    (word_mapReplace_base n rho s (by decide) (by decide) (by decide))).trans (get64_set64 _ (by decide) hn)

/-- The map counts each replacement. -/
theorem seq_mapReplace (n : Nat) (rho : Rat) (s : State) :
    (mapReplace n rho s).get F.PTP_MAP_SEQ_VALUE = (s.get F.PTP_MAP_SEQ_VALUE + 1) % 2 ^ 32 := by
  obtain ⟨r, h⟩ := mapReplace_regs n rho s
  have hbefore : (((mapBases n s).setI F.PTP_MAP_RATE_VALUE r).setI F.PTP_RATE_VALUE r).get F.PTP_MAP_SEQ_VALUE =
      s.get F.PTP_MAP_SEQ_VALUE := get_congr (by
    rw [word_setI_other _ _ _ (by decide), word_setI_other _ _ _ (by decide), mapBases,
      word_set64_other _ _ _ _ (by decide) (by decide), word_set64_other _ _ _ _ (by decide) (by decide)])
  rw [get_congr (word_of_regs h _), State.bump, hbefore]
  exact get_set_same _ F.PTP_MAP_SEQ_VALUE _ (le_refl 32)

/-- At its raw base network time is the network base, whatever the rate. -/
theorem networkNs_rbase (s : State) :
    networkNs s (s.get64 F.PTP_MAP_RBASE_LO_VALUE F.PTP_MAP_RBASE_HI_VALUE) =
      s.get64 F.PTP_MAP_NBASE_LO_VALUE F.PTP_MAP_NBASE_HI_VALUE := by
  unfold networkNs
  simp only [Int.sub_self, Int.zero_mul, Int.zero_fdiv, Int.add_zero, Int.toNat_natCast]

theorem networkNs_mapReplace {n : Nat} (rho : Rat) {s : State} (ht : s.time < 2 ^ 64) (hn : n < 2 ^ 64) :
    networkNs (mapReplace n rho s) s.time = n := by
  have h := networkNs_rbase (mapReplace n rho s)
  rwa [rbase_mapReplace n rho ht, nbase_mapReplace rho s hn] at h

/-- Network time depends on the words of the map alone. -/
theorem networkNs_congr {s t : State} (h : ∀ a, 0x440A4 ≤ a → a ≤ 0x440B4 → t.word a = s.word a) (raw : Nat) :
    networkNs t raw = networkNs s raw := by
  have hr : t.get64 F.PTP_MAP_RBASE_LO_VALUE F.PTP_MAP_RBASE_HI_VALUE = _ :=
    get64_congr (h _ (by decide) (by decide)) (h _ (by decide) (by decide))
  have hn : t.get64 F.PTP_MAP_NBASE_LO_VALUE F.PTP_MAP_NBASE_HI_VALUE = _ :=
    get64_congr (h _ (by decide) (by decide)) (h _ (by decide) (by decide))
  have hi : t.getI F.PTP_MAP_RATE_VALUE = s.getI F.PTP_MAP_RATE_VALUE :=
    congrArg (signed 32) (get_congr (h _ (by decide) (by decide)))
  rw [networkNs, hr, hn, hi, networkNs]

theorem networkNs_stepTime {n : Nat} {s : State} (ht : s.time < 2 ^ 64) (hn : n < 2 ^ 64) :
    networkNs (stepTime n s) s.time = n := by
  refine (networkNs_congr (fun a hl hh => ?_) _).trans (networkNs_mapReplace s.net.rho ht hn)
  refine (word_raise_other _ _ ?_).trans (word_set_other _ _ _ _ ?_)
  · rw [show (F.INT_CAUSE_CAUSE C.TIME_STEP.g).addr = 0x1100 + 8 * C.TIME_STEP.g from rfl]
    simp only [C.TIME_STEP]
    omega
  · rw [show F.PTP_STEP_CNT_VALUE.addr = 0x44060 from rfl]
    omega

/-- Settles O58: at the raw base of the map network time is its network base, and both are set together. -/
theorem networkTimeIsContinuous : Obligations.NetworkTimeIsContinuous := by
  unfold Obligations.NetworkTimeIsContinuous
  intro rate n s ht hn hnow
  dsimp only
  rw [time_mapReplace, time_stepTime]
  exact ⟨⟨networkNs_mapReplace rate ht hnow, rfl, rbase_mapReplace _ rate ht, seq_mapReplace _ rate s⟩,
    networkNs_stepTime ht hn, rfl⟩

end Sys2Proof.Proofs
end

section
/-!
SUPPORT. Safe Energy Isolation (R386, R390): what it opens and latches, that the report, the change of state and the
replies that follow leave that as it is, and so do the levels at the end of the command.
-/

namespace Sys2Proof.Proofs

open Sys2Proof Sys2Proof.Machine Sys2Proof.Laws Sys2Proof.Safety

/-! ## The contactors opened -/

/-- The same write to equal words leaves equal words. -/
theorem word_setB_congr {s t : State} {a : Nat} (f : Fld) (b : Bool) (h : t.word a = s.word a) :
    (t.setB f b).word a = (s.setB f b).word a := by
  simp only [State.setB, State.set, word_setWord]
  split
  · rename_i he
    rw [← he, h]
  · exact h

theorem word_countBreak (c : Nat) (s : State) {a : Nat} (ha : a ≠ 0x31030 + 4 * c) :
    (countBreak c s).word a = s.word a := by
  unfold countBreak
  split
  · refine (word_set_other _ (F.KON_BREAK_LOW c) _ _ ha).trans ?_
    unfold State.bumpSat
    split
    · exact word_set_other _ (F.KON_BREAK_HIGH c) _ _ ha
    · rfl
  · rfl

/-- What an opening through both switches writes beside its count of the current broken. -/
def switchesOff (c : Nat) (s : State) : State :=
  ((s.setB (kon c 0) false).setB (kon c 1) false).setB (kon c 2) false

theorem word_openContactor (c : Nat) (s : State) {a : Nat} (ha : a ≠ 0x31030 + 4 * c) :
    (openContactor c s).word a = (switchesOff c s).word a := by
  have counted : (if holds s c then countBreak c s else s).word a = s.word a := by
    split
    · exact word_countBreak c s ha
    · rfl
  have bits := word_setB_congr (kon c 2) false (word_setB_congr (kon c 1) false
    (word_setB_congr (kon c 0) false counted))
  unfold openContactor openVia
  dsimp only
  rw [if_pos rfl, if_pos rfl]
  split
  · rename_i hwas
    rw [if_pos hwas] at bits
    exact (word_of_regs (deEnergise_keeps c _).1 a).trans bits
  · rename_i hwas
    rw [if_neg hwas] at bits
    exact bits

/-- A contactor is not commanded and its high side is off. -/
def Released (c : Nat) (s : State) : Prop := s.flag (konCmd c) = false ∧ s.flag (konHs c) = false

/-- Two bits of KON_STATUS, of two contactors or of one, are apart. -/
theorem apart_kon {c d j k : Nat} (hj : j < 8) (hk : k < 8) (h : c ≠ d ∨ j ≠ k) :
    apart (kon c j) (kon d k) = true := by
  simp [apart, kon]
  omega

/-- The writes of an opening leave every bit of KON_STATUS but the contactor's three lowest. -/
theorem flag_openContactor {c d k : Nat} (hk : k < 8) (h : c ≠ d ∨ 2 < k) (s : State) :
    (openContactor c s).flag (kon d k) = s.flag (kon d k) := by
  have hword : (openContactor c s).word (kon d k).addr = (switchesOff c s).word (kon d k).addr :=
    word_openContactor c s (by change 0x31004 ≠ _; omega)
  rw [flag_congr hword, switchesOff, flag_setB_apart _ _ _ _ (apart_kon (by decide) hk (by omega)),
    flag_setB_apart _ _ _ _ (apart_kon (by decide) hk (by omega)),
    flag_setB_apart _ _ _ _ (apart_kon (by decide) hk (by omega))]

theorem released_openContactor {c : Nat} (hc : c < 3) (s : State) : Released c (openContactor c s) := by
  have hword (k : Nat) : (openContactor c s).word (kon c k).addr = (switchesOff c s).word (kon c k).addr :=
    word_openContactor c s (by change 0x31004 ≠ _; omega)
  have hfits (k : Nat) (hk : k < 8) : (kon c k).lo + (kon c k).n ≤ 32 := by change 8 * c + k + 1 ≤ 32; omega
  constructor
  · rw [konCmd, flag_congr (hword 0), switchesOff,
      flag_setB_apart _ _ _ _ (apart_kon (by decide) (by decide) (.inr (by decide))),
      flag_setB_apart _ _ _ _ (apart_kon (by decide) (by decide) (.inr (by decide)))]
    exact flag_setB_same _ _ _ (hfits 0 (by decide)) Nat.one_pos
  · rw [konHs, flag_congr (hword 1), switchesOff,
      flag_setB_apart _ _ _ _ (apart_kon (by decide) (by decide) (.inr (by decide)))]
    exact flag_setB_same _ _ _ (hfits 1 (by decide)) Nat.one_pos

theorem released_openContactor_other {c d : Nat} (hcd : c ≠ d) {s : State} (h : Released d s) :
    Released d (openContactor c s) :=
  ⟨(flag_openContactor (by decide) (.inl hcd) s).trans h.1, (flag_openContactor (by decide) (.inl hcd) s).trans h.2⟩

/-- Every contactor is opened (R386). -/
theorem released_openAll {c : Nat} (hc : c < 3) (s : State) : Released c (openAll s) := by
  unfold openAll
  obtain rfl | rfl | rfl : c = 0 ∨ c = 1 ∨ c = 2 := by omega
  · exact released_openContactor_other (by decide) (released_openContactor_other (by decide)
      (released_openContactor hc s))
  · exact released_openContactor_other (by decide) (released_openContactor hc _)
  · exact released_openContactor hc _

/-- The openings write nothing outside the contactors' registers. -/
theorem word_openAll (s : State) {a : Nat} (ha : a < 0x31000) : (openAll s).word a = s.word a := by
  have one (c : Nat) (s : State) : (openContactor c s).word a = s.word a := by
    rw [word_openContactor c s (by omega), switchesOff]
    simp only [State.setB]
    rw [word_set_other _ (kon c 2) _ _ (by change a ≠ 0x31004; omega),
      word_set_other _ (kon c 1) _ _ (by change a ≠ 0x31004; omega),
      word_set_other _ (kon c 0) _ _ (by change a ≠ 0x31004; omega)]
  rw [openAll, one, one, one]

/-! ## What an isolation latches first -/

/-- The state of an isolation before its report: opened, latched, and no SCS left. -/
def seiLatched (code : Nat) (s : State) : State :=
  let x := setLatches (openAll (if s.safe.scs.isSome then s else noteDemand code s))
  (({ x with
      safe := { x.safe with scs := none, scsDemand := none, scsCtx := [], backupAt := none, rearm := none },
      sys := { x.sys with holdEnd := none } } : State).setB F.SAFE_STATUS_SCS_ACTIVE false).setB F.SYS_STATE_HOLD false

/-- The first demand's code is noted before anything else (R390). -/
def seiNoted (code : Nat) (s : State) : State := if s.safe.scs.isSome then s else noteDemand code s

theorem get_setLatches (s : State) {f : Fld} (hi : apart F.SYS_STATE_ISO_LATCH f = true)
    (hz : apart F.SAFE_STATUS_ZSL_LATCH f = true) (hp : apart F.SAFE_STATUS_SP_LATCH f = true) :
    (setLatches s).get f = s.get f := by
  simp only [setLatches, State.setB]
  rw [get_set_apart _ _ _ _ hi, get_set_apart _ _ _ _ hz, get_set_apart _ _ _ _ hp]

/-- The end of the SCS and of the hold leaves the fields of the latches and of the openings. -/
theorem get_seiLatched (code : Nat) (s : State) {f : Fld} (hh : apart F.SYS_STATE_HOLD f = true)
    (ha : apart F.SAFE_STATUS_SCS_ACTIVE f = true) :
    (seiLatched code s).get f = (setLatches (openAll (seiNoted code s))).get f := by
  unfold seiLatched
  simp only [State.setB]
  rw [get_set_apart _ _ _ _ hh, get_set_apart _ _ _ _ ha]
  rfl

theorem released_seiLatched (code : Nat) (s : State) {c : Nat} (hc : c < 3) : Released c (seiLatched code s) := by
  have kept (k : Nat) : (seiLatched code s).flag (kon c k) = (openAll (seiNoted code s)).flag (kon c k) := by
    rw [State.flag, get_seiLatched code s (by rfl) (by rfl), get_setLatches _ (by rfl) (by rfl) (by rfl), State.flag]
  obtain ⟨hcmd, hhs⟩ := released_openAll hc (seiNoted code s)
  exact ⟨(kept 0).trans hcmd, (kept 1).trans hhs⟩

theorem latched_seiLatched (code : Nat) (s : State) : latched (seiLatched code s) = true := by
  have set (x : State) : (setLatches x).flag F.SAFE_STATUS_SP_LATCH = true ∧
      (setLatches x).flag F.SAFE_STATUS_ZSL_LATCH = true := by
    simp (disch := decide) only [setLatches, flag_setB_apart, flag_setB_same, and_self]
  obtain ⟨hsp, hzsl⟩ := set (openAll (seiNoted code s))
  unfold latched
  rw [State.flag, get_seiLatched code s (by decide) (by decide), State.flag,
    get_seiLatched code s (by decide) (by decide)]
  exact Bool.and_eq_true_iff.2 ⟨hsp, hzsl⟩

/-- LAST_CAUSE is the code of the demand where no SCS ran before it (R390). -/
theorem lastCause_seiLatched (code : Nat) {s : State} (h : s.safe.scs = none) :
    (seiLatched code s).get F.SAFE_STATUS_LAST_CAUSE = code % 2 ^ F.SAFE_STATUS_LAST_CAUSE.n := by
  have noted : (noteDemand code s).word F.SAFE_STATUS_LAST_CAUSE.addr = (s.set F.SAFE_STATUS_LAST_CAUSE code).word _ :=
    word_set64_other _ _ _ _ (by decide) (by decide)
  rw [get_seiLatched code s (by decide) (by decide), get_setLatches _ (by decide) (by decide) (by decide),
    get_congr (word_openAll _ (by decide)), seiNoted, h, if_neg (by decide), get_congr noted]
  exact get_set_same s F.SAFE_STATUS_LAST_CAUSE code (by decide)

/-! ## What follows the latches -/

theorem safe_of_outer {s t : State} (h : outer t = outer s) : t.safe = s.safe :=
  congrArg (·.2.2.2.2.2.2.2.2.2.2.1) h

/-- The second state has the first one's words of the latches, of LAST_CAUSE and of the switches, its running SCS, and
every cause that is latched there. -/
def SeiKeeps (s t : State) : Prop :=
  (∀ a, a = 0x30080 ∨ a = 0x31004 → t.word a = s.word a) ∧ t.safe.scs = s.safe.scs ∧ KeepsCauses s t

theorem seiKeeps_refl (s : State) : SeiKeeps s s := ⟨fun _ _ => rfl, rfl, keepsCauses_refl s⟩

section
variable {s t : State} (h : SeiKeeps s t)
include h

/-- What writes the loop's blocks alone and keeps SP's part keeps what an isolation has latched. -/
theorem seiKeeps_of_loop {u : State} (hw : SameOutside loopBlocks t u) (hs : u.safe.scs = t.safe.scs)
    (hk : KeepsCauses s t → KeepsCauses s u) : SeiKeeps s u := by
  obtain ⟨hword, hscs, hcauses⟩ := h
  refine ⟨fun a ha => (hw a ?_).trans (hword a ha), hs.trans hscs, hk hcauses⟩
  obtain rfl | rfl := ha <;> decide

theorem seiKeeps_set (f : Fld) (v : Nat) (hf : f.addr ∉ [0x30080, 0x31004])
    (hc : f.addr < 0x1100 ∨ 0x1180 ≤ f.addr) : SeiKeeps s (t.set f v) := by
  obtain ⟨hword, hscs, hcauses⟩ := h
  refine ⟨fun a ha => (word_set_other _ _ _ _ (fun e => hf ?_)).trans (hword a ha), hscs,
    keepsCauses_set hcauses f v hc⟩
  rw [← e]
  simpa using ha

theorem seiKeeps_respond (c : Ctx) (n : Bool) (op st : Nat) (p : List Byte) : SeiKeeps s (respond c n op st p t) :=
  seiKeeps_of_loop h (SameOutside_loop (SameWords_respond c n op st p t))
    (congrArg (·.scs) (safe_of_outer (outer_respond c n op st p t)))
    (fun hk => keepsCauses_respond hk c n op st p)

theorem seiKeeps_notifyOpt (c : Option Ctx) (op st : Nat) (p : List Byte) : SeiKeeps s (notifyOpt c op st p t) := by
  cases c
  · exact h
  · exact seiKeeps_respond h _ _ _ _ _

theorem seiKeeps_replies (l : List Ctx) (g : Ctx → State → State)
    (hg : ∀ c {u : State}, SeiKeeps s u → SeiKeeps s (g c u)) :
    SeiKeeps s (l.foldl (fun s c => g c s) t) := by
  induction l generalizing t with
  | nil => exact h
  | cons c l ih => exact ih (hg c h)

theorem seiKeeps_causeRec (c : Cause) (n : Nat) (p : List Byte) (hc : c.g < 16) (hn : n < 6) :
    SeiKeeps s (causeRec c n p t) :=
  seiKeeps_of_loop h (SameOutside_loop (SameWords_causeRec c n p t hc hn))
    (congrArg (·.scs) (safe_of_outer (outer_causeRec c n p t))) (fun hk => keepsCauses_causeRec hk c n p)

theorem seiKeeps_loopOpen (n : Nat) : SeiKeeps s (loopOpen n t) :=
  seiKeeps_of_loop h (SameOutside_loopOpen n t) (congrArg (·.scs) (safe_of_outer (outer_loopOpen n t)))
    (fun hk => keepsCauses_loopOpen hk n)

theorem seiKeeps_abandonClose : SeiKeeps s (abandonClose t) := by
  unfold abandonClose
  split
  · exact seiKeeps_replies (seiKeeps_set (by exact h) _ _ (by decide) (by decide)) _ _
      (fun c _ hu => seiKeeps_respond hu c _ _ _ _)
  · exact h

/-- The end of RUN keeps what an isolation has latched. -/
theorem seiKeeps_leaveRun (old : Nat) :
    SeiKeeps s (if old = stRun then dispatchOff (recipeEnd 5 (eisAbandon 0x5 t)) else t) := by
  have hscs : (if old = stRun then dispatchOff (recipeEnd 5 (eisAbandon 0x5 t)) else t).safe = t.safe := by
    refine safe_of_outer ?_
    split
    · rw [outer_dispatchOff, outer_recipeEnd, outer_eisAbandon]
    · rfl
  refine seiKeeps_of_loop h (SameOutside_loop (SameWords_leaveRun old t)) (congrArg (·.scs) hscs) (fun hk => ?_)
  split
  · exact keepsCauses_dispatchOff (keepsCauses_recipeEnd (keepsCauses_eisAbandon hk _) _)
  · exact hk

theorem seiKeeps_changeState (new trigger detail : Nat) (o : Origin) :
    SeiKeeps s (changeState new trigger detail o t) := by
  have sev : (if new = stSafeStop ∨ new = stIsolated then sevSafety else sevNotice) < 6 := by split <;> decide
  have coded : SeiKeeps s ((t.set F.SYS_STATE_PREV_STATE t.st).set F.SYS_STATE_STATE new) :=
    seiKeeps_set (seiKeeps_set h _ _ (by decide) (by decide)) _ _ (by decide) (by decide)
  unfold changeState
  dsimp only
  split
  · exact h
  · refine seiKeeps_leaveRun ?_ _
    split
    · exact seiKeeps_causeRec coded _ _ _ (by decide) sev
    · exact seiKeeps_loopOpen (seiKeeps_abandonClose (seiKeeps_causeRec coded _ _ _ (by decide) sev)) _

theorem seiKeeps_runDone (n : Nat) : SeiKeeps s (runDone n t) := by
  unfold runDone
  exact seiKeeps_notifyOpt (seiKeeps_set (by exact h) _ _ (by decide) (by decide)) _ _ _ _

theorem seiKeeps_stopDone (n : Nat) : SeiKeeps s (stopDone n t) := by
  unfold stopDone
  split
  · exact h
  · exact seiKeeps_notifyOpt (seiKeeps_set (by exact h) _ _ (by decide) (by decide)) _ _ _ _

theorem seiKeeps_abandonMoves : SeiKeeps s (abandonMoves t) := by
  have run : SeiKeeps s (if t.sys.runCtx.isSome then runDone stForbids t else t) := by
    split
    · exact seiKeeps_runDone h _
    · exact h
  have stop := seiKeeps_stopDone run stForbids
  unfold abandonMoves
  dsimp only
  generalize stopDone stForbids (if t.sys.runCtx.isSome then runDone stForbids t else t) = u at stop ⊢
  split
  · exact seiKeeps_respond (seiKeeps_set stop _ _ (by decide) (by decide)) _ _ _ _ _
  · exact stop

theorem seiKeeps_testCut (n : Nat) : SeiKeeps s (testCut n t) := by
  unfold testCut
  split
  · exact h
  · dsimp only
    split <;> exact seiKeeps_notifyOpt (by exact h) _ _ _ _

end

/-! ## The state of the device -/

theorem st_of_outside {s t : State} (h : SameOutside loopBlocks s t) : t.st = s.st :=
  get_congr (f := F.SYS_STATE_STATE) (h _ (by decide))

theorem st_notifyOpt (c : Option Ctx) (op st : Nat) (p : List Byte) (s : State) :
    (notifyOpt c op st p s).st = s.st := st_of_outside (SameOutside_loop (SameWords_notifyOpt c op st p s))

theorem st_setB {s : State} {f : Fld} (b : Bool) (h : apart f F.SYS_STATE_STATE = true) : (s.setB f b).st = s.st :=
  get_set_apart _ _ _ _ h

theorem st_abandonMoves (s : State) : (abandonMoves s).st = s.st := by
  have run : (if s.sys.runCtx.isSome then runDone stForbids s else s).st = s.st := by
    split
    · exact (st_notifyOpt _ _ _ _ _).trans (st_setB false (by decide))
    · rfl
  have stop (t : State) : (stopDone stForbids t).st = t.st := by
    unfold stopDone
    split
    · rfl
    · exact (st_notifyOpt _ _ _ _ _).trans (st_setB false (by decide))
  have moved := (stop _).trans run
  unfold abandonMoves
  dsimp only
  generalize stopDone stForbids (if s.sys.runCtx.isSome then runDone stForbids s else s) = u at moved ⊢
  split
  · exact (st_of_outside (SameOutside_loop (SameWords_respond _ _ _ _ _ _))).trans
      ((st_setB false (by decide)).trans moved)
  · exact moved

theorem st_testCut (code : Nat) (s : State) : (testCut code s).st = s.st := by
  unfold testCut
  split
  · rfl
  · dsimp only
    split <;> exact st_notifyOpt _ _ _ _ _

theorem st_replies (l : List Ctx) (s : State) :
    (l.foldl (fun s c => replyOk c 0x0010 (u8 s.st) s) s).st = s.st :=
  st_of_outside (SameOutside_loop (SameWords_foldl _ _ (fun _ _ _ => SameWords_respond _ _ _ _ _ _) _))

/-! ## The isolation -/

/-- The loop has opened and the cause stands: what precedes the change of state. -/
def seiShown (code : Nat) (s : State) : State := loopOpen 0x01 (abandonClose (seiReport code (seiLatched code s)))

theorem seiKeeps_shown (code : Nat) (s : State) : SeiKeeps (seiLatched code s) (seiShown code s) := by
  unfold seiShown seiReport
  exact seiKeeps_loopOpen (seiKeeps_abandonClose (seiKeeps_causeRec (seiKeeps_set (seiKeeps_refl _) _ _ (by decide)
    (by decide)) _ _ _ (by decide) (by decide))) _

theorem st_seiLatched (code : Nat) (s : State) : (seiLatched code s).st = s.st := by
  have noted : (seiNoted code s).word F.SYS_STATE_STATE.addr = s.word F.SYS_STATE_STATE.addr := by
    unfold seiNoted noteDemand
    split
    · rfl
    · rw [word_set64_other _ _ _ _ (by decide) (by decide), word_set_other _ _ _ _ (by decide)]
  unfold State.st
  rw [get_seiLatched code s (by decide) (by decide), get_setLatches _ (by decide) (by decide) (by decide),
    get_congr ((word_openAll _ (by decide)).trans noted)]

theorem st_seiShown (code : Nat) (s : State) : (seiShown code s).st = s.st := by
  unfold seiShown seiReport
  rw [st_of_outside (SameOutside_loopOpen _ _), st_of_outside (SameOutside_abandonClose _),
    st_of_outside (SameOutside_loop (SameWords_causeRec C.SEI sevSafety (u8 code) _ (by decide) (by decide)))]
  exact (get_set_apart _ _ _ _ (by decide)).trans (st_seiLatched code s)

/-- SEI is latched once it is reported, and stays so (R428). -/
theorem cause_seiShown (code : Nat) (s : State) :
    bitOf ((seiShown code s).word (F.INT_CAUSE_CAUSE C.SEI.g).addr) C.SEI.b = true := by
  obtain ⟨-, -, hkeeps⟩ :
      SeiKeeps (raise C.SEI ((seiLatched code s).bump F.SAFE_SEI_CNT_VALUE 1)) (seiShown code s) := by
    unfold seiShown seiReport
    exact seiKeeps_loopOpen (seiKeeps_abandonClose (seiKeeps_of_loop (seiKeeps_refl _)
      (SameOutside_loop (SameWords_addRec _ _ _ _ _ (by decide))) (congrArg (·.scs) (safe_of_outer (outer_addRec ..)))
      (fun hk => keepsCauses_addRec hk _ _ _ _))) _
  exact hkeeps _ _ (by decide) (bitOf_raise C.SEI _ (by decide))

/-- An isolation of an unlatched module runs in this order: latches, report, loop, change of state, and the replies of
what it cuts short (R386). -/
theorem sei_unlatched (code : Nat) {s : State} (hl : latched s = false) :
    sei code s =
      let x := seiLatched code s
      let y := loopOpen 0x01 (abandonClose (if x.st = stBoot ∧ !x.sys.supRuns then
        { x with sys := { x.sys with bootDemands := x.sys.bootDemands ++ [code] } } else seiReport code x))
      (setLatches (openAll (seiNoted code s))).safe.scsCtx.foldl (fun s c => replyOk c 0x0010 (u8 s.st) s)
        (testCut code (if y.awake then abandonMoves (changeState stIsolated 0x0E code inside y) else y)) := by
  unfold sei seiBy
  rw [if_neg (by rw [hl]; decide)]
  rfl

theorem sei_awake (code : Nat) {s : State} (hawake : s.awake = true) (hl : latched s = false) :
    sei code s = (setLatches (openAll (seiNoted code s))).safe.scsCtx.foldl (fun s c => replyOk c 0x0010 (u8 s.st) s)
      (testCut code (abandonMoves (changeState stIsolated 0x0E code inside (seiShown code s)))) := by
  have hreport : ¬ ((seiLatched code s).st = stBoot ∧ (!(seiLatched code s).sys.supRuns) = true) := fun hb =>
    st_ne_boot_of_awake hawake ((st_seiLatched code s).symm.trans hb.1)
  have hstill : (seiShown code s).awake = true := by
    rw [State.awake, st_seiShown]
    exact hawake
  rw [sei_unlatched code hl]
  dsimp only
  rw [if_neg hreport, ← seiShown, if_pos hstill]

/-- After the isolation the device is isolated, and what it latched stands. -/
theorem sei_isolates (code : Nat) {s : State} (hawake : s.awake = true) (hl : latched s = false) :
    (sei code s).st = stIsolated ∧ SeiKeeps (seiLatched code s) (sei code s) ∧
      SeiKeeps (seiShown code s) (sei code s) := by
  rw [sei_awake code hawake hl]
  have tail {x : State} (h : SeiKeeps x (seiShown code s)) :=
    seiKeeps_replies (seiKeeps_testCut (seiKeeps_abandonMoves
      (seiKeeps_changeState h stIsolated 0x0E code inside)) code)
      (setLatches (openAll (seiNoted code s))).safe.scsCtx (fun c s => replyOk c 0x0010 (u8 s.st) s)
      (fun c _ hu => seiKeeps_respond hu c _ _ _ _)
  refine ⟨?_, tail (seiKeeps_shown code s), tail (seiKeeps_refl _)⟩
  rw [st_replies, st_testCut, st_abandonMoves]
  by_cases hst : (seiShown code s).st = stIsolated
  · rw [changeState, if_pos hst]
    exact hst
  · exact st_changeState 0x0E code inside hst (by decide)

/-! ## The levels at the end -/

/-- The fields of the words of SAFE_STATUS and KON_STATUS that the end of a command computes. -/
def shownFields : List Fld := [siDemandFld 0, siDemandFld 1, konLs 0, konLs 1, konLs 2, F.SAFE_STATUS_PWM_EN_REQ,
  F.SAFE_STATUS_HB_OK, F.SAFE_STATUS_SAFE_OK]

theorem get_settleLow (c : Nat) (s : State) {f : Fld} (h : apart (konLs c) f = true) :
    (settleLow c s).get f = s.get f := by
  unfold settleLow
  dsimp only
  split
  · refine (get_set_apart _ _ _ _ h).trans ?_
    split
    · exact get_congr (word_of_regs (deEnergise_keeps c s).1 _)
    · rfl
  · rfl

/-- The other fields of those words stay. -/
theorem get_settle_latch (s : State) {f : Fld} (hf : f.addr = 0x30080 ∨ f.addr = 0x31004)
    (h : shownFields.all (fun g => apart g f) = true) : (settle s).get f = s.get f := by
  have hshown {g : Fld} (hg : g ∈ shownFields) : apart g f = true := List.all_eq_true.1 h g hg
  have hloop : f.addr / 0x1000 ∉ loopBlocks := by obtain h | h := hf <;> rw [h] <;> decide
  have hcount : f.addr ∉ [0x2000, 0x50000, 0x5000C, 0x52000] ∧ f.addr ≠ 0x1000 ∧ f.addr ≠ F.CTL_STATUS_PWM_EN.addr := by
    obtain h | h := hf <;> rw [h] <;> decide
  obtain ⟨hcounts, hint, hpwm⟩ := hcount
  rw [settle, get_congr (word_settleInt_other _ hint), get_congr (word_settleCounts_other _ hcounts), settleSafe_eq]
  unfold okShown pwmShown requestShown
  simp only [State.setB]
  rw [get_set_apart _ _ _ _ (hshown (by decide)), get_congr (word_set_other _ _ _ _ hpwm),
    get_set_apart _ _ _ _ (hshown (by decide)), get_set_apart _ _ _ _ (hshown (by decide)),
    get_congr (word_loopSettled _ hloop), get_settleLow 2 _ (hshown (by decide)),
    get_settleLow 1 _ (hshown (by decide)), get_settleLow 0 _ (hshown (by decide)),
    get_set_apart _ _ _ _ (hshown (by decide)), get_set_apart _ _ _ _ (hshown (by decide))]

/-- While both latches are set, a safe state drives nothing: no low side, no PWM_EN, no closed loop, no SAFE_OK (R394,
R396, R411). -/
theorem safe_latched {t : State} (h : Safe t) (hl : latched t = true) :
    (∀ c, c < 3 → t.flag (konLs c) = false) ∧ t.flag F.CTL_STATUS_CLOSED = false ∧
      t.flag F.CTL_STATUS_PWM_EN = false ∧ t.flag F.SAFE_STATUS_SAFE_OK = false := by
  obtain ⟨⟨hen, hclosed, -⟩, hlow, hok, -⟩ := h
  have hsp : t.flag F.SAFE_STATUS_SP_LATCH = true := (Bool.and_eq_true_iff.1 hl).1
  have hcore : matrixCore t = false := by
    unfold matrixCore
    rw [hsp, Bool.not_true, Bool.and_false, Bool.false_and, Bool.false_and, Bool.false_and, Bool.false_and]
  have hclear : matrixClear t = false := by rw [matrixClear, hcore, Bool.false_and, Bool.false_and, Bool.false_and]
  have hpwm : t.flag F.CTL_STATUS_PWM_EN = false := by rw [hen, hclear, Bool.and_false]
  refine ⟨fun c hc => ?_, ?_, hpwm, ?_⟩
  · refine Bool.eq_false_iff.2 (fun hon => ?_)
    have := hlow c hc hon
    rw [lowSideOk, hclear, hcore, Bool.and_false] at this
    exact absurd this (by decide)
  · exact Bool.eq_false_iff.2 (fun hc => absurd ((hclosed hc).symm.trans hpwm) (by decide))
  · rw [hok]
    unfold safeOk
    rw [hsp]
    rfl

/-- Settles O52: the latches and the openings come first, nothing that follows touches them, and with both latches set
the derived levels drive nothing. -/
theorem energyIsolationIsComplete : Obligations.EnergyIsolationIsComplete := by
  unfold Obligations.EnergyIsolationIsComplete
  intro code s _ hawake hl
  obtain ⟨hst, ⟨hword, hscs, -⟩, ⟨-, -, hcauses⟩⟩ := sei_isolates code hawake hl
  have hlatched : latched (settle (sei code s)) = true := by
    rw [latched_settle, ← latched_seiLatched code s]
    unfold latched
    rw [flag_congr (f := F.SAFE_STATUS_SP_LATCH) (hword _ (.inl rfl)),
      flag_congr (f := F.SAFE_STATUS_ZSL_LATCH) (hword _ (.inl rfl))]
  obtain ⟨hlow, hclosed, hpwm, hok⟩ := safe_latched (safe_settle (sei code s)) hlatched
  refine ⟨(st_settle _).trans hst, hlatched, fun c hc => ?switches, hclosed, hpwm, hok, ?scs, ?cause,
    fun hnone => ?code⟩
  case switches =>
    obtain ⟨hcmd, hhs⟩ := released_seiLatched code s hc
    have kept (k : Nat) (h : shownFields.all (fun g => apart g (kon c k)) = true) :
        (settle (sei code s)).flag (kon c k) = (seiLatched code s).flag (kon c k) := by
      rw [State.flag, get_settle_latch _ (.inr rfl) h, get_congr (hword _ (.inr rfl)), State.flag]
    refine ⟨(kept 0 ?_).trans hcmd, (kept 1 ?_).trans hhs, hlow c hc⟩ <;> (interval_cases c <;> decide)
  case scs => exact (same_settle _).rest.1.trans hscs
  case cause =>
    exact keepsCauses_settle (keepsCauses_refl _) _ _ (by decide) (hcauses _ _ (by decide) (cause_seiShown code s))
  case code =>
    rw [get_settle_latch _ (.inl rfl) (by decide), get_congr (hword _ (.inl rfl)), lastCause_seiLatched code hnone]

end Sys2Proof.Proofs
end

section
/-!
SUPPORT. What session requests and plain reads leave of the module (R467, R474, R483, R491): a reply, a session that
opens, changes or closes, and its causes touch the conversation alone.
-/

namespace Sys2Proof.Proofs

open Sys2Proof Sys2Proof.Machine Sys2Proof.Laws

/-- The module's parts beside the conversation; of the system part without the instant of the last admission and the
nIRQ level, of the update part without the recovery-exit deadline. -/
def engineRoom (s : State) :=
  (s.time, s.pending, s.shadow, s.evr, s.ring, s.acq, s.eis, s.est, s.bal, s.ctl, s.disp, s.thm, s.dio, s.net, s.bus,
    s.pwr,    { s.sys with lastAdmit := 0, nirqLow := false }, { s.fwu with exitAt := none })

/-- From the first state to the second the host and the module only talk: no register word changes but the mailbox word
and the causes of group 1, and no part of the module. -/
def Talk (s t : State) : Prop :=
  (∀ a, a ≠ F.CMD_MBOX_READY.addr → a ≠ (F.INT_CAUSE_CAUSE 1).addr → t.word a = s.word a) ∧ engineRoom t = engineRoom s

theorem talk_refl (s : State) : Talk s s := ⟨fun _ _ _ => rfl, rfl⟩

section
variable {s t : State} (h : Talk s t)
include h

theorem talk_of_regs {u : State} (hr : u.regs = t.regs) (hp : engineRoom u = engineRoom t) : Talk s u :=
  ⟨fun a hm hc => (word_of_regs hr a).trans (h.1 a hm hc), hp.trans h.2⟩

theorem talk_set_mbox (f : Fld) (v : Nat) (hf : f.addr = F.CMD_MBOX_READY.addr) : Talk s (t.set f v) :=
  ⟨fun a hm hc => (word_set_other t f v a (by rw [hf]; exact hm)).trans (h.1 a hm hc), h.2⟩

theorem talk_raise (c : Cause) (hg : c.g = 1) : Talk s (raise c t) :=
  ⟨fun a hm hc => (word_raise_other c t (by rw [hg]; exact hc)).trans (h.1 a hm hc), h.2⟩

theorem talk_mboxFill (p : List Byte) : Talk s (mboxFill p t) :=
  talk_raise (talk_set_mbox (talk_set_mbox (by exact h) F.CMD_MBOX_RSP_LEN _ rfl) F.CMD_MBOX_READY _ rfl) C.CMD_DONE rfl

theorem talk_mboxReply (p : List Byte) : Talk s (mboxReply p t) := by
  unfold mboxReply
  refine talk_mboxFill (talk_set_mbox ?_ F.CMD_MBOX_BUSY _ rfl) p
  split
  · exact talk_set_mbox h F.CMD_MBOX_OVERRUN _ rfl
  · exact h

theorem talk_mboxNotify (p : List Byte) : Talk s (mboxNotify p t) := by
  unfold mboxNotify
  split
  · split
    · split
      · exact h
      · exact talk_mboxFill (talk_set_mbox (by exact h) F.CMD_MBOX_OVERRUN _ rfl) _
    · exact h
  · exact talk_mboxFill h _

theorem talk_transmit (c : Ctx) (n : Bool) (p : List Byte) : Talk s (transmit c n p t) := by
  unfold transmit
  split
  · exact h
  · exact h
  · split
    · exact talk_mboxNotify h _
    · exact talk_mboxReply h _
  · split
    · exact h
    · exact h

theorem talk_keepReply (c : Ctx) (st : Nat) (n : Bool) (p : List Byte) : Talk s (keepReply c st n p t) := by
  unfold keepReply
  dsimp only
  split
  · exact h
  · split
    · exact h
    · exact h

theorem talk_freeSlot (c : Ctx) : Talk s (freeSlot c t) := by
  unfold freeSlot
  split
  · exact h
  · exact h

theorem talk_respond (c : Ctx) (n : Bool) (op st : Nat) (p : List Byte) : Talk s (respond c n op st p t) := by
  have kept : Talk s (if st = stAccepted then keepReply c st n p t else freeSlot c (keepReply c st n p t)) := by
    split
    · exact talk_keepReply h _ _ _ _
    · exact talk_freeSlot (talk_keepReply h _ _ _ _) _
  unfold respond
  dsimp only
  generalize (if st = stAccepted then keepReply c st n p t else freeSlot c (keepReply c st n p t)) = x at kept ⊢
  split
  · exact talk_transmit kept _ _ _
  · unfold discardReply
    split
    · exact talk_set_mbox kept F.CMD_MBOX_BUSY _ rfl
    · exact kept

/-- An authorisation that ends raises its cause in group 1 (R483). -/
theorem talk_expired (b : Bool) : Talk s (if b then raise C.AUTH_EXPIRED t else t) := by
  split
  · exact talk_raise h C.AUTH_EXPIRED rfl
  · exact h

theorem talk_closeSession (id : BitVec 32) : Talk s (closeSession id t) := talk_expired (by exact h) _

theorem talk_authEnd (id : BitVec 32) : Talk s (authEnd id t) := talk_expired (by exact h) _

end

/-! ## The requests -/

theorem talk_doSessionOpen (c : Ctx) (s : State) : Talk s (doSessionOpen c s) := by
  unfold doSessionOpen
  split
  · exact talk_respond (talk_refl s) _ _ _ _ _
  · exact talk_respond (by exact talk_refl s) _ _ _ _ _

theorem talk_doSessionClose (c : Ctx) (s : State) : Talk s (doSessionClose c s) := by
  have replied : Talk s (replyOk c 0x0003 [] s) := talk_respond (talk_refl s) _ _ _ _ _
  unfold doSessionClose
  dsimp only
  split
  · exact replied
  · exact talk_closeSession replied _

theorem talk_doSubscribe (c : Ctx) (mask : Nat) (s : State) : Talk s (doSubscribe c mask s) := by
  unfold doSubscribe
  split
  · exact talk_respond (by exact talk_refl s) _ _ _ _ _
  · exact talk_respond (talk_refl s) _ _ _ _ _

theorem talk_doAuthChallenge (c : Ctx) (s : State) : Talk s (doAuthChallenge c s) := by
  unfold doAuthChallenge
  split
  · exact talk_respond (talk_refl s) _ _ _ _ _
  · split
    · exact talk_respond (talk_refl s) _ _ _ _ _
    · exact talk_respond (by exact talk_refl s) _ _ _ _ _

theorem talk_doAuthDrop (c : Ctx) (s : State) : Talk s (doAuthDrop c s) := by
  unfold doAuthDrop
  refine talk_respond ?_ _ _ _ _ _
  split
  · exact talk_authEnd (talk_refl s) _
  · exact talk_refl s

theorem talk_doOasisReportRead (c : Ctx) (k : Nat) (s : State) : Talk s (doOasisReportRead c k s) := by
  unfold doOasisReportRead
  split
  · exact talk_respond (talk_refl s) _ _ _ _ _
  · split <;> exact talk_respond (talk_refl s) _ _ _ _ _

theorem talk_doGradeRead (c : Ctx) (first count : Nat) (s : State) : Talk s (doGradeRead c first count s) := by
  unfold doGradeRead
  split
  · exact talk_respond (talk_refl s) _ _ _ _ _
  · split
    · exact talk_respond (talk_refl s) _ _ _ _ _
    · split
      · exact talk_respond (talk_refl s) _ _ _ _ _
      · dsimp only
        split <;> exact talk_respond (talk_refl s) _ _ _ _ _

/-- Every request of a conversation is `withCmd` around an effect that only talks. -/
theorem exec_conversation {i : Instr} {c : Ctx} {op : Nat} (h : Safety.rcpRow i = some (c, op))
    (hop : op ∈ [0x0000, 0x0001, 0x0002, 0x0003, 0x0004, 0x0403, 0x0605, 0x0801, 0x0901, 0x0A06, 0x0B00, 0x0B02]) :
    ∃ f : State → State, (∀ s, exec i s = finish (withCmd c op f s)) ∧ ∀ s, Talk s (f s) := by
  cases i
  case ping c data => cases h; exact ⟨doPing c data, fun _ => rfl, fun s => talk_respond (talk_refl s) _ _ _ _ _⟩
  case identify c => cases h; exact ⟨doIdentify c, fun _ => rfl, fun s => talk_respond (talk_refl s) _ _ _ _ _⟩
  case sessionOpen c => cases h; exact ⟨doSessionOpen c, fun _ => rfl, talk_doSessionOpen c⟩
  case sessionClose c => cases h; exact ⟨doSessionClose c, fun _ => rfl, talk_doSessionClose c⟩
  case subscribe c mask => cases h; exact ⟨doSubscribe c mask.toNat, fun _ => rfl, talk_doSubscribe c _⟩
  case authChallenge c => cases h; exact ⟨doAuthChallenge c, fun _ => rfl, talk_doAuthChallenge c⟩
  case authDrop c => cases h; exact ⟨doAuthDrop c, fun _ => rfl, talk_doAuthDrop c⟩
  case oasisReportRead c k => cases h; exact ⟨_, fun _ => rfl, talk_doOasisReportRead c _⟩
  case gradeRead c first count => cases h; exact ⟨_, fun _ => rfl, talk_doGradeRead c _ _⟩
  case safeSummary c => cases h; exact ⟨doSafeSummary c, fun _ => rfl, fun s => talk_respond (talk_refl s) _ _ _ _ _⟩
  case evrStatus c => cases h; exact ⟨_, fun _ => rfl, fun s => talk_respond (talk_refl s) _ _ _ _ _⟩
  case fwStatus c => cases h; exact ⟨doFwStatus c, fun _ => rfl, fun s => talk_respond (talk_refl s) _ _ _ _ _⟩
  all_goals (cases h <;> exact absurd hop (by decide))

/-- Run or refused, such a request only talks. -/
theorem talk_withCmd (c : Ctx) (op : Nat) {f : State → State} (hf : ∀ s, Talk s (f s)) (s : State) :
    Talk s (withCmd c op f s) := by
  have heard : Talk s (noteHeard s) := talk_refl s
  unfold withCmd
  split
  · exact talk_refl s
  · split
    · exact talk_transmit heard _ _ _
    · split
      · exact talk_respond heard _ _ _ _ _
      · exact hf (noteAdmit s)

/-! ## The end of the request -/

/-- The parts that an opening of the loop changes. -/
def loopParts (s : State) : Eis × Ctl × Disp × Evr := (s.eis, s.ctl, s.disp, s.evr)

@[simp] theorem loopParts_set (s : State) (f : Fld) (v : Nat) : loopParts (s.set f v) = loopParts s := rfl
@[simp] theorem loopParts_setB (s : State) (f : Fld) (b : Bool) : loopParts (s.setB f b) = loopParts s := rfl

theorem loopParts_settleLow (c : Nat) (s : State) : loopParts (settleLow c s) = loopParts s := by
  unfold settleLow
  dsimp only
  split
  · split
    · unfold deEnergise
      dsimp only
      split <;> rfl
    · rfl
  · rfl

/-- With the loop open the levels leave them too. -/
theorem loopParts_settle {s : State} (h : s.flag F.CTL_STATUS_CLOSED = false) : loopParts (settle s) = loopParts s := by
  have demand (i : Nat) (b : Bool) (t : State) : (t.setB (siDemandFld i) b).flag F.CTL_STATUS_CLOSED =
      t.flag F.CTL_STATUS_CLOSED := flag_congr (word_set_other _ _ _ _ (by change 0x20050 ≠ 0x30080; decide))
  have low (c : Nat) (t : State) : (settleLow c t).flag F.CTL_STATUS_CLOSED = t.flag F.CTL_STATUS_CLOSED :=
    flag_congr (word_settleLow c t (by change 0x20050 ≠ 0x31004; decide))
  have opened {t : State} (ht : t.flag F.CTL_STATUS_CLOSED = false) : loopSettled t = t := by
    rw [loopSettled, loopOpen_of_open _ ht, ite_self]
  have counted (t : State) : loopParts (settleCounts t) = loopParts t := by
    unfold settleCounts
    simp only [loopParts_set]
  have shown (t : State) : loopParts (okShown (pwmShown (requestShown t))) = loopParts t := by
    simp only [okShown, pwmShown, requestShown, loopParts_setB]
  have rearmed (t : State) : loopParts (settleInt t) = loopParts t := loopParts_set t F.INT_SUMMARY_GROUP (summary t)
  rw [settle, rearmed, counted, settleSafe_eq, shown, opened (by rw [low, low, low, demand, demand]; exact h)]
  simp only [loopParts_settleLow, loopParts_setB]

theorem engineRoom_settle {s : State} (h : s.flag F.CTL_STATUS_CLOSED = false) :
    engineRoom (settle s) = engineRoom s := by
  have hparts := loopParts_settle h
  simp only [loopParts, Prod.mk.injEq] at hparts
  obtain ⟨heis, hctl, hdisp, hevr⟩ := hparts
  have hsys : { (settle s).sys with lastAdmit := 0, nirqLow := false } =
      { s.sys with lastAdmit := 0, nirqLow := false } :=
    congrArg (fun x => { x.2.2.2.2.1 with lastAdmit := 0 }) (inner_settle s)
  unfold engineRoom
  rw [hsys, heis, hctl, hdisp, hevr]
  simp only [settle_time, settle_pending, settle_shadow, settle_ring, settle_acq, settle_est, settle_bal, settle_thm,
    settle_dio, settle_net, settle_bus, settle_pwr, settle_fwu]

/-- Settles O55: with the loop open the end of a request computes levels alone, and before it the request only talks. -/
theorem conversationsLeaveTheModule : Obligations.ConversationsLeaveTheModule := by
  unfold Obligations.ConversationsLeaveTheModule
  intro i c op s t hrow hop hopen hexec
  obtain ⟨f, hf, htalk⟩ := exec_conversation hrow hop
  obtain ⟨hword, hroom⟩ := talk_withCmd c op htalk s
  have ht : t = settle (withCmd c op f s) := by
    rw [hf s, finish_next] at hexec
    cases hexec
    rfl
  have hopen' : (withCmd c op f s).flag F.CTL_STATUS_CLOSED = false :=
    (flag_congr (hword _ (by decide) (by decide))).trans hopen
  subst ht
  refine ⟨fun a ha => ?words, ?parts⟩
  case words =>
    have hlevel : a ∉ levelWords := fun hl => ha (by
      simp only [levelWords, List.mem_cons, List.not_mem_nil, or_false] at hl
      obtain rfl | rfl | rfl | rfl | rfl | rfl | rfl | rfl := hl <;> decide)
    exact (word_settle_open hopen' hlevel).trans (hword a (fun e => ha (by rw [e]; decide))
      (fun e => ha (by rw [e]; decide)))
  case parts =>
    have hall := (engineRoom_settle hopen').trans hroom
    simp only [engineRoom, Prod.mk.injEq] at hall
    obtain ⟨htime, hpending, hshadow, hevr, hring, hacq, heis, hest, hbal, hctl, hdisp, hthm, hdio, hnet, hbus, hpwr,
      hsys, hfwu⟩ := hall
    refine ⟨htime, hpending, hshadow, hevr, hring, hacq, heis, hest, hbal, hctl, hdisp, hthm, hdio, hnet, hbus, hpwr,
      ?_, congrArg (fun x => { x with exitAt := s.fwu.exitAt }) hfwu⟩
    exact congrArg (fun x => { x with lastAdmit := s.sys.lastAdmit, nirqLow := s.sys.nirqLow }) hsys

end Sys2Proof.Proofs
end

section
/-!
SUPPORT. The demands on the ZSL and SP (R390 to R406): under the conditions of a clause the meaning's own tests are
decided, and what remains is the demand that the clause names.
-/

namespace Sys2Proof.Proofs

open Sys2Proof Sys2Proof.Machine Sys2Proof.Laws

theorem exec_testPulseFault_new {ch : SiCh} {s : State} (htp : siTp s (chIdx ch / 2) = true) (hship : s.st ≠ stShip)
    (hnew : s.flag (siTpf (chIdx ch)) = false) :
    exec (.testPulseFault ch) s = finish (chanChange (chIdx ch) (fun s => causeRec C.TEST_PULSE_FAULT sevFault
      (u8 (chIdx ch)) (s.setB (siTpf (chIdx ch)) true)) s) :=
  congrArg finish (if_pos (by rw [htp, hnew, bne_iff_ne.2 hship]; rfl))

theorem exec_auxOvercurrent_acts {s : State} (hoc : zslAuxOc s ≠ 0) (hship : s.st ≠ stShip) :
    exec .auxOvercurrent s =
      finish (seiDemand 0x04 (raise C.AUX_OVERCURRENT (s.setB F.SAFE_STATUS_AUX_OC_LATCH true))) :=
  congrArg finish (if_neg (not_or.2 ⟨hoc, hship⟩))

/-- A cell limit acts at the end of its run, where the protection of the cells acts (R400). -/
theorem exec_cellLimit_acts {high : Bool} {pos t : Nat} {s : State}
    (hrun : (if high then s.safe.ovRun else s.safe.uvRun).lookup pos = some t)
    (hacts : cellActs (s.at (t + s.get F.SAFE_CELL_DEB_CELL_DEB * ms)) = true) :
    exec (.cellLimit pos high) s = finish (sei (if high then 0x05 else 0x06)
      ((s.at (t + s.get F.SAFE_CELL_DEB_CELL_DEB * ms)).setB F.SAFE_STATUS_CELL_LIMIT true)) := by
  change execCellLimit pos high s = _
  unfold execCellLimit
  rw [hrun]
  exact congrArg finish (if_pos hacts)

/-- The ZSL backs an SCS up while a coil still holds its contactor (R399). -/
theorem exec_zslScsBackup_acts {t : Nat} {s : State} (hdue : s.safe.backupAt = some t)
    (hholds : (let s1 := { s.at t with safe := { s.safe with backupAt := none } }
      holds s1 0 || holds s1 1 || holds s1 2) = true) :
    exec .zslScsBackup s = finish (sei 0x0C { s.at t with safe := { s.safe with backupAt := none } }) := by
  change execZslScsBackup s = _
  unfold execZslScsBackup
  rw [hdue]
  exact congrArg finish (if_pos hholds)

/-- Settles O24: each clause decides the tests of its meaning. -/
theorem demandCommandsComplete : Obligations.DemandCommandsComplete := by
  unfold Obligations.DemandCommandsComplete
  intro ch si1 high pos t s
  refine ⟨rfl, rfl, exec_testPulseFault_new, fun hon => congrArg finish (if_pos hon),
    fun hused hcount => congrArg finish (if_pos ⟨hused, hcount⟩), exec_auxOvercurrent_acts, exec_cellLimit_acts,
    fun hset hawake henv => congrArg finish (if_pos ⟨hset, hawake, henv⟩),
    fun hscs => congrArg finish (if_pos (Option.isSome_iff_ne_none.2 hscs)), fun hdue => exec_zslScsBackup_acts hdue⟩

end Sys2Proof.Proofs
end

section
/-!
SUPPORT. Sessions, authorisation, keys and the recorder's own requests (R474, R483, R484, R576 to R580).
-/

namespace Sys2Proof.Proofs

open Sys2Proof Sys2Proof.Machine Sys2Proof.Laws

/-! ## Sessions -/

theorem idOf_ne_zero (n : Nat) : BitVec.ofNat 32 (n % (2 ^ 32 - 1) + 1) ≠ 0 := by
  have hlt := Nat.mod_lt n (show 2 ^ 32 - 1 > 0 by decide)
  intro h
  have hzero := congrArg BitVec.toNat h
  rw [BitVec.toNat_ofNat, Nat.mod_eq_of_lt (by omega)] at hzero
  exact absurd hzero (Nat.succ_ne_zero _)

/-- No session is given the identifier of the default session (R474). -/
theorem newId_ne_zero (s : State) (k n : Nat) : newId s k n ≠ 0 := by
  induction k generalizing n with
  | zero => exact idOf_ne_zero n
  | succ k ih =>
    rw [newId]
    split
    · exact ih _
    · exact idOf_ne_zero n

theorem doSessionOpen_free {c : Ctx} {s : State} (h : s.cmd.sessions.length < 8) :
    doSessionOpen c (noteAdmit s) = respond c false 0x0002 0
      (u32 (newId (noteAdmit s).fresh.2 8 (noteAdmit s).fresh.1).toNat)
      { noteAdmit s with
        free := s.free + 1
        cmd := { s.cmd with sessions := s.cmd.sessions ++ [
          { id := newId (noteAdmit s).fresh.2 8 (noteAdmit s).fresh.1,
            src := c.src, port := c.port, lastPkt := s.time }] } } :=
  if_neg (Nat.not_le.2 h)

@[simp] theorem noteAdmit_getBank (s : State) (b : Nat) : getBank (noteAdmit s) b = getBank s b := by
  unfold getBank
  rw [noteAdmit_fwu]

@[simp] theorem noteAdmit_actBank (s : State) (n : Nat) : actBank (noteAdmit s) n = actBank s n := by
  unfold actBank
  rw [noteAdmit_get]

/-- An admission leaves what IDENTIFY reads as it was. -/
theorem doIdentify_admitted (c : Ctx) (s : State) : doIdentify c (noteAdmit s) = respond c false 0x0001 0
    (u64 (serialNum s) ++ u32 (s.word 0x800).toNat ++ u32 (supVersion s) ++
      u32 (imgVersion (getBank s (actBank s 2))) ++ u8 (s.get F.SYS_MODE_PERSONALITY) ++ u8 s.st) (noteAdmit s) := by
  have hserial : serialNum (noteAdmit s) = serialNum s := noteAdmit_get64 s _ _
  have hsup : supVersion (noteAdmit s) = supVersion s := by
    unfold supVersion
    simp only [noteAdmit_flag, noteAdmit_getBank, noteAdmit_actBank]
  unfold doIdentify
  rw [hserial, hsup, noteAdmit_actBank, noteAdmit_getBank]
  rfl

theorem doSubscribe_numbered {c : Ctx} {mask : Nat} {s : State} (hn : numbered c s = true) (hu : isUdp c.src = true) :
    doSubscribe c mask (noteAdmit s) =
      respond c false 0x0004 0 [] (setSession c.session (fun x => { x with subs := mask }) (noteAdmit s)) :=
  if_pos (Bool.and_eq_true_iff.2 ⟨hn, hu⟩)

/-- A held session times out 300 s after its last packet (R474). -/
theorem exec_sessionTimeout_held {id : BitVec 32} {x : Session} {s : State} (h : findSession id s = some x) :
    exec (.sessionTimeout id) s = finish (closeSession id (s.at (x.lastPkt + 300 * sec))) := by
  change execSessionTimeout id s = _
  rw [execSessionTimeout, h]

/-- Settles O14: each clause decides the tests of its meaning. -/
theorem sessionCommandsComplete : Obligations.SessionCommandsComplete := by
  unfold Obligations.SessionCommandsComplete
  intro c data mask id s
  refine ⟨fun hadm => finish_withCmd_admitted hadm rfl,
    fun hadm => finish_withCmd_admitted hadm (doIdentify_admitted c s),
    fun hadm hfree => ⟨_, newId_ne_zero _ _ _, finish_withCmd_admitted hadm (doSessionOpen_free hfree)⟩,
    fun hadm hses => finish_withCmd_admitted hadm (if_neg hses),
    fun hadm hses => finish_withCmd_admitted hadm (if_pos hses),
    fun hadm hn hu => finish_withCmd_admitted hadm (doSubscribe_numbered hn hu), fun x => exec_sessionTimeout_held⟩

/-! ## Authorisation and keys -/

theorem doAuthChallenge_answered {c : Ctx} {s : State} (hn : numbered c s = true) (hl : lockedOut s = false) :
    doAuthChallenge c (noteAdmit s) = respond c false 0x0B00 0 (leBytes 16 (Config.freeValue s.free))
      (setSession c.session
        (fun x => { x with nonce := some (leBytes 16 (Config.freeValue s.free), s.time + 30 * sec) })
        { noteAdmit s with free := s.free + 1 }) := by
  unfold doAuthChallenge
  rw [noteAdmit_numbered, noteAdmit_lockedOut, hn, hl]
  rfl

/-- The right response to a live nonce authorises (R483). -/
theorem doAuthResponse_right {c : Ctx} {mac n : List Byte} {s : State} (hn : numbered c s = true)
    (hlive : liveNonce c s = some n) (hkey : s.cmd.keys ≠ []) (hmac : authMac c n s = mac) :
    doAuthResponse c mac (noteAdmit s) =
      let s1 := setSession c.session (fun x => { x with authEnd := some (s.time + 600 * sec) })
        (setSession c.session (fun x => { x with nonce := none }) (noteAdmit s))
      respond c false 0x0B01 0 (u16 600) (addRec sevNotice 0x01 0x0011 (originBytes (Ctx.origin c))
        { s1 with cmd := { s1.cmd with failStreak := 0 } }) := by
  have hok : ((liveNonce c (noteAdmit s)).any
      (fun n => !(noteAdmit s).cmd.keys.isEmpty && authMac c n (noteAdmit s) == mac)) = true := by
    rw [noteAdmit_liveNonce, hlive, Option.any_some, noteAdmit_cmd, List.isEmpty_eq_false_iff.2 hkey]
    exact beq_iff_eq.2 hmac
  unfold doAuthResponse
  rw [noteAdmit_numbered, hn]
  exact if_pos hok

theorem doAuthDrop_numbered {c : Ctx} {s : State} (hn : numbered c s = true) :
    doAuthDrop c (noteAdmit s) = respond c false 0x0B02 0 [] (authEnd c.session (noteAdmit s)) :=
  congrArg (replyOk c 0x0B02 []) (if_pos hn)

theorem exec_authExpiry_authorised {id : BitVec 32} {x : Session} {t : Nat} {s : State} (h : findSession id s = some x)
    (ht : x.authEnd = some t) : exec (.authExpiry id) s =
      finish (raise C.AUTH_EXPIRED (setSession id (fun x => { x with authEnd := none }) (s.at t))) := by
  change execAuthExpiry id s = _
  rw [execAuthExpiry, h, Option.bind_some, ht]

theorem exec_authLockoutEnd_due {t : Nat} {s : State} (h : s.cmd.lockEnd = some t) :
    exec .authLockoutEnd s = finish ({ s.at t with cmd := { s.cmd with
      lockEnd := none, failStreak := 0 } }.setB F.AUTH_STATUS_LOCKOUT false) := by
  change execAuthLockoutEnd s = _
  rw [execAuthLockoutEnd, h]
  rfl

/-- The first key goes to slot 0, and seven slots are left (R484). -/
theorem doKeyInit_first {c : Ctx} {k : List Byte} {s : State} (hkeys : s.cmd.keys = []) (hsrc : c.src = .tws) :
    doKeyInit c k (noteAdmit s) = respond c false 0x0B03 0 [] ((({ noteAdmit s with cmd := { s.cmd with
      keys := [k] } }).set F.AUTH_STATUS_KEY_SLOT 0).set F.AUTH_STATUS_SLOTS_LEFT 7) := by
  unfold doKeyInit storeKey
  rw [noteAdmit_cmd, hkeys, if_neg (by decide), if_neg (not_not.2 hsrc)]
  rfl

/-- A new key is written where its check matches (R484). -/
theorem doKeyRotate_checked {c : Ctx} {wrapped check n : List Byte} {s : State} (hfree : s.cmd.keys.length < 8)
    (hlive : liveNonce c s = some n)
    (hcheck : (hmac (xorBytes wrapped (hmac (activeKey s) (n ++ [0x4B, 0x52]))) n).take 8 = check) :
    doKeyRotate c wrapped check (noteAdmit s) = respond c false 0x0B04 0 (u8 s.cmd.keys.length)
      (addRec sevSafety 0x01 0x0012 (u8 s.cmd.keys.length ++ originBytes (Ctx.origin c)) (authEndAll (storeKey
        (xorBytes wrapped (hmac (activeKey s) (n ++ [0x4B, 0x52])))
        (setSession c.session (fun x => { x with nonce := none }) (noteAdmit s))))) := by
  unfold doKeyRotate
  rw [noteAdmit_cmd, noteAdmit_liveNonce, if_neg (Nat.not_le.2 hfree), hlive]
  exact if_pos hcheck

/-- Settles O16: each clause decides the tests of its meaning. -/
theorem authorisationCommandsComplete : Obligations.AuthorisationCommandsComplete := by
  unfold Obligations.AuthorisationCommandsComplete
  intro c mac key wrapped check id s
  refine ⟨fun hadm hn hl => finish_withCmd_admitted hadm (doAuthChallenge_answered hn hl),
    fun hadm hn n hlive hkey hmac => finish_withCmd_admitted hadm (doAuthResponse_right hn hlive hkey hmac),
    fun hadm hn => finish_withCmd_admitted hadm (doAuthDrop_numbered hn), fun x t => exec_authExpiry_authorised,
    fun t => exec_authLockoutEnd_due, fun hadm hkeys hsrc => finish_withCmd_admitted hadm (doKeyInit_first hkeys hsrc),
    fun hadm hfree n hlive hcheck => finish_withCmd_admitted hadm (doKeyRotate_checked hfree hlive hcheck)⟩

/-! ## The recorder -/

/-- At its instant the oldest buffered record is written, where nothing holds it back (R570). -/
theorem exec_recordWrite_free {s : State} (hclear : s.evr.clear = none) (hready : s.flag F.EVR_STATUS_READY = true)
    (hpower : s.flag F.FEED_STATUS_PF_WARN = false) :
    exec .recordWrite s = finish (writeOne (s.tick tkRecord 125000)) := by
  refine congrArg finish (if_neg ?_)
  have hready' : (s.tick tkRecord 125000).flag F.EVR_STATUS_READY = true := hready
  have hpower' : (s.tick tkRecord 125000).flag F.FEED_STATUS_PF_WARN = false := hpower
  have hclear' : (s.tick tkRecord 125000).evr.clear = none := hclear
  rw [hready', hpower', hclear']
  decide

theorem doEvrRead_answered {c : Ctx} {f n : Nat} {s : State} (hready : s.flag F.EVR_STATUS_READY = true) (h1 : 1 ≤ n)
    (h15 : n ≤ 15) (hclear : s.evr.clear = none) :
    doEvrRead c f n (noteAdmit s) = answerRead c f n (noteAdmit s) := by
  unfold doEvrRead
  rw [noteAdmit_flag, hready, if_neg (by decide), if_neg (by omega), noteAdmit_evr, hclear]

theorem doEvrClear_starts {c : Ctx} {mask : Nat} {s : State} (hmask : mask % 16 ≠ 0) (hclear : s.evr.clear = none) :
    doEvrClear c mask (noteAdmit s) = { noteAdmit s with evr := { s.evr with
      clear := some ⟨mask, s.evr.newest, c, []⟩ } }.setB F.EVR_STATUS_CLEAR_BUSY true := by
  unfold doEvrClear
  rw [if_neg hmask, noteAdmit_evr, hclear]
  rfl

/-- Settles O47: each clause decides the tests of its meaning. -/
theorem recorderCommandsComplete : Obligations.RecorderCommandsComplete := by
  unfold Obligations.RecorderCommandsComplete
  intro c first count mask x s
  exact ⟨exec_recordWrite_free, fun hadm hready h1 h15 hclear =>
      finish_withCmd_admitted hadm (doEvrRead_answered hready h1 h15 hclear),
    fun hadm => finish_withCmd_admitted hadm rfl,
    fun hadm hmask hclear => finish_withCmd_admitted hadm (doEvrClear_starts hmask hclear), fun _ => rfl⟩

end Sys2Proof.Proofs
end

section
/-!
SUPPORT. The two-wire service port (R473, R552 to R555): a transaction of valid form at an address of a slot runs, or is
counted where its PEC is wrong.
-/

namespace Sys2Proof.Proofs

open Sys2Proof Sys2Proof.Machine Sys2Proof.Laws

/-- A write transaction at a slot: counted where its PEC is wrong or missing, and else run (R553). -/
def twsChecked (a : BitVec 7) (n : Nat) (pec : Option (BitVec 8)) (s : State) (code : Nat) (body : List Byte)
    (f : State → State) : State :=
  if pecBad a code body pec s then twsRun n code (fun s => s.bump F.TWS_CNT_PEC_COUNT 1) s else twsRun n code f s

section
variable {a : BitVec 7} {n : Nat} {s : State} (hpower : hostPowered s = true) (hslot : twsSlot s a.toNat = some n)
include hpower hslot

theorem twsRead_slot (code : Nat) (f : Nat → State → State) : twsRead a code f s = twsRun n code (f n) s := by
  rw [twsRead, hpower, hslot]
  rfl

theorem twsWriteAt_slot (code : Nat) {valid : Bool} (hvalid : valid = true) (body : List Byte)
    (pec : Option (BitVec 8)) (f : Nat → State → State) :
    twsWriteAt a code valid body pec f s = twsChecked a n pec s code body (f n) := by
  rw [twsWriteAt, hpower, hslot, hvalid]
  rfl

end

/-- The port's timeout abandons the transaction with its count and cause (R555). -/
theorem exec_twsTimeout_powered {s : State} (h : hostPowered s = true) :
    exec .twsTimeout s = finish (raise C.TWS_TIMEOUT
      (((s.setB F.TWS_STATUS_BUSY false).setB F.TWS_STATUS_STRETCH false).bump F.TWS_CNT_TMO_COUNT 1)) :=
  congrArg finish (if_pos h)

theorem exec_twsStartStop_powered {stop : Bool} {s : State} (h : hostPowered s = true) :
    exec (.twsStartStop stop) s =
      finish (if stop then twsStop s else (s.setB F.TWS_STATUS_BUSY false).setB F.TWS_STATUS_STRETCH false) :=
  congrArg finish (if_pos h)

/-- Settles O45: the slot and the form decide the transaction, and twelve codes name its work. -/
theorem servicePortCommandsComplete : Obligations.ServicePortCommandsComplete := by
  unfold Obligations.ServicePortCommandsComplete
  intro a n k off len w v data pec s hpower
  refine ⟨fun hslot => ?slot, ⟨exec_twsTimeout_powered hpower, exec_twsStartStop_powered hpower⟩,
    exec_twsStartStop_powered hpower⟩
  have read (code : Nat) (f : Nat → State → State) :
      finish (twsRead a code f s) = .next (settle (twsRun n code (f n) s)) :=
    congrArg finish (twsRead_slot hpower hslot code f)
  have write (code : Nat) {valid : Bool} (body : List Byte) (f : Nat → State → State) (hvalid : valid = true) :
      finish (twsWriteAt a code valid body pec f s) = .next (settle (twsChecked a n pec s code body (f n))) :=
    congrArg finish (twsWriteAt_slot hpower hslot code hvalid body pec f)
  refine ⟨read 0x01 _, read 0x04 _, read 0x11 _, read 0x13 _, read 0x20 _,
    fun hoff => write 0x02 _ _ (decide_eq_true hoff),
    fun h1 h32 hfits => write 0x03 _ _ (decide_eq_true ⟨h1, h32, hfits⟩),
    fun h10 h1088 => write 0x05 _ _ (decide_eq_true ⟨h10, h1088⟩),
    write 0x06 _ _ rfl, write 0x10 _ _ rfl, write 0x12 _ _ rfl, fun hlen h1 h8 => ?block⟩
  have hwords : data.length / 4 = k := by omega
  have hvalid : decide (4 ≤ data.length ∧ data.length ≤ 32 ∧ data.length % 4 = 0) = true := decide_eq_true (by omega)
  rw [← hwords]
  exact write 0x14 _ _ hvalid

end Sys2Proof.Proofs
end

section
/-!
SUPPORT. Transfers on the local two-wire bus (R556 to R562): the bytes read, and under the conditions of a clause the
start, the ends and the bus clear.
-/

namespace Sys2Proof.Proofs

open Sys2Proof Sys2Proof.Machine Sys2Proof.Laws

/-! ## The bytes read -/

/-- The byte `i` of the read buffer. -/
def twlRead (i : Nat) : Fld := ⟨0x42030 + 4 * (i / 4), 8 * (i % 4), 8⟩

/-- One byte read enters the read buffer. -/
def twlPut (d : List Byte) (s : State) (i : Nat) : State :=
  if i < d.length then s.set (twlRead i) (numAt d i 1) else s

/-- After a transfer that was not refused the buffer holds its bytes (R556). -/
theorem exec_twlTransferDone_ok {s : State} (h : s.bus.twlRun = true) (data : List Byte) :
    exec (.twlTransferDone none data) s =
      finish (twlBusy (twlResult 1 ((List.range 32).foldl (twlPut (data.take (s.get F.TWL_XFER_RD_LEN))) s))) :=
  congrArg finish (if_pos h)

theorem apart_twlRead {i j : Nat} (h : i ≠ j) : apart (twlRead i) (twlRead j) = true := by
  by_cases hword : i / 4 = j / 4
  · have hbyte : i % 4 + 1 ≤ j % 4 ∨ j % 4 + 1 ≤ i % 4 := by omega
    obtain hbyte | hbyte := hbyte
    · have hlo : decide ((twlRead i).lo + (twlRead i).n ≤ (twlRead j).lo) = true :=
        decide_eq_true (by change 8 * (i % 4) + 8 ≤ 8 * (j % 4); omega)
      rw [apart, hlo, Bool.or_true, Bool.true_or]
    · have hhi : decide ((twlRead j).lo + (twlRead j).n ≤ (twlRead i).lo) = true :=
        decide_eq_true (by change 8 * (j % 4) + 8 ≤ 8 * (i % 4); omega)
      rw [apart, hhi, Bool.or_true]
  · have haddr : ((twlRead i).addr != (twlRead j).addr) = true :=
      bne_iff_ne.2 (by change 0x42030 + 4 * (i / 4) ≠ 0x42030 + 4 * (j / 4); omega)
    rw [apart, haddr, Bool.true_or, Bool.true_or]

theorem numAt_one_lt (d : List Byte) (i : Nat) : numAt d i 1 < 256 := by
  unfold numAt
  cases d.drop i with
  | nil => decide
  | cons b t =>
    rw [List.take_succ_cons, List.take_zero, ofLe, ofLe]
    have := b.isLt
    omega

/-- The bytes enter one after another, and each stays. -/
theorem get_twlPuts (d : List Byte) (s : State) {n j : Nat} (hj : j < n) (hd : j < d.length) :
    ((List.range n).foldl (twlPut d) s).get (twlRead j) = numAt d j 1 := by
  induction n with
  | zero => exact absurd hj (Nat.not_lt_zero j)
  | succ n ih =>
    rw [List.range_succ, List.foldl_append, List.foldl_cons, List.foldl_nil]
    generalize (List.range n).foldl (twlPut d) s = t at ih ⊢
    by_cases he : j = n
    · subst he
      rw [twlPut, if_pos hd, get_set_same _ _ _ (by change 8 * (j % 4) + 8 ≤ 32; omega)]
      exact Nat.mod_eq_of_lt (numAt_one_lt d j)
    · have hkept : (twlPut d t n).get (twlRead j) = t.get (twlRead j) := by
        unfold twlPut
        split
        · exact get_set_apart _ _ _ _ (apart_twlRead (Ne.symm he))
        · rfl
      exact hkept.trans (ih (by omega))

/-- Of the bytes on the bus no more than the read length enter. -/
theorem numAt_take {d : List Byte} {i m : Nat} (h : i < m) : numAt (d.take m) i 1 = numAt d i 1 := by
  unfold numAt
  rw [List.drop_take, List.take_take, Nat.min_eq_left (by omega)]

theorem get_settle_twl (s : State) {f : Fld} (hlo : 0x42000 ≤ f.addr) (hhi : f.addr < 0x43000) :
    (settle s).get f = s.get f := by
  refine get_congr (word_settle_outside s ?_ ?_)
  · rw [show f.addr / 0x1000 = 0x42 by omega]
    decide
  · simp only [levelWords, List.mem_cons, List.not_mem_nil, or_false]
    omega

/-- The end of a transfer writes TWL_STATUS alone. -/
theorem word_twlEnd (code : Nat) (s : State) {a : Nat} (ha : a ≠ 0x4200C) :
    (twlBusy (twlResult code s)).word a = s.word a := by
  rw [twlBusy, State.setB, word_set_other _ F.TWL_STATUS_BUSY _ _ ha]
  exact word_set_other s F.TWL_STATUS_RESULT code _ ha

theorem twlTransferDone_reads {s : State} (h : s.bus.twlRun = true) (data : List Byte) :
    ∃ t, exec (.twlTransferDone none data) s = .next t ∧ t.bus.twlRun = false ∧ t.get F.TWL_STATUS_RESULT = 1 ∧
      ∀ i, i < s.get F.TWL_XFER_RD_LEN → i < data.length → i < 32 → t.get (twlRead i) = numAt data i 1 := by
  refine ⟨_, exec_twlTransferDone_ok h data, ?_, ?_, fun i hlen hdata hi => ?_⟩
  · rw [settle_bus]
    rfl
  · rw [get_settle_twl _ (by decide) (by decide)]
    exact (get_set_apart _ F.TWL_STATUS_BUSY F.TWL_STATUS_RESULT _ (by decide)).trans
      (get_set_same _ F.TWL_STATUS_RESULT 1 (by decide))
  · have haddr : (twlRead i).addr = 0x42030 + 4 * (i / 4) := rfl
    rw [get_settle_twl _ (by omega) (by omega), get_congr (word_twlEnd 1 _ (by omega)),
      get_twlPuts _ s hi (by rw [List.length_take]; omega), numAt_take hlen]

/-! ## The start of a transfer -/

section
variable {p : Path} {v : Word} {clear : Option Bool} {s : State} (hadm : writeAdmitted p 0x42004 v s = true)
  (hrd : fieldOf v 24 8 ≤ 32) (hwr : fieldOf v 16 8 ≤ 32)
include hadm hrd hwr

/-- Without GO the lengths and the address are stored and nothing else happens. -/
theorem exec_twlGo_stores (hgo : bitOf v 0 = false) :
    exec (.twlGo p v clear) s = finish (storeWord (Path.origin p) 0x42004 (v &&& 0xFFFF7F00) s) := by
  refine congrArg finish ((withWrite_admitted _ hadm).trans ?_)
  unfold twlGo
  rw [if_neg (by omega), hgo]
  rfl

/-- With GO, EN set and BUSY clear a transfer starts where the bus is free, or ends with 6 where it is not (R558). -/
theorem exec_twlGo_starts (hgo : bitOf v 0 = true) (hbusy : s.flag F.TWL_STATUS_BUSY = false)
    (hen : s.flag F.TWL_CFG_EN = true) : exec (.twlGo p v clear) s = finish (
      let s1 := ((storeWord (Path.origin p) 0x42004 (v &&& 0xFFFF7F00) s).set F.TWL_STATUS_RETRIES_USED 0).set
        F.TWL_STATUS_RESULT 0
      if s1.flag F.TWL_STATUS_STUCK then twlBusy (twlResult 6 s1)
      else match clear with
        | some false => twlBusClear false (twlResult 6 s1)
        | _ =>
          let s2 := s1.send (.twl (twlBytes s1))
          twlBusy { s2 with bus := { s2.bus with twlRun := true } }) := by
  refine congrArg finish ((withWrite_admitted _ hadm).trans ?_)
  unfold twlGo
  rw [if_neg (by omega), hgo, hbusy, hen]
  dsimp only
  rw [if_neg (by decide), if_pos rfl]
  split
  · rfl
  · rcases clear with _ | _ | _ <;> rfl

end

/-! ## Its ends -/

/-- A lost arbitration is repeated while retries are left (R557). -/
theorem exec_twlArbLost_runs {s : State} (h : s.bus.twlRun = true) (byte : BitVec 6) (bit : BitVec 3) :
    exec (.twlArbLost byte bit) s = finish (
      let s1 := raise C.TWL_ARB_LOST (((s.set F.TWL_STATUS_ARB_BYTE byte.toNat).set F.TWL_STATUS_ARB_BIT bit.toNat).bump
        F.TWL_CNT_ARB_VALUE 1)
      let n := s1.get F.TWL_STATUS_RETRIES_USED
      if n < s1.get F.TWL_CFG_RETRIES then (s1.set F.TWL_STATUS_RETRIES_USED (n + 1)).send (.twl (twlBytes s1))
      else twlBusy (twlResult 4 s1)) := congrArg finish (if_pos h)

theorem exec_twlTransferDone_nack {s : State} (h : s.bus.twlRun = true) (nack : BitVec 6) (data : List Byte) :
    exec (.twlTransferDone (some nack) data) s = finish (twlBusy ((twlResult
      (if nack = 0 ∨ nack.toNat = s.get F.TWL_XFER_WR_LEN + 1 then 2 else 3) s).set F.TWL_STATUS_NACK_BYTE
        nack.toNat)) :=
  congrArg finish (if_pos h)

/-! ## TWL_CTRL -/

/-- ABORT alone ends a running transfer (R558). -/
theorem twlCtrl_abort {v : Word} {free : Bool} {s : State} (habort : bitOf v 0 = true) (hclear : bitOf v 1 = false)
    (hrun : s.bus.twlRun = true) : (twlCtrl v free s).1 = twlBusy (twlResult 7 s) := by
  unfold twlCtrl
  rw [habort, hclear, hrun]
  rfl

theorem twlCtrl_clear_idle {v : Word} {free : Bool} {s : State} (hclear : bitOf v 1 = true)
    (hrun : s.bus.twlRun = false) : (twlCtrl v free s).1 = twlClearNew free s := by
  unfold twlCtrl
  rw [hrun, Bool.and_false, if_neg Bool.false_ne_true]
  dsimp only
  rw [hclear, hrun]
  rfl

theorem twlCtrl_clear_running {v : Word} {free : Bool} {s : State} (hclear : bitOf v 1 = true)
    (habort : bitOf v 0 = false) (hrun : s.bus.twlRun = true) :
    (twlCtrl v free s).1 = twlClearNew free (twlResult 7 s) := by
  unfold twlCtrl
  rw [habort, Bool.false_and, if_neg Bool.false_ne_true]
  dsimp only
  rw [hclear, hrun]
  rfl

theorem twlCtrl_clear_aborting {v : Word} {free : Bool} {s : State} (hclear : bitOf v 1 = true)
    (habort : bitOf v 0 = true) (hrun : s.bus.twlRun = true) :
    (twlCtrl v free s).1 = twlClearNew free (twlBusy (twlResult 7 s)) := by
  unfold twlCtrl
  rw [habort, hrun, hclear]
  rfl

theorem bitOf_and_one (v : Word) : bitOf (v &&& 1) 0 = bitOf v 0 ∧ bitOf (v &&& 1) 1 = false := by
  constructor <;> simp [bitOf]

/-- Settles O46: each clause decides the tests of its meaning, and the bytes read are put one by one. -/
theorem twoWireLocalCommandsComplete : Obligations.TwoWireLocalCommandsComplete := by
  unfold Obligations.TwoWireLocalCommandsComplete
  intro p v nack byte bit free clear data s
  refine ⟨fun hadm hrd hwr => ⟨exec_twlGo_stores hadm hrd hwr, fun hgo hbusy hen => ?starts⟩, fun hrun => ?ends,
    fun hadm => ⟨fun habort hrun => ?abort, fun hclear => ?clear⟩, fun hcycle => congrArg finish (if_pos hcycle)⟩
  case starts =>
    have hexec := exec_twlGo_starts (clear := clear) hadm hrd hwr hgo hbusy hen
    refine ⟨fun hstuck => hexec.trans (congrArg finish (if_pos hstuck)), fun hstuck hlow => hexec.trans ?_,
      fun hstuck hlow => hexec.trans ?_⟩
    · subst hlow
      exact congrArg finish (if_neg (by rw [hstuck]; decide))
    · dsimp only
      rw [hstuck, if_neg Bool.false_ne_true]
      rcases clear with _ | _ | _
      · rfl
      · exact absurd rfl hlow
      · rfl
  case ends =>
    exact ⟨twlTransferDone_reads hrun data, exec_twlTransferDone_nack hrun nack data,
      exec_twlArbLost_runs hrun byte bit, congrArg finish (if_pos hrun)⟩
  case abort =>
    obtain ⟨hbit, hnone⟩ := bitOf_and_one v
    exact congrArg finish ((withWrite_admitted _ hadm).trans (twlCtrl_abort (hbit.trans habort) hnone hrun))
  case clear =>
    have ctrl {t : State} (h : (twlCtrl v free s).1 = t) : exec (.twlClear p v free) s = .next (settle t) :=
      congrArg finish ((withWrite_admitted _ hadm).trans h)
    exact ⟨fun hrun => ctrl (twlCtrl_clear_idle hclear hrun),
      fun hrun habort => ctrl (twlCtrl_clear_running hclear habort hrun),
      fun hrun habort => ctrl (twlCtrl_clear_aborting hclear habort hrun)⟩

end Sys2Proof.Proofs
end

section
/-!
SUPPORT. The field inputs and outputs (R435 to R461): marking a group leaves the part of the field interface, an
acknowledgement clears the pairs it hits and no other, and the remaining commands act under their conditions.
-/

namespace Sys2Proof.Proofs

open Sys2Proof Sys2Proof.Machine Sys2Proof.Laws

/-! ## Cross-wiring (R450, R461) -/

@[simp] theorem dio_doMark (f : Fld) (x : Nat) (b : Bool) (s : State) : (doMark f x b s).dio = s.dio :=
  foldl_keeps State.dio (fun s m => s.setB (bitFld f m) b) (fun s m => setB_dio s (bitFld f m) b) (doGroup s x) s

/-- An acknowledgement that hits no held pair changes nothing, while the recorded pair is held. -/
theorem crossAck_none {v : Word} {s : State}
    (hmiss : ∀ e ∈ s.dio.pairs, ∀ m ∈ doGroup s e.1 ++ doGroup s e.2, bitOf v m = false)
    (hheld : s.dio.pairs.contains (s.get F.DIO_DO_CROSS_ON_CH, s.get F.DIO_DO_CROSS_OFF_CH) = true) :
    (crossAck v s).1 = s := by
  have hhit : ∀ e ∈ s.dio.pairs, (doGroup s e.1 ++ doGroup s e.2).any (fun m => bitOf v m) = false := fun e he =>
    List.any_eq_false.2 (fun m hm => by rw [hmiss e he m hm]; decide)
  have hnone : s.dio.pairs.filter (fun e => (doGroup s e.1 ++ doGroup s e.2).any (fun m => bitOf v m)) = [] :=
    List.filter_eq_nil_iff.2 (fun e he => by rw [hhit e he]; decide)
  have hall : s.dio.pairs.filter (fun e => !(doGroup s e.1 ++ doGroup s e.2).any (fun m => bitOf v m)) = s.dio.pairs :=
    List.filter_eq_self.2 (fun e he => by rw [hhit e he]; rfl)
  unfold crossAck
  dsimp only
  rw [hnone, List.foldl_nil, hall, hheld]
  rfl

/-- An acknowledgement of the one held pair clears its faults and VALID. -/
theorem crossAck_one {v : Word} {i j : Nat} {s : State} (hpair : s.dio.pairs = [(i, j)])
    (hhit : ∃ m ∈ doGroup s i ++ doGroup s j, bitOf v m = true) :
    (crossAck v s).1 = { doMark F.DIO_DO_FAULT_CROSS j false (doMark F.DIO_DO_FAULT_CROSS i false s) with
      dio := { s.dio with pairs := [] } }.setB F.DIO_DO_CROSS_VALID false := by
  have hany : (doGroup s i ++ doGroup s j).any (fun m => bitOf v m) = true := List.any_eq_true.2 hhit
  unfold crossAck
  dsimp only
  rw [hpair, List.filter_cons_of_pos (by exact hany), List.filter_nil, List.foldl_cons, List.foldl_nil, dio_doMark,
    dio_doMark, hpair, List.filter_cons_of_neg (by rw [hany]; decide), List.filter_nil]
  rfl

/-! ## Faults, filters and the host timeout -/

theorem exec_fieldSupplyLow_runs {s : State} (hrun : 100 ≤ s.dio.lowRun) (hnew : s.flag F.DIO_FIELD_LOW = false) :
    exec .fieldSupplyLow s = finish (causeRec C.FIELD_SUPPLY_LOW sevWarning [] (s.setB F.DIO_FIELD_LOW true)) :=
  congrArg finish (if_pos ⟨hrun, hnew⟩)

/-- The end of external drive acts at the group of the output (R449). -/
theorem exec_extClear_runs {x : Nat} {s : State} (hx : x < 8) (hrun : 1000 ≤ tabGet s.dio.extLow (doLead s x) 0) :
    exec (.extClear x) s = finish (doMark F.DIO_DO_FAULT_EXT (doLead s x) false s) :=
  congrArg finish ((if_pos hx).trans (if_pos hrun))

/-- A switch that turns itself off at its junction limit is recorded once (R448). -/
theorem exec_doThermal_new {x : Nat} {s : State} (hx : x < 8) (hpower : hostPowered s = true)
    (hnew : doHas s F.DIO_DO_FAULT_THERM (doLead s x) = false) : exec (.doThermal x) s =
      finish (causeRec C.DO_THERMAL sevWarning [] (doMark F.DIO_DO_FAULT_THERM (doLead s x) true
        (doOff (doLead s x) s))) :=
  congrArg finish ((if_pos ⟨hx, hpower⟩).trans (if_neg (by rw [hnew]; decide)))

/-- Settles O28: each clause decides the tests of its meaning; the cross-wiring clauses compute the pairs kept. -/
theorem fieldInputAndOutputCommandsComplete : Obligations.FieldInputAndOutputCommandsComplete := by
  unfold Obligations.FieldInputAndOutputCommandsComplete
  intro p cur volts ohms limit cool volt value x s
  refine ⟨fun hpower => ⟨congrArg finish (if_pos hpower), congrArg finish (if_pos hpower)⟩, exec_fieldSupplyLow_runs,
    fun hrun => congrArg finish (if_pos hrun), fun hx => congrArg finish (if_pos hx),
    fun hx => ⟨congrArg finish (if_pos hx), congrArg finish (if_pos hx), exec_extClear_runs hx, exec_doThermal_new hx⟩,
    fun hdue => congrArg finish (if_pos hdue), rfl, fun hadm => congrArg finish (withWrite_admitted _ hadm),
    fun hset hactive hpower => congrArg finish (if_pos ⟨hset, hactive, hpower⟩), fun hadm _ => ?one,
    fun hadm hmiss hheld =>
      congrArg finish ((withWrite_admitted _ hadm).trans (crossAck_none hmiss hheld))⟩
  case one =>
    exact fun hpair hhit => congrArg finish ((withWrite_admitted _ hadm).trans (crossAck_one hpair hhit))

end Sys2Proof.Proofs
end

section
/-!
SUPPORT. The commands of a CAN channel (R531 to R544): what decides whether a frame is taken, a load is valid, and an
attempt under way ends.
-/

namespace Sys2Proof.Proofs

open Sys2Proof Sys2Proof.Machine Sys2Proof.Laws

section
variable {ch : CanCh} {ide fdf brs esi : Bool} {id : BitVec 29} {data : List Byte} {s : State}

/-- A channel that runs takes a frame of a format it knows (R531, R535). -/
theorem exec_canFrameReceive_taken (rtr : Bool) (hon : canOn s ch = true) (hfd : fdf = false ∨ canFdEn s ch = true) :
    exec (.canFrameReceive ch ide id rtr fdf brs esi data) s = finish (if rtr then canGood ch s
      else canIn ch ide id.toNat ⟨data.length, fdf, brs, esi, data, s.time⟩ s) := by
  refine congrArg finish (if_neg ?_)
  rw [hon]
  obtain hfd | hfd := hfd <;> rw [hfd] <;> simp

theorem exec_canFrameReceive_ignored (rtr : Bool)
    (h : canOn s ch = false ∨ (fdf = true ∧ canFdEn s ch = false)) :
    exec (.canFrameReceive ch ide id rtr fdf brs esi data) s = finish s := by
  refine congrArg finish (if_pos ?_)
  obtain hoff | ⟨hfdf, hen⟩ := h
  · rw [hoff]
    rfl
  · rw [hfdf, hen]
    exact Bool.or_true _

end

/-- A LOAD of a valid free object puts its frame there (R538). -/
theorem txLoad_valid {ch : CanCh} {o : Origin} {v : Word} {s : State} (hload : bitOf v 0 = true)
    (hident : (txIdent s ch (s.get (canFld ch 0x380 0 5))).isNone = false)
    (howned : txOwned s ch (s.get (canFld ch 0x380 0 5)) = false)
    (hfree : s.flag (txPend ch (s.get (canFld ch 0x380 0 5))) = false)
    (hlen : lenOk (s.flag (canFld ch 0x384 8 1)) (s.get (canFld ch 0x384 0 8)) = true)
    (hfd : s.flag (canFld ch 0x384 8 1) = false ∨ canFdEn s ch = true) :
    (txLoad ch o v s).1 = txPut ch (s.get (canFld ch 0x380 0 5)) ⟨s.get (canFld ch 0x384 0 8),
      s.flag (canFld ch 0x384 8 1), s.flag (canFld ch 0x384 9 1), false,
      ((List.range 16).map (fun w => u32 (s.word (canBase ch + 0x3A0 + 4 * w)).toNat)).flatten.take
        (s.get (canFld ch 0x384 0 8)), 0⟩ s := by
  have hnofd : (s.flag (canFld ch 0x384 8 1) && !canFdEn s ch) = false := by
    obtain hfd | hfd := hfd <;> rw [hfd] <;> simp
  unfold txLoad
  rw [if_pos hload]
  dsimp only
  rw [hident, howned, hfree, hlen, hnofd]
  rfl

/-- With an attempt of its own under way a channel that runs loses its arbitration (R539). -/
theorem exec_canArbitrationLost_current {ch : CanCh} {i : Nat} {s : State} (hon : canOn s ch = true)
    (hcur : (canChan s ch).cur = some i) :
    exec (.canArbitrationLost ch) s = finish (txRetry ch (s.set (canAckRun ch) 0)) :=
  congrArg finish (if_pos (by rw [hon, hcur]; rfl))

/-- An error counts, and a commit that waits for the bus applies where the channel goes bus-off (R534, R541). -/
theorem exec_canError_counts {ch : CanCh} {tx dom : Bool} {lec : BitVec 3} {i : Nat} {s : State}
    (hon : canOn s ch = true) (htx : tx = false ∨ (canChan s ch).cur = some i) :
    exec (.canError ch tx lec dom) s = finish (
      let s1 := canError ch tx lec.toNat dom s
      if idleNow (canBlock ch) s1 then applyCommit (canBlock ch) s1 else s1) := by
  refine congrArg finish (if_pos ?_)
  rw [hon]
  obtain htx | hcur := htx
  · rw [htx]
    rfl
  · rw [hcur, Option.isSome_some, Bool.or_true, Bool.and_true]

/-- A bus-off that is not held, or whose hold a host has released, ends (R542). -/
theorem exec_canBusOffRecover_free {ch : CanCh} {s : State} (hoff : s.flag (canBusOff ch) = true)
    (hfree : s.flag (canFld ch 0 8 1) = false ∨ (canChan s ch).released = true) :
    exec (.canBusOffRecover ch) s = finish (canBack ch s) := by
  refine congrArg finish (if_pos ?_)
  rw [hoff]
  obtain hheld | hreleased := hfree
  · rw [hheld]
    rfl
  · rw [hreleased, Bool.or_true, Bool.and_true]

/-- Settles O27: each clause decides the tests of its meaning. -/
theorem canCommandsComplete : Obligations.CanCommandsComplete := by
  unfold Obligations.CanCommandsComplete
  intro p ch ide fdf brs esi tx dom id lec value data i s
  have admitted {a : Nat} {f : State → State × WRes} {t : State} (hadm : writeAdmitted p a value s = true)
      (h : (f s).1 = t) : finish (withWrite p a value f s) = .next (settle t) :=
    congrArg finish ((withWrite_admitted f hadm).trans h)
  refine ⟨fun hon hfd => ⟨exec_canFrameReceive_taken false hon hfd, exec_canFrameReceive_taken true hon hfd⟩,
    fun h rtr => exec_canFrameReceive_ignored rtr h, fun hadm => admitted hadm rfl,
    fun hadm hload hident howned hfree hlen hfd => admitted hadm (txLoad_valid hload hident howned hfree hlen hfd),
    fun hadm => admitted hadm rfl,
    fun hon hcur => ⟨congrArg finish (if_pos hon), exec_canArbitrationLost_current hon hcur⟩, exec_canError_counts,
    exec_canBusOffRecover_free, fun hadm => admitted hadm rfl⟩

end Sys2Proof.Proofs
end

section
/-!
SUPPORT. Links, addresses, PTP and network time (R494 to R519): under the conditions of a clause the tests of the
meaning are decided.
-/

namespace Sys2Proof.Proofs

open Sys2Proof Sys2Proof.Machine Sys2Proof.Laws

/-! ## Links and addresses -/

/-- What LINK_CHANGE writes of a link that is up (R494). -/
def linkShownUp (pt : EthPort) (speed : BitVec 2) (duplex : Bool) (s : State) : State :=
  ((s.setB (F.ETH_STAT_LINK (portIdx pt)) true).set (F.ETH_STAT_SPEED_ACT (portIdx pt)) speed.toNat).setB
    (F.ETH_STAT_DUPLEX (portIdx pt)) (duplex || speed == 3)

/-- What LINK_CHANGE writes of a link that is down. -/
def linkShownDown (pt : EthPort) (s : State) : State :=
  ((s.setB (F.ETH_STAT_LINK (portIdx pt)) false).set (F.ETH_STAT_SPEED_ACT (portIdx pt)) 0).setB
    (F.ETH_STAT_DUPLEX (portIdx pt)) false

theorem exec_linkChange_up {pt : EthPort} {speed : BitVec 2} {duplex : Bool} {s : State}
    (hen : s.flag (F.ETH_PHY_EN (portIdx pt)) = true) (hon : switchOn s = true) :
    exec (.linkChange pt true speed duplex) s = finish (if s.flag (F.ETH_STAT_LINK (portIdx pt)) then
      linkShownUp pt speed duplex s else raise C.LINK_CHANGE (linkShownUp pt speed duplex s)) := by
  change execLinkChange pt true speed duplex s = _
  unfold execLinkChange
  dsimp only
  rw [hen, hon, Bool.and_self, Bool.and_self, if_pos rfl, Bool.true_and]
  cases s.flag (F.ETH_STAT_LINK (portIdx pt))
  · exact congrArg finish (if_pos rfl)
  · exact congrArg finish (if_neg (by decide))

theorem exec_linkChange_down (pt : EthPort) (speed : BitVec 2) (duplex : Bool) (s : State) :
    exec (.linkChange pt false speed duplex) s = finish (if s.flag (F.ETH_STAT_LINK (portIdx pt)) then
      raise C.LINK_CHANGE (linkShownDown pt s) else linkShownDown pt s) := by
  change execLinkChange pt false speed duplex s = _
  unfold execLinkChange
  dsimp only
  rw [Bool.false_and, Bool.false_and, Bool.false_and]
  cases s.flag (F.ETH_STAT_LINK (portIdx pt)) <;> rfl

theorem exec_macAddressAgeOut_known {src : BitVec 48} {m : Mac} {s : State}
    (h : s.net.macs.find? (fun x => x.addr == src) = some m) : exec (.macAddressAgeOut src) s =
      finish { s.at (m.seen + 300 * sec) with net := { s.net with
        macs := s.net.macs.filter (fun x => x.addr != src) } } := by
  change execMacAddressAgeOut src s = _
  rw [execMacAddressAgeOut, h]
  rfl

/-- Without a lease the client tries at its instant (R502). -/
theorem exec_dhcpRetry_tries {s : State} (hdhcp : s.net.dhcp = true) (hip : s.get F.ETH_IP_ACT_VALUE = 0)
    (hon : switchOn s = true) (lease : Option (BitVec 32 × BitVec 32 × BitVec 32)) :
    exec (.dhcpRetry lease) s = finish (
      let s1 := s.at s.net.dhcpAt
      match lease with
      | some (ip, mask, gw) => { s1 with net := { s1.net with
          ip := ip.toNat, mask := mask.toNat, gw := gw.toNat } }.set F.ETH_IP_ACT_VALUE ip.toNat
      | none => { s1 with net := { s1.net with dhcpAt := s1.time + 30 * sec } }) :=
  (congrArg finish (if_pos (by rw [hdhcp, hip, hon]; rfl))).trans (by rcases lease with _ | ⟨_, _, _⟩ <;> rfl)

/-! ## PTP -/

/-- PTP_CFG's enable of a port. -/
def ptpEnabled (pt : EthPort) : Fld := match pt with | .eth1 => F.PTP_CFG_PORT1_EN | .eth2 => F.PTP_CFG_PORT2_EN

/-- What an Announce message gives: grandmaster, port states and time properties (R515, R527, R528). -/
def announced (gm : Nat) (port1 port2 : Nat) (utc : Int) (uv ps : Bool) (s : State) : State :=
  let s1 := s.set64 F.PTP_GM_LO_VALUE F.PTP_GM_HI_VALUE gm
  let s2 := { s1 with net := { s1.net with lastAnnounce := some s1.time } }
  let s3 := ((s2.set F.PTP_STATUS_PORT1_STATE port1).set F.PTP_STATUS_PORT2_STATE port2).setI F.PTP_UTC_VALUE utc
  (s3.setB F.PTP_STATUS_UTC_VALID uv).setB F.PTP_STATUS_PTP_TS ps

/-- The grandmaster's words are none of PTP_CFG's. -/
theorem portState_set64 (pt : EthPort) (v : BitVec 4) (gm : Nat) (s : State) :
    portState (ptpEnabled pt) v (s.set64 F.PTP_GM_LO_VALUE F.PTP_GM_HI_VALUE gm) =
      if s.flag (ptpEnabled pt) then v.toNat else 0 := by
  have hcfg : (ptpEnabled pt).addr ≠ F.PTP_GM_LO_VALUE.addr ∧ (ptpEnabled pt).addr ≠ F.PTP_GM_HI_VALUE.addr := by
    cases pt <;> decide
  obtain ⟨hlo, hhi⟩ := hcfg
  rw [portState, flag_congr (word_set64_other s _ _ gm hlo hhi)]

theorem exec_ptpAnnounce_taken {pt : EthPort} {gm : BitVec 64} {p1 p2 : BitVec 4} {utc : BitVec 16} {uv ps : Bool}
    {s : State} (hruns : ptpRuns s = true) (hprofile : s.get F.PTP_CFG_PROFILE ≠ 0)
    (hen : s.flag (ptpEnabled pt) = true) :
    exec (.ptpAnnounce pt gm p1 p2 utc uv ps) s = finish (
      let s4 := announced gm.toNat (if s.flag (ptpEnabled .eth1) then p1.toNat else 0)
        (if s.flag (ptpEnabled .eth2) then p2.toNat else 0) utc.toInt uv ps s
      if s.get64 F.PTP_GM_LO_VALUE F.PTP_GM_HI_VALUE = gm.toNat then s4 else raise C.GM_CHANGE s4) := by
  have hgate : (ptpRuns s && s.get F.PTP_CFG_PROFILE != 0 && s.flag (ptpEnabled pt)) = true := by
    rw [hruns, hen, bne_iff_ne.2 hprofile]
    rfl
  rw [← portState_set64 .eth1 p1 gm.toNat s, ← portState_set64 .eth2 p2 gm.toNat s]
  exact congrArg finish ((if_pos hgate).trans (ite_not _ _ _))

theorem exec_ptpSyncTimeout_locked {t : Nat} {s : State} (hlast : s.net.lastSample = some t)
    (hst : s.get F.PTP_STATUS_STATE = 3) :
    exec .ptpSyncTimeout s = finish (enterHoldover (s.at (t + 4 * syncInterval s))) := by
  change execPtpSyncTimeout s = _
  rw [execPtpSyncTimeout, hlast]
  exact congrArg finish (if_pos hst)

theorem exec_announceTimeout_due {t : Nat} {s : State} (hlast : s.net.lastAnnounce = some t) :
    exec .announceTimeout s = finish (
      let s1 := s.at (t + announceLimit s)
      enterHoldover { s1 with net := { s1.net with lastAnnounce := none } }) := by
  change execAnnounceTimeout s = _
  rw [execAnnounceTimeout, hlast]

theorem exec_holdMaxExpiry_due {t : Nat} {s : State} (hlast : s.net.lastLocked = some t)
    (hst : s.get F.PTP_STATUS_STATE ≠ 3) :
    exec .holdMaxExpiry s = finish (updateValid (s.at (t + s.get F.PTP_HOLDMAX_HOLD_MAX * sec))) := by
  change execHoldMaxExpiry s = _
  rw [execHoldMaxExpiry, hlast]
  exact congrArg finish (if_neg hst)

/-- Settles O44: each clause decides the tests of its meaning. -/
theorem networkCommandsComplete : Obligations.NetworkCommandsComplete := by
  unfold Obligations.NetworkCommandsComplete
  intro p pt speed duplex uv ps len t dst src tag ptp full m ip mask gw delay v theta gm p1 p2 utc s
  have admitted {a : Nat} {w : Word} {f : State → State × WRes} (hadm : writeAdmitted p a w s = true) :
      finish (withWrite p a w f s) = .next (settle (f s).1) := congrArg finish (withWrite_admitted f hadm)
  exact ⟨⟨exec_linkChange_up, exec_linkChange_down pt speed duplex s⟩, rfl, exec_macAddressAgeOut_known,
    fun hadm => admitted hadm,
    fun hdhcp hip hon => ⟨exec_dhcpRetry_tries hdhcp hip hon (some (ip, mask, gw)),
      exec_dhcpRetry_tries hdhcp hip hon none⟩,
    fun hruns => ⟨congrArg finish (if_pos hruns), exec_ptpAnnounce_taken hruns⟩, exec_ptpSyncTimeout_locked,
    exec_announceTimeout_due, exec_holdMaxExpiry_due,
    fun a ha hadm => (congrArg finish (if_pos ha)).trans (admitted hadm), fun hadm => admitted hadm,
    fun hpower => congrArg finish (if_pos hpower)⟩

end Sys2Proof.Proofs
end

section
/-!
SUPPORT. Image transfers, verification, confirmation and the relay (R588 to R596, R614): under the conditions of a
clause the tests of the meaning are decided.
-/

namespace Sys2Proof.Proofs

open Sys2Proof Sys2Proof.Machine Sys2Proof.Laws

/-! ## Transfers -/

/-- An FW_BEGIN that passes its checks begins a transfer (R590). -/
theorem doFwBegin_begins {c : Ctx} {typ size : Nat} {s : State} (h1 : 1 ≤ typ) (h3 : typ ≤ 3) (hlow : 257 ≤ size)
    (hhigh : size ≤ imageLimit typ) (htakes : typeTakes c typ s = true) (hxfer : s.fwu.xfer = none)
    (hho : s.fwu.ho = none) (hpln : s.fwu.pln = none) (hunc : s.flag F.FWU_STATUS_UNCONFIRMED = false) :
    doFwBegin c typ size s = relayBegun c (replyOk c 0x0A00 [] (beginXfer c typ size s)) := by
  unfold doFwBegin
  rw [if_neg (by omega), if_neg (by omega), htakes, hxfer, hho, hpln, hunc, if_neg (by decide), Option.any_none,
    if_neg Bool.false_ne_true, if_neg (by simp), if_neg (by simp)]

section
variable {c : Ctx} {x : Xfer} {s : State} (hxfer : s.fwu.xfer = some x) (howns : ownsXfer c x = true)
include hxfer howns

/-- A block at the expected offset inside the size is appended to the bank (R591). -/
theorem doFwData_appends {off : Nat} {data : List Byte} (h1 : 1 ≤ data.length) (h1020 : data.length ≤ 1020)
    (hoff : off = s.get F.FWU_XFER_OFFSET_VALUE) (hsize : off + data.length ≤ x.size) :
    doFwData c off data s =
      let b := xferBank s x.typ
      let k := getBank s b
      let s1 := setBank b { k with bytes := k.bytes ++ data } s
      let s2 := { s1 with fwu := { s1.fwu with xfer := some { x with at_ := s1.time } } }
      replyOk c 0x0A01 [] (s2.set F.FWU_XFER_OFFSET_VALUE (off + data.length)) := by
  unfold doFwData
  rw [if_neg (by omega), hxfer]
  dsimp only
  rw [howns, if_neg (by decide), if_neg (not_not.2 hoff), if_neg (by omega)]

theorem doFwVerify_starts (hverify : s.fwu.verify = none) :
    doFwVerify c s = { replyAccepted c 0x0A02 s with fwu := { s.fwu with verify := some c } }.setB
      F.FWU_STATUS_VERIFY_BUSY true := by
  unfold doFwVerify
  rw [hxfer]
  dsimp only
  rw [howns, hverify]
  rfl

end

theorem exec_transferAbort_open {x : Xfer} {s : State} (hxfer : s.fwu.xfer = some x) :
    exec .transferAbort s = finish (
      let s1 := s.at (x.at_ + 60 * sec)
      closeXfer (addRec sevWarning 0x10 0x0010 (u8 x.typ ++ u32 (s1.get F.FWU_XFER_OFFSET_VALUE)) s1)) := by
  change execTransferAbort s = _
  rw [execTransferAbort, hxfer]

theorem exec_fwVerifyDone_running {c : Ctx} {err : Bool} {s : State} (h : s.fwu.verify = some c) :
    exec (.fwVerifyDone err) s = finish (verifyDone c err s) := by
  change execFwVerifyDone err s = _
  rw [execFwVerifyDone, h]

/-- An admission leaves what FW_STATUS reads as it was. -/
theorem doFwStatus_admitted (c : Ctx) (s : State) : doFwStatus c (noteAdmit s) = replyOk c 0x0A06
    (((List.range 4).map (fun b => u8 (b / 2 + 1) ++ u8 (imgVersion (getBank s b)) ++ u8 (imgArb (getBank s b)) ++
      u8 (s.get (bankValid b)))).flatten ++ u32 (s.get F.FWU_XFER_OFFSET_VALUE)) (noteAdmit s) := by
  unfold doFwStatus
  simp only [noteAdmit_getBank, noteAdmit_get]

/-- 600 s without a failure confirm the image (R593). -/
theorem exec_fwConfirm_due {t : Nat} {s : State} (hdue : s.fwu.confirmAt = some t)
    (hunc : s.flag F.FWU_STATUS_UNCONFIRMED = true) (hgood : s.fwu.failed = false) :
    exec .fwConfirm s = finish (confirmImage 1 (({ s.at t with fwu := { s.fwu with confirmAt := none } }.setB
      F.FWU_STATUS_UNCONFIRMED false).set F.FWU_CONFIRM_S_VALUE 0)) := by
  change execFwConfirm s = _
  unfold execFwConfirm
  rw [hdue]
  exact congrArg finish (if_pos (by rw [hunc, hgood]; rfl))

/-! ## The relay -/

/-- With types to relay and a link the sender starts (R594). -/
theorem doFwRelay_starts {c : Ctx} {port hops : Nat} {s : State} (hport : port = 1 ∨ port = 2) (h1 : 1 ≤ hops)
    (h254 : hops ≤ 254) (hxfer : s.fwu.xfer = none) (hbusy : s.flag F.FWU_STATUS_RELAY_BUSY = false)
    (htypes : relayTypes s ≠ []) (hlink :
      let v := (replyAccepted c 0x0A05 s).fresh
      let s1 := (v.2.set F.FWU_RELAY_ID_VALUE (v.1 % 2 ^ 32)).set F.FWU_STATUS_HOPS_DONE 0
      linkUp s1 (portOf port) = true) :
    doFwRelay c port hops s =
      let v := (replyAccepted c 0x0A05 s).fresh
      let s1 := (v.2.set F.FWU_RELAY_ID_VALUE (v.1 % 2 ^ 32)).set F.FWU_STATUS_HOPS_DONE 0
      relayStart (some c) (portOf port) 1 (hops - 1) (v.1 % 2 ^ 32) (relayTypes s1) s1 := by
  unfold doFwRelay
  rw [if_neg (by omega), if_neg (by omega), hxfer, hbusy, List.isEmpty_eq_false_iff.2 htypes, if_neg (by decide),
    if_neg (by decide)]
  exact if_pos hlink

section
variable {tx : RelayTx} {id : Word} {p : EthPort} {s : State} (htx : s.fwu.tx = some tx)
include htx

/-- An answer of the neighbour that this module sends to (R595). -/
theorem exec_relayFrame_reply {hop left : BitVec 8} {bytes : List Byte} (hpower : hostPowered s = true)
    (hport : tx.port = p) (hid : tx.id = id.toNat) (hreply : isReply bytes = true) :
    exec (.relayFrame p hop left id bytes) s = finish (relayReply tx bytes s) := by
  have hours : s.fwu.tx.filter (fun x => x.port == p && x.id == id.toNat && isReply bytes) = some tx := by
    rw [htx, Option.filter_some, hport, hid, hreply, if_pos (by simp)]
  change execRelayFrame p hop left id bytes s = _
  unfold execRelayFrame
  rw [hours]
  exact congrArg finish (if_pos hpower)

/-- A progress frame that reaches the origin (R596). -/
theorem exec_relayProgress_origin {bytes : List Byte} (hpower : hostPowered s = true) (hctx : tx.ctx.isSome = true)
    (hport : tx.port = p) (hid : tx.id = id.toNat) :
    exec (.relayProgress p id bytes) s = finish (originProgress tx bytes s) := by
  have hours : s.fwu.tx.filter (fun x => x.ctx.isSome && x.port == p && x.id == id.toNat) = some tx := by
    rw [htx, Option.filter_some, hctx, hport, hid, if_pos (by simp)]
  change execRelayProgress p id bytes s = _
  unfold execRelayProgress
  rw [if_pos hpower, hours]

/-- A packet without a reply goes out again, up to three times (R595). -/
theorem exec_relayResend_again {seq : BitVec 16} {e : RelayPkt}
    (hfind : tx.flight.find? (fun e => e.seq == seq.toNat) = some e) (htries : e.tries < 3) :
    exec (.relayResend seq) s = finish (
      let s1 := s.at (e.at_ + 2 * sec)
      let again (y : RelayPkt) : RelayPkt :=
        if y.seq = e.seq then { y with tries := y.tries + 1, at_ := s1.time } else y
      let s2 := { s1 with fwu := { s1.fwu with tx := some { tx with flight := tx.flight.map again } } }
      s2.send (.relay tx.port 1 tx.hop tx.left tx.id e.bytes)) := by
  change execRelayResend seq s = _
  unfold execRelayResend
  rw [htx]
  dsimp only
  rw [hfind]
  exact congrArg finish (if_pos htries)

end

/-- Settles O48: each clause decides the tests of its meaning; an admission changes none of them. -/
theorem firmwareTransferCommandsComplete : Obligations.FirmwareTransferCommandsComplete := by
  unfold Obligations.FirmwareTransferCommandsComplete
  intro c typ port hops hop left size off id data bytes x t err p tx e seq s
  refine ⟨fun hadm h1 h3 hlow hhigh htakes hxfer hho hpln hunc => finish_withCmd_admitted hadm
      (doFwBegin_begins h1 h3 hlow hhigh htakes hxfer hho hpln hunc),
    fun hxfer => ⟨fun hadm h1 h1020 howns hoff hsize => finish_withCmd_admitted hadm
        (doFwData_appends (s := noteAdmit s) hxfer howns h1 h1020 hoff hsize),
      fun hadm howns hverify => finish_withCmd_admitted hadm (doFwVerify_starts (s := noteAdmit s) hxfer howns hverify),
      exec_transferAbort_open hxfer⟩,
    exec_fwVerifyDone_running, fun hadm => finish_withCmd_admitted hadm (doFwStatus_admitted c s),
    fun hadm hport h1 h254 hxfer hbusy htypes hlink => finish_withCmd_admitted hadm
      (doFwRelay_starts (s := noteAdmit s) (hport.imp (congrArg BitVec.toNat) (congrArg BitVec.toNat)) h1 h254 hxfer
        hbusy htypes hlink),
    exec_fwConfirm_due,
    fun htx hpower => ⟨exec_relayFrame_reply htx hpower, exec_relayProgress_origin htx hpower,
      exec_relayResend_again htx⟩⟩

end Sys2Proof.Proofs
end

section
/-!
SUPPORT. The hand-over, the activation of PLN and the exit from RECOVERY (R597 to R607): under the conditions of a
clause the tests of the meaning are decided.
-/

namespace Sys2Proof.Proofs

open Sys2Proof Sys2Proof.Machine Sys2Proof.Laws

/-! ## The hand-over -/

/-- The conditions of R597 decide between a hand-over and result 1. -/
theorem doFwActivateSup_met {c : Ctx} {s : State} (h : handoverOk s = true) : doFwActivateSup c s =
    { replyAccepted c 0x0A03 s with fwu := { (replyAccepted c 0x0A03 s).fwu with ho := some { ctx := c } } }.set
      F.FWU_STATUS_HO_STATE 1 := if_pos h

theorem doFwActivateSup_unmet {c : Ctx} {s : State} (h : handoverOk s = false) : doFwActivateSup c s =
    notifyOpt (some c) 0x0A03 stOk (u8 1) ((replyAccepted c 0x0A03 s).set F.FWU_LAST_HO_RES 1) :=
  if_neg (Bool.eq_false_iff.1 h)

section
variable {h : Handover} {t : Nat} {s : State} (hho : s.fwu.ho = some h)
include hho

/-- READY moves a hand-over on, or fails it with 2 (R598, R600). -/
theorem exec_handoverReady_waiting (hm1 : h.m1 = some t) (hst : s.get F.FWU_STATUS_HO_STATE = 1) (ok : Bool) :
    exec (.handoverReady ok) s = finish (if ok then s.set F.FWU_STATUS_HO_STATE 2 else handoverEnd 2 s) := by
  change execHandoverReady ok s = _
  unfold execHandoverReady
  rw [hho]
  exact congrArg finish (if_pos ⟨Option.isSome_iff_exists.2 ⟨t, hm1⟩, hst⟩)

theorem exec_handoverReadyTimeout_waiting (hm1 : h.m1 = some t) (hst : s.get F.FWU_STATUS_HO_STATE = 1) :
    exec .handoverReadyTimeout s = finish (handoverEnd 3 (s.at (t + 20 * sec))) := by
  change execHandoverReadyTimeout s = _
  unfold execHandoverReadyTimeout
  rw [hho]
  dsimp only
  rw [hm1]
  exact congrArg finish (if_pos hst)

/-- At Mk the result of the change of owner decides (R598, R600). -/
theorem exec_handoverDone_changing (hmk : h.mk_ = some t) (hst : s.get F.FWU_STATUS_HO_STATE = 3) (result : BitVec 8) :
    exec (.handoverDone result) s = finish (
      if result = 0 then takeOver t s
      else if result = 4 then handoverEnd 4 s
      else if result = 5 then
        if 2 ≤ h.misses then handoverEnd 5 s
        else { s with fwu := { s.fwu with ho := some { h with mk_ := none, misses := h.misses + 1 } } }.set
          F.FWU_STATUS_HO_STATE 2
      else if result = 7 then supLost 3 s
      else s) := by
  change execHandoverDone result s = _
  unfold execHandoverDone
  rw [hho]
  dsimp only
  rw [hmk]
  exact congrArg finish (if_pos hst)

end

/-! ## The activation of PLN -/

theorem doFwActivatePln_busy {c : Ctx} {s : State} (h : s.fwu.pln ≠ none) :
    doFwActivatePln c s = replyBusy c 0x0A04 100 s := if_pos (Option.isSome_iff_ne_none.2 h)

section
variable {c : Ctx} {s : State} (hpln : s.fwu.pln = none)
include hpln

/-- In RECOVERY the idle bank becomes the active one at once (R601). -/
theorem doFwActivatePln_recovery (hst : s.st = stRecovery) :
    doFwActivatePln c s = exitStart (plnResult c 0 ((replyAccepted c 0x0A04 s).set F.FWU_BANKS_ACT_PLN
      (idleBank (replyAccepted c 0x0A04 s) 2 % 2))) := by
  unfold doFwActivatePln
  rw [if_neg (by rw [hpln]; decide)]
  exact if_pos ((st_replyAccepted c 0x0A04 s).trans hst)

theorem doFwActivatePln_unmet (hst : s.st ≠ stRecovery) (hok : plnOk s = false) :
    doFwActivatePln c s = plnResult c 1 (replyAccepted c 0x0A04 s) := by
  unfold doFwActivatePln
  rw [if_neg (by rw [hpln]; decide)]
  dsimp only
  rw [st_replyAccepted, if_neg hst, hok]
  rfl

/-- Elsewhere the pause is announced, and ring and lanes stop (R602). -/
theorem doFwActivatePln_pauses (hst : s.st ≠ stRecovery) (hok : plnOk s = true) :
    doFwActivatePln c s =
      let s2 := eisAbandon 0x4 (balHalt (replyAccepted c 0x0A04 s))
      let s3 := lanesReady false ({ s2 with fwu := { s2.fwu with pln := some (c, s2.time) } }.setB
        F.FWU_STATUS_PLN_PAUSE true)
      (s3.set F.CVL_STATUS_MODE 0).set F.CVL_STATUS_GEN 0 := by
  unfold doFwActivatePln
  rw [if_neg (by rw [hpln]; decide)]
  dsimp only
  rw [st_replyAccepted, if_neg hst, hok, if_neg (by decide)]

end

/-- The activation ends with its result (R593, R602, R603). -/
theorem exec_plnActivationDone_running {c : Ctx} {t : Nat} {s : State} (h : s.fwu.pln = some (c, t)) (result : BitVec 8)
    (v : RingView) : exec (.plnActivationDone result v) s = finish (
      let n := imgVersion (getBank s (idleBank s 2))
      let x := { s with fwu := { s.fwu with pln := none } }
      if result = 0 then
        let y := plnBack v x
        let z := packRevShow (confirmImage 2 (y.set F.FWU_BANKS_ACT_PLN (idleBank y 2 % 2)))
        plnResult c 0 (plnRecord c 0 n (z.setB F.SYS_RESET_CAUSE_PLN_ACT true))
      else if result = 2 then plnResult c 2 (plnRecord c 2 n (plnBack v x))
      else if result = 3 then plnLost (plnRecord c 3 n (x.set F.FWU_LAST_PLN_RES 3))
      else s) := by
  change execPlnActivationDone result v s = _
  rw [execPlnActivationDone, h]

/-- A heartbeat that does not return 1 s after the pause is SEI (R603). -/
theorem exec_plnHeartbeatTimeout_paused {c : Ctx} {t : Nat} {s : State} (h : s.fwu.pln = some (c, t))
    (hpause : s.flag F.FWU_STATUS_PLN_PAUSE = true) : exec .plnHeartbeatTimeout s = finish (
      let s1 := s.at (t + sec)
      sei 0x0D { s1 with safe := { s1.safe with spBeat := false } }) := by
  change execPlnHeartbeatTimeout s = _
  unfold execPlnHeartbeatTimeout
  rw [h]
  exact congrArg finish (if_pos hpause)

theorem exec_recoveryExitTimeout_due {t : Nat} {b : BootPins} {s : State} (h : s.fwu.exitAt = some t)
    (hst : s.st = stRecovery) : exec (.recoveryExitTimeout b) s = finish (recoveryExit b (s.at t)) := by
  change execRecoveryExitTimeout b s = _
  unfold execRecoveryExitTimeout
  rw [h]
  exact congrArg finish (if_pos hst)

/-- Settles O49: each clause decides the tests of its meaning; an admission changes none of them. -/
theorem activationCommandsComplete : Obligations.ActivationCommandsComplete := by
  unfold Obligations.ActivationCommandsComplete
  intro c h t v b s
  refine ⟨fun hadm => ⟨fun hok => finish_withCmd_admitted hadm (doFwActivateSup_met hok),
      fun hok => finish_withCmd_admitted hadm (doFwActivateSup_unmet hok)⟩,
    fun hho => ⟨fun hm1 hst => ⟨exec_handoverReady_waiting hho hm1 hst true,
      exec_handoverReady_waiting hho hm1 hst false, exec_handoverReadyTimeout_waiting hho hm1 hst⟩,
      fun hmk hst => ?change⟩,
    fun hadm => ⟨fun hbusy => finish_withCmd_admitted hadm (doFwActivatePln_busy (s := noteAdmit s) hbusy),
      fun hpln hst => finish_withCmd_admitted hadm (doFwActivatePln_recovery (s := noteAdmit s) hpln hst),
      fun hpln hst hok => finish_withCmd_admitted hadm (doFwActivatePln_unmet (s := noteAdmit s) hpln hst hok),
      fun hpln hst hok => finish_withCmd_admitted hadm (doFwActivatePln_pauses (s := noteAdmit s) hpln hst hok)⟩,
    fun hpln => ?done, exec_recoveryExitTimeout_due⟩
  case change =>
    have hdone := exec_handoverDone_changing hho hmk hst
    exact ⟨hdone 0, hdone 4, hdone 7, fun hlate => (hdone 5).trans (congrArg finish (if_pos hlate)),
      fun hearly => (hdone 5).trans (congrArg finish (if_neg (Nat.not_le.2 hearly)))⟩
  case done =>
    have hdone (result : BitVec 8) := exec_plnActivationDone_running hpln result v
    exact ⟨hdone 0, hdone 2, hdone 3, exec_plnHeartbeatTimeout_paused hpln⟩

end Sys2Proof.Proofs
end
